-- ==== Sys2Proof/Word.lean ====
section
/-! DEFINITION. The word types of the PR-24 and the numbered things of its manual (00_scope.md 3.2).
Bit vectors are kept for the bytes of the two serial lines only; every quantity the manual counts in whole
numbers of a unit (Table 0-3) is a `Nat`, and a signed one an `Int`. -/

namespace Sys2Proof

/-- One byte on the depot link or on the bay line (R170, R187). -/
abbrev Byte := BitVec 8

/-- A bay, which is also a power-stage address (00_scope.md 3.2). -/
abbrev BayNo := Fin 24

/-- A class code (00_scope.md 3.2). -/
abbrev ClassNo := Fin 8

/-- A profile of the profile store (R52). -/
abbrev ProfileNo := Fin 8

/-- A stage position of a profile (R52). -/
abbrev StageNo := Fin 12

/-- A feeder circuit (R92). -/
abbrev FeederNo := Fin 4

/-- An allocation level; 3 is URGENT (R96). -/
abbrev LevelNo := Fin 4

/-- Every bay in ascending bay number. -/
def allBays : List BayNo := List.finRange 24

/-- Every class in ascending class code. -/
def allClasses : List ClassNo := List.finRange 8

/-- Every feeder in ascending feeder number. -/
def allFeeders : List FeederNo := List.finRange 4

end Sys2Proof
end

