-- ==== Sys2Proof/Syntax.lean ====
section
/-! DEFINITION. The commands of the PR-24: one constructor for each row of spec/opcode_table.json, in the
table's order. The operands are raw numbers as they stand on the lines, because the owners judge them (R175,
R185): a code that names nothing is an operand like any other and is refused RANGE by its owner. -/

namespace Sys2Proof

/-- The body of SET SITE (Table 10-2, kind 0x01). -/
structure SiteArgs where
  siteCap : Nat
  scheme : Nat
  lookahead : Nat
  window : Nat
  scanInterval : Nat
  deriving DecidableEq, Repr

/-- The body of SET CLASS less its class code (Table 10-2, kind 0x03). -/
structure ClassArgs where
  cells : Nat
  chemistry : Nat
  capacity : Nat
  twin : Nat
  minCell : Nat
  maxCell : Nat
  startLimit : Int
  hotLimit : Int
  abortLimit : Int
  coolTimeout : Nat
  restTime : Nat
  lowWater : Nat
  matchWindow : Nat
  equalizeInterval : Nat
  profile : Nat
  floor : Nat
  deriving DecidableEq, Repr

/-- The five cell voltages of SET OCV, in mV, for SoC 0, 25, 50, 75 and 100 % (R4). -/
structure OcvArgs where
  p0 : Nat
  p1 : Nat
  p2 : Nat
  p3 : Nat
  p4 : Nat
  deriving DecidableEq, Repr

/-- The header fields of SET PROFILE (Table 10-2, kind 0x05). -/
structure ProfileArgs where
  stageCount : Nat
  grantMode : Nat
  turnLength : Nat
  maintainStage : Nat
  sessionLimit : Nat
  deriving DecidableEq, Repr

/-- One exit of SET STAGE: the four bytes of Table 10-1. -/
structure ExitArgs where
  test : Nat
  sense : Nat
  action : Nat
  argument : Nat
  deriving DecidableEq, Repr

/-- The stage fields and exits of SET STAGE (Table 10-2, kind 0x06). -/
structure StageArgs where
  kind : Nat
  iset : Nat
  cellTarget : Nat
  coefficient : Int
  acceptance : Nat
  chargeLimit : Nat
  timeLimit : Nat
  taper : Nat
  settle : Nat
  plateau : Nat
  equalizeMark : Nat
  exits : List ExitArgs
  deriving DecidableEq, Repr

/-- The configuration fields of SET BAY (Table 10-2, kind 0x07). -/
structure BayArgs where
  feeder : Nat
  baseLevel : Nat
  defaultClass : Nat
  confirmMode : Nat
  masked : Nat
  deriving DecidableEq, Repr

/-- The commands and events of the part: the rows of spec/opcode_table.json. -/
inductive Instr where
  /-- POWER_ON: the supply reaches its operating range (R22, R182). -/
  | powerOn
  /-- POWER_LOSS: the supply is lost; `completed` is how many of the writes then on their way to the retained
  store are completed (R21, R184). -/
  | powerLoss (completed : Nat)
  /-- RESET_PIN_ASSERT: RESET is pulled low; `completed` as for POWER_LOSS (R177, R182). -/
  | resetPinAssert (completed : Nat)
  /-- RESET_PIN_RELEASE: RESET is released (R182). -/
  | resetPinRelease
  /-- RESTORE_END: the restore from the retained store ends (R182). -/
  | restoreEnd
  /-- STARTUP_HOLD_END: the part clock reaches the end of the startup hold (R110). -/
  | startupHoldEnd
  /-- DEPOT_MINUTE_ADVANCE: the part clock reaches the next whole minute (R183, R135). -/
  | depotMinuteAdvance
  /-- RESERVATION_GRACE_EXPIRY: reservations 30 minutes overdue are removed (R135). -/
  | reservationGraceExpiry
  /-- ISSUE_LAPSE: the entry of `machine` reaches its lapse time (R129). -/
  | issueLapse (machine : Nat)
  /-- TURN_EXPIRY: the turn of `bay` expires (R108). -/
  | turnExpiry (bay : BayNo)
  /-- SHED_EXPIRY: the running shed expires (R95). -/
  | shedExpiry
  /-- COOL_EXPIRY: the cool expiry of `bay` is reached (R34). -/
  | coolExpiry (bay : BayNo)
  /-- LOST_STAGE_EXPIRY: the lost-stage expiry of `bay` is reached (R165). -/
  | lostStageExpiry (bay : BayNo)
  /-- ROUND_START: a round of regular polls begins (R160). -/
  | roundStart
  /-- REGULAR_POLL: the round's walk polls the next bay (R157, R160). -/
  | regularPoll
  /-- PROMPT_POLL: the scanner polls the head of the prompt list (R162). -/
  | promptPoll
  /-- REPORT_RECEIVED: the bytes of a report have come in during the poll slot (R159, R187). -/
  | reportReceived (bytes : List Byte)
  /-- POLL_SLOT_TIMEOUT: the 30 ms of the poll slot pass without a complete report (R157). -/
  | pollSlotTimeout
  /-- THIRD_CONSECUTIVE_MISS: the slot that times out is the bay's third miss in a row (R164). -/
  | thirdConsecutiveMiss
  /-- FRAME_COMPLETE: the frame being received completes (R172); its length byte is the body's length + 1. -/
  | frameComplete (kind : Byte) (body : List Byte) (check : Byte)
  /-- FRAME_DISCARDED_BUSY: the frame being received completes while the link unit is busy (R173). -/
  | frameDiscardedBusy
  /-- BYTE_GAP_TIMEOUT: more than 20 ms pass between two bytes of a frame (R171). -/
  | byteGapTimeout
  /-- LENGTH_OUT_OF_RANGE: the length byte of a frame is 0 or above 62 (R171). -/
  | lengthOutOfRange (length : Byte)
  /-- REPLY_SENT: the last byte of the reply has left the TX pin (R173). -/
  | replySent
  /-- SET_SITE (kind 0x01, R176). -/
  | setSite (args : SiteArgs)
  /-- SET_FEEDER (kind 0x02, R93). -/
  | setFeeder (feeder cap : Nat)
  /-- SET_CLASS (kind 0x03, R2, R3). -/
  | setClass (code : Nat) (args : ClassArgs)
  /-- SET_OCV (kind 0x04, R4). -/
  | setOcv (code : Nat) (args : OcvArgs)
  /-- SET_PROFILE (kind 0x05, R55). -/
  | setProfile (profile : Nat) (args : ProfileArgs)
  /-- SET_STAGE (kind 0x06, R58). -/
  | setStage (profile stage : Nat) (args : StageArgs)
  /-- SET_BAY (kind 0x07, R27). -/
  | setBay (bay : Nat) (args : BayArgs)
  /-- MASK_BAY (kind 0x10, R43). -/
  | maskBay (bay : Nat)
  /-- UNMASK_BAY (kind 0x11, R44). -/
  | unmaskBay (bay : Nat)
  /-- STOP_BAY (kind 0x12, R41). -/
  | stopBay (bay : Nat)
  /-- START_BAY (kind 0x13, R42). -/
  | startBay (bay : Nat)
  /-- CLEAR_FAULT (kind 0x14, R151). -/
  | clearFault (bay : Nat)
  /-- ISSUE_CLASS (kind 0x18, R119 to R122). -/
  | issueClass (machine code : Nat)
  /-- ISSUE_BAY (kind 0x19, R123). -/
  | issueBay (machine bay : Nat) (second : Option Nat)
  /-- CONFIRM (kind 0x1A, R127). -/
  | confirm (machine : Nat)
  /-- CONFIRM_NEXT (kind 0x1B, R128). -/
  | confirmNext
  /-- CANCEL_ISSUE (kind 0x1C, R130). -/
  | cancelIssue (machine : Nat)
  /-- RESERVE (kind 0x1D, R134). -/
  | reserve (code machines dueIn : Nat)
  /-- DROP_RESERVATIONS (kind 0x1E, R136). -/
  | dropReservations (code : Nat)
  /-- SHED (kind 0x20, R94). -/
  | shed (cap duration : Nat)
  /-- REGISTER_PACK (kind 0x24, R17). -/
  | registerPack (tag code machine : Nat)
  /-- REMOVE_PACK (kind 0x25, R18). -/
  | removePack (tag : Nat)
  /-- RELEASE_PACK (kind 0x26, R155). -/
  | releasePack (tag : Nat)
  /-- ASSIGN_PACK (kind 0x27, R19). -/
  | assignPack (tag machine : Nat)
  /-- READ_BAY (kind 0x30, R51). -/
  | readBay (bay : Nat)
  /-- READ_PACK (kind 0x31, R20). -/
  | readPack (tag : Nat)
  /-- READ_CLASS (kind 0x32, R20). -/
  | readClass (code : Nat)
  /-- READ_GRANTS (kind 0x33, R112). -/
  | readGrants (first count : Nat)
  /-- READ_ISSUES (kind 0x34, R137). -/
  | readIssues
  /-- READ_RESERVATIONS (kind 0x35, R137). -/
  | readReservations
  /-- READ_FAULT (kind 0x36, R156). -/
  | readFault (bay : Nat)
  /-- READ_ATTENTION (kind 0x37, R179). -/
  | readAttention
  /-- SET_ATTENTION_MASK (kind 0x38, R180): the eight marks in the order of Table 10-1. -/
  | setAttentionMask (marks : Vector Nat 8)
  /-- CLEAR (kind 0x3F, R181). -/
  | clear
  /-- START_MARKER_RECEIVED: a 0xA5 byte arrives in HUNT (R171). -/
  | startMarkerReceived
  deriving DecidableEq, Repr

end Sys2Proof
end

