-- ==== Sys2Proof/Decode.lean ====
section
/-! DEFINITION. The commands that words spell. No row of spec/opcode_table.json has bits: a command of the PR-24 comes
in a frame (R170) whose length is not fixed, and an event comes in no word at all. Machine/Frames.lean reads the frames;
here every word spells no command. -/

namespace Sys2Proof

/-- The command that a word spells by the opcode table's bits: none, because no row has any. -/
def decodeTableWord (_nbits _w : Nat) : Option Instr := none

end Sys2Proof
end

