-- ==== Sys2Proof/Config.lean ====
section
/-! DEFINITION. What the manual fixes for every PR-24 (its time constants and table sizes) and the one
value it leaves open: the bytes of a reply for which it states no contents. -/

namespace Sys2Proof.Config

/-- The most pack records the register holds (R5). -/
def maxPacks : Nat := 96

/-- The most entries of the outstanding issue list (R118). -/
def maxIssues : Nat := 8

/-- The most entries of the reservation list (R133). -/
def maxReservations : Nat := 16

/-- The most frames of a session's hold stack (R66). -/
def maxFrames : Nat := 2

/-- The length of the startup hold in ms (R110). -/
def startupHold : Nat := 3000

/-- Milliseconds of one depot minute (R183). -/
def minute : Nat := 60000

/-- A poll slot waits this long for a report, in ms (R157). -/
def slotTime : Nat := 30

/-- The lost-stage expiry falls this long after an output-enabled poll, in ms (R165). -/
def lostStageTime : Nat := 3000

/-- An integration interval is cut to this many ms (R77). -/
def maxInterval : Nat := 5000

/-- Depot minutes a reservation is kept after it falls due (R135). -/
def grace : Nat := 30

/-- A bay leaves COOLING this many degrees below its class's start limit (R33). -/
def coolMargin : Int := 3

/-- The largest request, in units (R86). -/
def maxRequest : Nat := 200

/-- FREE VALUE (log entry 9): the byte a reply carries at an offset for which the manual states no contents.
The first argument is the draw (`State.freeDraw`), the second the offset in the reply body. It has no body, so
nothing can be proved of it. -/
opaque freeByte : Nat → Nat → BitVec 8

end Sys2Proof.Config
end

