-- ==== Sys2Proof/Machine/State.lean ====
section
/-! DEFINITION. The state of the PR-24 as plain data: every record, table and list the manual gives a block
(Table 0-2), block by block, with the values it gives after power-on, and the reasons a step can stop. -/

namespace Sys2Proof.Machine

/-! ## Pack register (chapter 1) -/

/-- The chemistry of a class (Table 1-1). -/
inductive Chemistry where
  | flooded
  | sealedCell
  | lithium
  deriving DecidableEq, Repr

/-- The open-circuit table of a class: cell voltages in mV at SoC 0, 25, 50, 75 and 100 % (R4). -/
structure Ocv where
  p0 : Nat
  p1 : Nat
  p2 : Nat
  p3 : Nat
  p4 : Nat
  deriving DecidableEq, Repr

/-- A defined class record (Table 1-1); `ocv = none` is ABSENT. -/
structure ClassRec where
  cells : Nat
  chemistry : Chemistry
  capacity : Nat
  twin : Bool
  minCell : Nat
  maxCell : Nat
  startLimit : Int
  hotLimit : Int
  abortLimit : Int
  coolTimeout : Nat
  restTime : Nat
  ocv : Option Ocv
  lowWater : Nat
  matchWindow : Nat
  equalizeInterval : Nat
  profile : ProfileNo
  floor : Nat
  deriving DecidableEq, Repr

/-- Where a registered pack is (R6). -/
inductive Place where
  | bay (b : BayNo)
  | machine (m : Nat)
  | unaccounted
  deriving DecidableEq, Repr

/-- The ten fault kinds (Table 7-1). -/
inductive FaultKind where
  | overtemp
  | overvolt
  | stageAlarm
  | interlock
  | stageLost
  | profile
  | timeout
  | profileStop
  | duplicate
  | mismatch
  deriving DecidableEq, Repr

/-- A pack's standing (R7). -/
inductive Standing where
  | serviceable
  | quarantined (cause : FaultKind)
  deriving DecidableEq, Repr

/-- A pack record (Table 1-2). -/
structure PackRec where
  tag : Nat
  cls : ClassNo
  place : Place
  standing : Standing
  charge : Nat
  known : Bool
  mark : Option Nat
  returns : Nat
  equalize : Nat
  lastMachine : Option Nat
  deriving DecidableEq, Repr

/-- The pack register's working memory: the class records (`none` = undefined, R1), the pack records in
ascending tag order (R5) and the rotation list of each class, head first (R10). -/
structure Register where
  classes : Vector (Option ClassRec) 8
  packs : List PackRec
  rotation : Vector (List Nat) 8
  deriving DecidableEq, Repr

/-! ## Profile store (chapter 3) -/

/-- How the allocator treats a bay's grant (R107). -/
inductive GrantMode where
  | hold
  | turn
  deriving DecidableEq, Repr

/-- A profile header (Table 3-1). -/
structure Header where
  stageCount : Nat
  mode : GrantMode
  turnLength : Nat
  maintain : Option StageNo
  sessionLimit : Nat
  deriving DecidableEq, Repr

/-- How a stage asks for power (R53). -/
inductive StageKind where
  | current
  | voltage
  | rest
  deriving DecidableEq, Repr

/-- The eight session flags (Table 3-5). -/
inductive Flag where
  | vt
  | it
  | pl
  | th
  | ah
  | tm
  | eq
  | gr
  deriving DecidableEq, Repr

/-- What an exit's test reads: nothing (ALWAYS) or one flag (R54). -/
inductive Test where
  | always
  | flag (f : Flag)
  deriving DecidableEq, Repr

/-- An exit action (Table 3-3). -/
inductive Action where
  | goto (k : StageNo)
  | callResume (k : StageNo)
  | callRestart (k : StageNo)
  | ret
  | complete
  | fault (n : Nat)
  deriving DecidableEq, Repr

/-- An exit: test, sense (`true` = SET) and action (R54). -/
structure Exit where
  test : Test
  senseSet : Bool
  action : Action
  deriving DecidableEq, Repr

/-- A written stage position (Table 3-2). -/
structure Stage where
  kind : StageKind
  iset : Nat
  cellTarget : Nat
  coefficient : Int
  acceptance : Nat
  chargeLimit : Nat
  timeLimit : Nat
  taper : Nat
  settle : Nat
  plateau : Nat
  equalizeMark : Bool
  exits : List Exit
  deriving DecidableEq, Repr

/-- A profile: its header and its twelve stage positions (`none` = blank, R52). -/
structure Profile where
  header : Header
  stages : Vector (Option Stage) 12
  deriving DecidableEq, Repr

/-! ## Bay sequencers (chapters 2 to 4) -/

/-- A bay's configuration (Table 2-1); `feeder = none` is NONE. -/
structure BayCfg where
  feeder : Option FeederNo
  baseLevel : LevelNo
  defaultClass : ClassNo
  manual : Bool
  masked : Bool
  deriving DecidableEq, Repr

/-- The ten bay states (Table 2-3). -/
inductive BayState where
  | vacant
  | identify
  | cooling
  | assess
  | charge
  | maintain
  | standby
  | release
  | fault
  | masked
  deriving DecidableEq, Repr

/-- The pack a bay is running (Table 2-2); an anonymous pack's charge is kept here (R16). -/
inductive Identity where
  | empty
  | registered (tag : Nat)
  | anonymous (cls : ClassNo) (charge : Nat) (known : Bool)
  deriving DecidableEq, Repr

/-- How a session ended (Table 2-2). -/
inductive Ending where
  | none
  | complete
  | stopped
  deriving DecidableEq, Repr

/-- The state a RELEASE bay returns to (R45). -/
inductive PreIssue where
  | maintain
  | standby (ending : Ending)
  deriving DecidableEq, Repr

/-- Whether the next good report must reconcile a pack record that names the bay (R28). -/
inductive Reconcile where
  | no
  | restore
  | unmask
  deriving DecidableEq, Repr

/-- The contents of a report (Table 8-2). -/
structure Report where
  address : Nat
  vm : Nat
  im : Int
  tm : Int
  present : Bool
  latchEngaged : Bool
  alarm : Bool
  tag : Nat
  classCode : Nat
  deriving DecidableEq, Repr

/-- A bay's latest good report with its time of arrival (R29). -/
structure Latest where
  report : Report
  arrival : Nat
  deriving DecidableEq, Repr

/-- What a bay's indicator shows (Table 8-1). -/
inductive Indicator where
  | off
  | charging
  | ready
  | held
  | release
  | fault
  deriving DecidableEq, Repr

/-- A drive (Table 2-5): voltage limit in 10 mV, current limit in 0.1 A. -/
structure Drive where
  on : Bool
  voltage : Nat
  current : Nat
  latchOpen : Bool
  indicator : Indicator
  deriving DecidableEq, Repr

/-- The caller's progress a RESUME frame saves (Table 3-6). -/
structure Saved where
  served : Nat
  chargeLeft : Option Nat
  peak : Nat
  sinceRise : Nat
  deriving DecidableEq, Repr

/-- A hold frame (Table 3-6): `saved = none` is resume mode RESTART. -/
structure Frame where
  stage : StageNo
  saved : Option Saved
  deriving DecidableEq, Repr

/-- The eight session flags as computed at one evaluation (Table 3-5). -/
structure Flags where
  vt : Bool
  it : Bool
  pl : Bool
  th : Bool
  ah : Bool
  tm : Bool
  eq : Bool
  gr : Bool
  deriving DecidableEq, Repr

/-- A session record (Table 3-4). The top of the hold stack is the head of `frames`. -/
structure Session where
  profile : ProfileNo
  stage : Option StageNo
  frames : List Frame
  served : Nat
  entry : Nat
  chargeLeft : Option Nat
  peak : Nat
  sinceRise : Nat
  firstEval : Bool
  restart : Bool
  sessionServed : Nat
  delivered : Nat
  deliveredResidue : Nat
  storedResidue : Nat
  warm : Bool
  lastFlags : Flags
  outcome : Ending
  deriving DecidableEq, Repr

/-- One bay sequencer: its configuration (Table 2-1), its working state (Table 2-2), the target and effective
setpoint kept from the latest evaluation (R37, R84) and the gap count (R78). -/
structure Bay where
  cfg : BayCfg
  state : BayState
  identity : Identity
  outcome : Ending
  preIssue : Option PreIssue
  dockTime : Option Nat
  attempts : Nat
  coolExpiry : Option Nat
  coolEntry : Option Nat
  latest : Option Latest
  reconcile : Reconcile
  session : Option Session
  drive : Drive
  keptTarget : Nat
  keptIset : Nat
  gapCount : Nat
  deriving DecidableEq, Repr

/-! ## Power allocator (chapter 5) -/

/-- The ordering scheme of the allocator (R97). -/
inductive Scheme where
  | fixed
  | rotating
  deriving DecidableEq, Repr

/-- A grant-table entry (Table 5-1); its status is derived (Table 5-3). -/
structure Grant where
  request : Nat
  granted : Nat
  carried : Nat
  level : LevelNo
  mode : GrantMode
  turnLength : Option Nat
  turnExpiry : Option Nat
  yielded : Bool
  deriving DecidableEq, Repr

/-- A running shed (R94). -/
structure ShedRec where
  cap : Nat
  expiry : Nat
  deriving DecidableEq, Repr

/-- The power allocator (Tables 5-1 and 5-2); `hold` is the end time of a running startup hold (R110). -/
structure Allocator where
  siteCap : Nat
  scheme : Scheme
  feederCaps : Vector Nat 4
  shed : Option ShedRec
  hold : Option Nat
  queues : Vector (List BayNo) 4
  grants : Vector Grant 24
  deriving DecidableEq, Repr

/-! ## Dispatcher (chapter 6) -/

/-- The state of a part of an issue entry; an OPEN part names its bay (Table 6-4). -/
inductive PartState where
  | openAt (b : BayNo)
  | taken
  | done
  deriving DecidableEq, Repr

/-- A part of an issue entry; `pack = none` is ANONYMOUS (Table 6-4). -/
structure Part where
  pack : Option Nat
  state : PartState
  deriving DecidableEq, Repr

/-- An outstanding issue entry; `cls = none` is BY BAY (Table 6-3). -/
structure Issue where
  machine : Nat
  cls : Option ClassNo
  parts : List Part
  issued : Nat
  lapse : Nat
  deriving DecidableEq, Repr

/-- A reservation (R133). -/
structure Reservation where
  cls : ClassNo
  machines : Nat
  due : Nat
  deriving DecidableEq, Repr

/-- The dispatcher (Table 6-1): `short` is each class's shortage state and `ready` its ready count as last
handed by the pack register. -/
structure Dispatcher where
  lookahead : Nat
  window : Nat
  issues : List Issue
  reservations : List Reservation
  short : Vector Bool 8
  ready : Vector Nat 8
  deriving DecidableEq, Repr

/-! ## Fault unit (chapter 7) -/

/-- The pack a bay held at a latch (Table 7-2). -/
inductive PackAtLatch where
  | nothing
  | registered (tag : Nat)
  | anonymous
  | unidentified (tag : Option Nat)
  deriving DecidableEq, Repr

/-- A latched fault record (Table 7-2); an empty record is `none` in the table of records. The secondary
kinds stand in the order in which they joined. -/
structure FaultRec where
  first : FaultKind
  secondary : List FaultKind
  latchTime : Nat
  stage : Option StageNo
  pack : PackAtLatch
  cls : Option ClassNo
  held : Bool
  number : Option Nat
  deriving DecidableEq, Repr

/-! ## Bay line scanner (chapter 8) -/

/-- A bay's last drive sent, with its units and the time it was sent (R158). -/
structure Sent where
  drive : Drive
  units : Nat
  time : Option Nat
  deriving DecidableEq, Repr

/-- What the scanner keeps for one bay: miss count (R164), last drive sent (R158), lost-stage expiry (R165),
the output enable of the drive its latest good report answered (R163), and a pending final poll (R167). -/
structure LineRec where
  misses : Nat
  sent : Sent
  lostExpiry : Option Nat
  answeredOn : Bool
  finalPending : Bool
  deriving DecidableEq, Repr

/-- The poll slot in progress (R157): its bay, when its poll was sent, whether it is a regular poll, and the
poll's bytes as they went out on BAY_TX (R187). -/
structure Slot where
  bay : BayNo
  sentAt : Nat
  regular : Bool
  poll : List Byte
  deriving DecidableEq, Repr

/-- The bay line scanner. `walk` is the bay number the round in progress reaches next, `none` between rounds;
`overrun` says that the round that ended last overran (R160). -/
structure Scanner where
  scanInterval : Nat
  roundStart : Nat
  walk : Option Nat
  overrun : Bool
  prompt : List BayNo
  lines : Vector LineRec 24
  slot : Option Slot
  deriving DecidableEq, Repr

/-! ## Link unit (chapter 9) -/

/-- The two states of the receiver (R171). -/
inductive Receiver where
  | hunt
  | frame
  deriving DecidableEq, Repr

/-- The status codes (Table 9-2). -/
inductive Status where
  | ok
  | check
  | kind
  | length
  | range
  | state
  | inUse
  | full
  | none
  | present
  | openIssue
  deriving DecidableEq, Repr

/-- A reply being sent: its kind, its status and the rest of its body (R174). -/
structure Reply where
  kind : Byte
  status : Status
  contents : List Byte
  deriving DecidableEq, Repr

/-- The eight attention causes, in the order of Table 10-1. -/
inductive Cause where
  | fault
  | short
  | lapsed
  | taken
  | unaccounted
  | missed
  | regfull
  | link
  deriving DecidableEq, Repr

/-- The edge-type flags that carry no set (Table 9-5). -/
structure Edges where
  lapsed : Bool
  taken : Bool
  unaccounted : Bool
  missed : Bool
  regfull : Bool
  link : Bool
  deriving DecidableEq, Repr

/-- The link unit: receiver, reply being sent (present exactly while the unit is busy, R173), edge flags, the
class set of SHORT (SHORT is SET while it is not empty) and the attention mask (`true` = MASKED, in the order of
Table 10-1). Flag FAULT and its set are the latched fault records (R146) and are not stored a second time. -/
structure Link where
  receiver : Receiver
  reply : Option Reply
  edges : Edges
  shortSet : Vector Bool 8
  mask : Vector Bool 8
  deriving DecidableEq, Repr

/-! ## Retained store (R21) -/

/-- The five site settings of SET SITE (R176). -/
structure SiteSettings where
  siteCap : Nat
  scheme : Scheme
  lookahead : Nat
  window : Nat
  scanInterval : Nat
  deriving DecidableEq, Repr

/-- The retained store: one image of each record (R21). The pack images stand in ascending tag order. -/
structure Store where
  site : SiteSettings
  feederCaps : Vector Nat 4
  classes : Vector (Option ClassRec) 8
  profiles : Vector Profile 8
  bayCfgs : Vector BayCfg 24
  mask : Vector Bool 8
  packs : List PackRec
  rotation : Vector (List Nat) 8
  deriving DecidableEq, Repr

/-- One write of one record's image on its way to the retained store (R21, R177). -/
inductive StoreWrite where
  | site (v : SiteSettings)
  | feederCap (f : FeederNo) (cap : Nat)
  | cls (c : ClassNo) (r : ClassRec)
  | header (p : ProfileNo) (h : Header)
  | stage (p : ProfileNo) (k : StageNo) (st : Stage)
  | bayCfg (b : BayNo) (cfg : BayCfg)
  | mask (m : Vector Bool 8)
  | pack (r : PackRec)
  | charge (tag : Nat) (mAh : Nat)
  | packGone (tag : Nat)
  | rotation (c : ClassNo) (l : List Nat)
  deriving DecidableEq, Repr

/-! ## The whole machine -/

/-- The PR-24. -/
structure State where
  /-- The supply is in its operating range (R22, R184). -/
  powered : Bool
  /-- The RESET pin is held low (R182). -/
  resetLow : Bool
  /-- The retained store is being restored (R182). -/
  restoring : Bool
  /-- The part clock, in ms (R183). -/
  now : Nat
  /-- The depot minute counter (R183). -/
  minute : Nat
  register : Register
  profiles : Vector Profile 8
  bays : Vector Bay 24
  alloc : Allocator
  disp : Dispatcher
  faults : Vector (Option FaultRec) 24
  scanner : Scanner
  link : Link
  /-- The completed images of the retained store (R21). -/
  store : Store
  /-- The writes of the latest event, in order, not yet known to be completed (R21, R184; log entry 5). -/
  inFlight : List StoreWrite
  /-- THE MODEL'S OWN FIELD: how many draws of the free reply bytes have been made (log entry 9). -/
  freeDraw : Nat
  /-- THE MODEL'S OWN FIELD: the commands that wait, first in, first out. -/
  pending : List Instr
  deriving DecidableEq, Repr

/-- No command of the PR-24 stops the part: every event of the manual takes it to a next state, a command it
does not accept is answered with a refusal status (R174) and an event that does not apply changes nothing. -/
inductive Fault where
  deriving DecidableEq, Repr

/-- The reasons a step has no meaning. -/
inductive Refusal where
  /-- A row of the opcode table without a meaning raises it, in exec's arm for that row: safe, because nothing
  can be proved of a refused step. No arm of this model raises it. -/
  | notModelled (mnemonic : String)
  deriving DecidableEq, Repr

/-! ## First delivery and reset -/

/-- A profile as delivered (R52). -/
def Profile.delivery : Profile where
  header := ⟨0, .hold, 10, none, 720⟩
  stages := Vector.replicate 12 none

/-- A bay's configuration as delivered (Table 2-1). -/
def BayCfg.delivery : BayCfg := ⟨none, 0, 0, false, false⟩

/-- The retained store at first delivery (R1, R5, R26, R52, R92, R176, R180). -/
def Store.delivery : Store where
  site := ⟨0, .fixed, 60, 120, 1000⟩
  feederCaps := Vector.replicate 4 0
  classes := Vector.replicate 8 none
  profiles := Vector.replicate 8 Profile.delivery
  bayCfgs := Vector.replicate 24 BayCfg.delivery
  mask := Vector.replicate 8 false
  packs := []
  rotation := Vector.replicate 8 []

/-- The drive of Table 2-2's last column: output off, limits 0, latch open, indicator OFF. -/
def Drive.reset : Drive := ⟨false, 0, 0, true, .off⟩

/-- All flags clear. -/
def Flags.clear : Flags := ⟨false, false, false, false, false, false, false, false⟩

/-- No edge-type flag set. -/
def Edges.clear : Edges := ⟨false, false, false, false, false, false⟩

/-- A bay's working state after power-on and after the RESET pin (Table 2-2, R28, R78). -/
def Bay.boot (cfg : BayCfg) : Bay where
  cfg := cfg
  state := if cfg.masked then .masked else .vacant
  identity := .empty
  outcome := .none
  preIssue := none
  dockTime := none
  attempts := 0
  coolExpiry := none
  coolEntry := none
  latest := none
  reconcile := .restore
  session := none
  drive := Drive.reset
  keptTarget := 0
  keptIset := 0
  gapCount := 0

/-- A grant-table entry after power-on (Table 5-1). -/
def Grant.boot (cfg : BayCfg) : Grant := ⟨0, 0, 0, cfg.baseLevel, .hold, none, none, false⟩

/-- The scanner's record of one bay after power-on (R158, R163, R164, R165, R168). -/
def LineRec.boot : LineRec := ⟨0, ⟨Drive.reset, 0, none⟩, none, false, false⟩

/-- The working state with the configuration and the register of an image of the store, every other field at
the value the manual gives it after power-on (R22, R28, R92, R115, R140, R168, R178, R182). The part clock and
the depot minute counter are 0, and the first round stands at bay 0. -/
def State.bootFrom (img : Store) : State where
  powered := true
  resetLow := false
  restoring := false
  now := 0
  minute := 0
  register := ⟨img.classes, img.packs, img.rotation⟩
  profiles := img.profiles
  bays := Vector.ofFn fun b => Bay.boot img.bayCfgs[b]
  alloc :=
    { siteCap := img.site.siteCap, scheme := img.site.scheme, feederCaps := img.feederCaps, shed := none
      hold := some Config.startupHold, queues := Vector.replicate 4 []
      grants := Vector.ofFn fun b => Grant.boot img.bayCfgs[b] }
  disp :=
    { lookahead := img.site.lookahead, window := img.site.window, issues := [], reservations := []
      short := Vector.replicate 8 false, ready := Vector.replicate 8 0 }
  faults := Vector.replicate 24 none
  scanner :=
    { scanInterval := img.site.scanInterval, roundStart := 0, walk := some 0, overrun := false, prompt := []
      lines := Vector.replicate 24 LineRec.boot, slot := none }
  link :=
    { receiver := .hunt, reply := none, edges := Edges.clear, shortSet := Vector.replicate 8 false
      mask := img.mask }
  store := img
  inFlight := []
  freeDraw := 0
  pending := []

/-- The machine right after reset (log entry 4): the end of the restore that follows the first power-on, with
the retained store as delivered. Every field is at the value the manual states; the values it does not state
(`keptTarget`, `keptIset`, `freeDraw`) are those of log entries 9 and 17. -/
def State.reset : State := State.bootFrom Store.delivery

end Sys2Proof.Machine
end

