-- ==== Sys2Proof/Machine/Bytes.lean ====
section
/-! DEFINITION. Byte order and the byte codes of Table 10-1: how a number, a name or an absent value stands in
the bodies of the depot link and in the records of the bay line (R185, R187). -/

namespace Sys2Proof.Machine

/-- A one-byte number; only its low 8 bits can be sent. -/
def u1 (n : Nat) : Byte := BitVec.ofNat 8 n

/-- A two-byte number, most significant byte first (R185). -/
def u2 (n : Nat) : List Byte := [u1 (n / 256), u1 n]

/-- A four-byte number, most significant byte first (R185); the part clock and every time kept against it are
sent modulo 4,294,967,296 (R183, R185). -/
def u4 (n : Nat) : List Byte := u2 (n / 65536) ++ u2 n

/-- A signed byte in two's complement (R185). -/
def i1 (x : Int) : Byte := BitVec.ofInt 8 x

/-- A signed two-byte number in two's complement (R185). -/
def i2 (x : Int) : List Byte := u2 (BitVec.ofInt 16 x).toNat

/-- A one-byte number or 0xFF for absent or NONE. -/
def u1? (o : Option Nat) : Byte := u1 (o.getD 0xFF)

/-- A two-byte tag or machine, 0 for none (Table 10-1). -/
def u2? (o : Option Nat) : List Byte := u2 (o.getD 0)

/-- A four-byte time or charge, 0xFFFFFFFF for absent. -/
def u4? (o : Option Nat) : List Byte := u4 (o.getD 0xFFFFFFFF)

/-- A yes/no field, and a flag or mask mark of an attention cause (Table 10-1). -/
def yes (b : Bool) : Byte := if b then 1 else 0

/-- The number whose binary digits the listed marks are, bit 0 first. -/
def bitsNat : List Bool → Nat
  | [] => 0
  | b :: bs => (if b then 1 else 0) + 2 * bitsNat bs

/-- The number two bytes make, the first the more significant. -/
def ofU2 (hi lo : Byte) : Nat := hi.toNat * 256 + lo.toNat

/-- The signed number two bytes make. -/
def ofI2 (hi lo : Byte) : Int := (BitVec.ofNat 16 (ofU2 hi lo)).toInt

/-- Ceiling division. -/
def ceilDiv (a b : Nat) : Nat := (a + b - 1) / b

/-- The byte of a status (Table 10-1). -/
def Status.code : Status → Byte
  | .ok => 0x00
  | .check => 0x01
  | .length => 0x02
  | .kind => 0x03
  | .range => 0x04
  | .state => 0x05
  | .inUse => 0x06
  | .full => 0x07
  | .none => 0x08
  | .present => 0x09
  | .openIssue => 0x0A

/-- The byte of a bay state (Table 10-1). -/
def BayState.code : BayState → Nat
  | .vacant => 0
  | .identify => 1
  | .cooling => 2
  | .assess => 3
  | .charge => 4
  | .maintain => 5
  | .standby => 6
  | .release => 7
  | .fault => 8
  | .masked => 9

/-- The byte of an outcome (Table 10-1). -/
def Ending.code : Ending → Nat
  | .none => 0
  | .complete => 1
  | .stopped => 2

/-- The byte of a pre-issue state: its outcome, or MAINTAIN 3 (Table 10-1). -/
def PreIssue.code : PreIssue → Nat
  | .maintain => 3
  | .standby e => e.code

/-- The byte of an indicator (Table 10-1). -/
def Indicator.code : Indicator → Nat
  | .off => 0
  | .charging => 1
  | .ready => 2
  | .held => 3
  | .release => 4
  | .fault => 5

/-- The byte of a fault kind (Table 10-1). -/
def FaultKind.code : FaultKind → Nat
  | .overtemp => 1
  | .overvolt => 2
  | .stageAlarm => 3
  | .interlock => 4
  | .stageLost => 5
  | .profile => 6
  | .timeout => 7
  | .profileStop => 8
  | .duplicate => 9
  | .mismatch => 10

/-- The byte of a chemistry (Table 10-1). -/
def Chemistry.code : Chemistry → Nat
  | .flooded => 0
  | .sealedCell => 1
  | .lithium => 2

/-- The byte of a scheme (Table 10-1). -/
def Scheme.code : Scheme → Nat
  | .fixed => 0
  | .rotating => 1

/-- The byte of a grant mode (Table 10-1). -/
def GrantMode.code : GrantMode → Nat
  | .hold => 0
  | .turn => 1

/-- The byte of a stage kind (Table 10-1). -/
def StageKind.code : StageKind → Nat
  | .current => 0
  | .voltage => 1
  | .rest => 2

/-- The byte of a session flag as an exit's test names it (Table 10-1). -/
def Flag.code : Flag → Nat
  | .vt => 1
  | .it => 2
  | .pl => 3
  | .th => 4
  | .ah => 5
  | .tm => 6
  | .eq => 7
  | .gr => 8

/-- The byte of an exit's test: ALWAYS 0, or the flag's (Table 10-1). -/
def Test.code : Test → Nat
  | .always => 0
  | .flag f => f.code

/-- The byte of an exit's action (Table 10-1). -/
def Action.code : Action → Nat
  | .goto _ => 1
  | .callResume _ => 2
  | .callRestart _ => 3
  | .ret => 4
  | .complete => 5
  | .fault _ => 6

/-- The argument an action carries; RETURN and COMPLETE carry none (Table 3-3). -/
def Action.argument? : Action → Option Nat
  | .goto k => some k.val
  | .callResume k => some k.val
  | .callRestart k => some k.val
  | .ret => none
  | .complete => none
  | .fault n => some n

/-- The byte of a part state (Table 10-1). -/
def PartState.code : PartState → Nat
  | .openAt _ => 0
  | .taken => 1
  | .done => 2

/-- The byte of the last flags: bit 0 VT to bit 7 GR (Table 10-1). -/
def Flags.byte (f : Flags) : Byte := u1 (bitsNat [f.vt, f.it, f.pl, f.th, f.ah, f.tm, f.eq, f.gr])

/-- The place kind and the bay or machine number of a place (Table 10-4). -/
def Place.bytes : Place → List Byte
  | .bay b => 0 :: u2 b.val
  | .machine m => 1 :: u2 m
  | .unaccounted => 2 :: u2 0

/-- The eight attention marks, one byte each (Table 10-1). -/
def markBytes (m : Vector Bool 8) : List Byte := m.toList.map yes

/-- The exclusive-or of the bytes of a bay-line record (R187). -/
def xorBytes : List Byte → Byte
  | [] => 0
  | b :: bs => b ^^^ xorBytes bs

/-- The 8-bit sum of the bytes of a frame (R170). -/
def sumBytes : List Byte → Byte
  | [] => 0
  | b :: bs => b + sumBytes bs

/-- The check byte of a frame: the two's complement of the sum of length, kind and body (R170). -/
def checkByte (kind : Byte) (body : List Byte) : Byte := -sumBytes (u1 (body.length + 1) :: kind :: body)

/-- The bytes of a frame in the order in which they are sent: start marker, length, kind, body and check (Table 9-1). -/
def frameBytes (kind : Byte) (body : List Byte) : List Byte :=
  [0xA5, u1 (body.length + 1), kind] ++ body ++ [checkByte kind body]

/-- The body of a reply: the status byte, then the contents (R174, R186). -/
def Reply.body (r : Reply) : List Byte := r.status.code :: r.contents

/-- A reply as it leaves the TX pin (R170). -/
def Reply.frame (r : Reply) : List Byte := frameBytes r.kind r.body

end Sys2Proof.Machine
end

