-- ==== Sys2Proof/Machine/Operands.lean ====
section
/-! DEFINITION. How the owners read the operands of their commands: the codes of Table 10-1 turned into names,
the range of each field, and the settings that are clamped (R175, R185). A reader answers `none` where the field
is out of range, which its owner refuses RANGE. -/

namespace Sys2Proof.Machine

/-- The number `n` as an index below `k`. -/
def index? (k n : Nat) : Option (Fin k) := if h : n < k then some ⟨n, h⟩ else none

/-- `x` lies within lo…hi, both ends included. -/
def between (lo x hi : Nat) : Bool := decide (lo ≤ x ∧ x ≤ hi)

/-- `x` lies within lo…hi, both ends included, for a signed field. -/
def betweenI (lo x hi : Int) : Bool := decide (lo ≤ x ∧ x ≤ hi)

/-- `x` clamped to lo…hi (00_scope.md 3.2). -/
def clamp (lo x hi : Nat) : Nat := min hi (max lo x)

/-- A tag that may name a pack: 1–65,534 (00_scope.md 3.2). -/
def validTag (t : Nat) : Bool := between 1 t 65534

/-- A machine number: 1–999 (00_scope.md 3.2). -/
def validMachine (m : Nat) : Bool := between 1 m 999

/-- A yes/no code (Table 10-1). -/
def yes? : Nat → Option Bool
  | 0 => some false
  | 1 => some true
  | _ => none

/-- A chemistry code (Table 10-1). -/
def Chemistry.ofCode : Nat → Option Chemistry
  | 0 => some .flooded
  | 1 => some .sealedCell
  | 2 => some .lithium
  | _ => none

/-- A scheme code (Table 10-1). -/
def Scheme.ofCode : Nat → Option Scheme
  | 0 => some .fixed
  | 1 => some .rotating
  | _ => none

/-- A grant mode code (Table 10-1). -/
def GrantMode.ofCode : Nat → Option GrantMode
  | 0 => some .hold
  | 1 => some .turn
  | _ => none

/-- A stage kind code (Table 10-1). -/
def StageKind.ofCode : Nat → Option StageKind
  | 0 => some .current
  | 1 => some .voltage
  | 2 => some .rest
  | _ => none

/-- A test code: ALWAYS 0, VT 1 to GR 8 (Table 10-1). -/
def Test.ofCode : Nat → Option Test
  | 0 => some .always
  | 1 => some (.flag .vt)
  | 2 => some (.flag .it)
  | 3 => some (.flag .pl)
  | 4 => some (.flag .th)
  | 5 => some (.flag .ah)
  | 6 => some (.flag .tm)
  | 7 => some (.flag .eq)
  | 8 => some (.flag .gr)
  | _ => none

/-- An action code with its argument: a stage 0–11 for GOTO and CALL, a number 1–15 for FAULT, and an argument
that is not read for RETURN and COMPLETE (R54, R58, R185). -/
def Action.ofCode (code argument : Nat) : Option Action :=
  match code with
  | 1 => (index? 12 argument).map .goto
  | 2 => (index? 12 argument).map .callResume
  | 3 => (index? 12 argument).map .callRestart
  | 4 => some .ret
  | 5 => some .complete
  | 6 => if between 1 argument 15 then some (.fault argument) else none
  | _ => none

/-- An exit with all three codes in range (R58, item 2); a sense code is SET 0 or CLEAR 1. -/
def readExit (e : ExitArgs) : Option Exit :=
  match Test.ofCode e.test, yes? e.sense, Action.ofCode e.action e.argument with
  | some t, some clear, some a => some ⟨t, !clear, a⟩
  | _, _, _ => none

/-- Every exit of a list, in order, or `none` if one is out of range. -/
def readExits : List ExitArgs → Option (List Exit)
  | [] => some []
  | e :: es =>
    match readExit e, readExits es with
    | some x, some xs => some (x :: xs)
    | _, _ => none

/-- The plain numeric fields of a stage lie within Table 3-2, and there are one to three exits. -/
def stageInRange (a : StageArgs) : Bool :=
  between 1 a.iset 2000 && between 1800 a.cellTarget 4300 && betweenI (-100) a.coefficient 100 &&
  between 50 a.acceptance 100 && between 0 a.chargeLimit 150 && between 0 a.timeLimit 1440 &&
  between 0 a.taper 2000 && between 0 a.settle 900 && between 0 a.plateau 120 &&
  between 1 a.exits.length 3

/-- The stage that SET STAGE writes, or `none` if a field lies outside Table 3-2 (R58, item 2). -/
def readStage (a : StageArgs) : Option Stage :=
  if stageInRange a then
    match StageKind.ofCode a.kind, yes? a.equalizeMark, readExits a.exits with
    | some k, some m, some xs =>
      some ⟨k, a.iset, a.cellTarget, a.coefficient, a.acceptance, a.chargeLimit, a.timeLimit, a.taper, a.settle,
        a.plateau, m, xs⟩
    | _, _, _ => none
  else none

/-- A maintain-stage byte: 0–11, or 0xFF for NONE (Table 3-1); `none` if it is neither. -/
def readMaintain (n : Nat) : Option (Option StageNo) :=
  if n = 0xFF then some none else (index? 12 n).map some

/-- The header that SET PROFILE writes, or `none` if a field lies outside Table 3-1 (R55, item 1). -/
def readHeader (a : ProfileArgs) : Option Header :=
  if between 0 a.stageCount 12 && between 1 a.turnLength 60 && between 30 a.sessionLimit 1440 then
    match GrantMode.ofCode a.grantMode, readMaintain a.maintainStage with
    | some m, some k => some ⟨a.stageCount, m, a.turnLength, k, a.sessionLimit⟩
    | _, _ => none
  else none

/-- The plain numeric fields of SET CLASS, low-water excepted, lie within Table 1-1 (R2, item 1). -/
def classInRange (a : ClassArgs) : Bool :=
  between 4 a.cells 32 && between 20 a.capacity 1200 && between 1500 a.minCell 4300 &&
  between 1500 a.maxCell 4300 && betweenI (-20) a.startLimit 60 && betweenI 0 a.hotLimit 90 &&
  betweenI 1 a.abortLimit 100 && between 0 a.coolTimeout 240 && between 0 a.restTime 120 &&
  between 0 a.matchWindow 20 && between 0 a.equalizeInterval 50 && between 1 a.floor 20

/-- The relations between the fields of SET CLASS (R2, items 2 to 4). -/
def classRelated (a : ClassArgs) : Bool :=
  decide (a.minCell < a.maxCell ∧ (a.maxCell + 50) * a.cells ≤ 99990 ∧ a.hotLimit < a.abortLimit)

/-- The class record that SET CLASS stores beside the OCV table given, or `none` where R2 refuses RANGE:
low-water clamped to 32, the match window 0 unless twin, the equalize interval 0 unless FLOODED. -/
def readClass (a : ClassArgs) (ocv : Option Ocv) : Option ClassRec :=
  if classInRange a && classRelated a then
    match Chemistry.ofCode a.chemistry, yes? a.twin, index? 8 a.profile with
    | some ch, some tw, some p =>
      some
        { cells := a.cells, chemistry := ch, capacity := a.capacity, twin := tw, minCell := a.minCell
          maxCell := a.maxCell, startLimit := a.startLimit, hotLimit := a.hotLimit, abortLimit := a.abortLimit
          coolTimeout := a.coolTimeout, restTime := a.restTime, ocv := ocv, lowWater := min a.lowWater 32
          matchWindow := if tw then a.matchWindow else 0
          equalizeInterval := if ch = .flooded then a.equalizeInterval else 0
          profile := p, floor := a.floor }
    | _, _, _ => none
  else none

/-- The OCV table that SET OCV carries, or `none` if a voltage is out of range or the five are not strictly
ascending (R4, item 1). -/
def readOcv (a : OcvArgs) : Option Ocv :=
  if decide (1500 ≤ a.p0 ∧ a.p0 < a.p1 ∧ a.p1 < a.p2 ∧ a.p2 < a.p3 ∧ a.p3 < a.p4 ∧ a.p4 ≤ 4300) then
    some ⟨a.p0, a.p1, a.p2, a.p3, a.p4⟩
  else none

/-- A feeder byte: 0–3, or 0xFF for NONE (Table 2-1); `none` if it is neither. -/
def readFeeder (n : Nat) : Option (Option FeederNo) :=
  if n = 0xFF then some none else (index? 4 n).map some

/-- A base level byte: 0–2 (Table 2-1). -/
def readBaseLevel (n : Nat) : Option LevelNo := if n ≤ 2 then index? 4 n else none

/-- The configuration that SET BAY carries, or `none` if a field lies outside Table 2-1 (R27, item 1). -/
def readBayCfg (a : BayArgs) : Option BayCfg :=
  match readFeeder a.feeder, readBaseLevel a.baseLevel, index? 8 a.defaultClass with
  | some f, some l, some c =>
    match yes? a.confirmMode, yes? a.masked with
    | some man, some msk => some ⟨f, l, c, man, msk⟩
    | _, _ => none
  | _, _, _ => none

/-- The site settings that SET SITE stores: the scheme is refused when its code names none, the rest are clamped
(R176). -/
def readSite (a : SiteArgs) : Option SiteSettings :=
  (Scheme.ofCode a.scheme).map fun sch =>
    ⟨min a.siteCap 1200, sch, min a.lookahead 240, clamp 30 a.window 600, clamp 250 a.scanInterval 2000⟩

/-- The attention mask that SET ATTENTION MASK carries: every mark UNMASKED 0 or MASKED 1 (R180). -/
def readMask (m : Vector Nat 8) : Option (Vector Bool 8) :=
  if (List.finRange 8).all fun i => decide (m[i] ≤ 1) then some (Vector.ofFn fun i => decide (m[i] = 1)) else none

end Sys2Proof.Machine
end

