-- ==== Sys2Proof/Machine/Arithmetic.lean ====
section
/-! DEFINITION. Charge accounting and setpoint arithmetic (chapter 4): every formula of the chapter as a function
of whole numbers. -/

namespace Sys2Proof.Machine

/-- The integration interval of an evaluation (R77): 0 under the integration-restart mark, else the real interval
cut to 5,000 ms. -/
def integrationInterval (restart : Bool) (real : Nat) : Nat := if restart then 0 else min real Config.maxInterval

/-- The interval was cut short, so that the gap count rises (R77, R78). -/
def intervalCapped (restart : Bool) (real : Nat) : Bool := !restart && decide (Config.maxInterval < real)

/-- The accounted current: the reported current clamped to 0…2,000 (R79). -/
def accountedCurrent (im : Int) : Nat := min 2000 im.toNat

/-- q of R79: accounted current times interval, with the residue carried in. -/
def chargeQ (imAcc interval residue : Nat) : Nat := imAcc * interval + residue

/-- The whole delivered mAh of an interval (R79). -/
def deliveredOf (q : Nat) : Nat := q / 36000

/-- The new delivered residue (R79). -/
def deliveredResidueOf (q : Nat) : Nat := q % 36000

/-- s of R80: delivered mAh times acceptance, with the residue carried in. -/
def storedS (d acceptance residue : Nat) : Nat := d * acceptance + residue

/-- The whole stored mAh of an interval (R80). -/
def storedOf (s : Nat) : Nat := s / 100

/-- The new stored residue (R80). -/
def storedResidueOf (s : Nat) : Nat := s % 100

/-- The most charge a pack of a class can hold, in mAh (R8). -/
def fullCharge (capacity : Nat) : Nat := capacity * 1000

/-- A stored charge increased by `add`, saturating at the capacity (R8, R80). -/
def addCharge (capacity charge add : Nat) : Nat := min (fullCharge capacity) (charge + add)

/-- The delivered total increased by `d`, saturating (R81). -/
def addDelivered (total d : Nat) : Nat := min 4294967295 (total + d)

/-- State of charge in whole percent (R82). -/
def soc (charge capacity : Nat) : Nat := charge * 100 / fullCharge capacity

/-- The band of a state of charge (R82). -/
def band (percent : Nat) : Nat := percent / 10

/-- The base of a stage's charge budget, absent for a charge limit of 0 (R60). -/
def chargeBase (capacity limit : Nat) : Option Nat :=
  if limit = 0 then none else some (fullCharge capacity * limit / 100)

/-- The compensation temperature: Tm clamped to 0…50 °C (R83, step 1). -/
def compTemp (tm : Int) : Int := min 50 (max 0 tm)

/-- The temperature compensation in mV, truncated toward zero (R83, step 2). -/
def compensation (coefficient tm : Int) : Int := Int.tdiv (coefficient * (compTemp tm - 25)) 10

/-- The cell target in mV (R83, step 3). -/
def cellTarget (stageTarget minCell maxCell : Nat) (comp : Int) : Nat :=
  (min (maxCell : Int) (max (minCell : Int) ((stageTarget : Int) + comp))).toNat

/-- The pack target in mV of a stage under a class at a temperature (R83). -/
def packTarget (cr : ClassRec) (stg : Stage) (tm : Int) : Nat :=
  cellTarget stg.cellTarget cr.minCell cr.maxCell (compensation stg.coefficient tm) * cr.cells

/-- The effective setpoint (R84). -/
def effectiveSetpoint (warm : Bool) (iset : Nat) : Nat := if warm then max 1 (iset / 2) else iset

/-- Power in units of 100 W of a pack target and a current, rounded up (R85). -/
def unitsOf (target current : Nat) : Nat := ceilDiv (target * current) 1000000

/-- The raw request of a stage (Table 4-2). -/
def rawRequest (kind : StageKind) (firstEval : Bool) (target iset imAcc : Nat) : Nat :=
  match kind with
  | .current => unitsOf target iset
  | .voltage =>
    if firstEval then unitsOf target iset else unitsOf target (min iset (imAcc + max (iset / 10) 10))
  | .rest => 0

/-- The request: a raw request above 0 raised to the floor and limited to 200 (R86). -/
def requestOf (floor raw : Nat) : Nat := if raw = 0 then 0 else min Config.maxRequest (max floor raw)

/-- The commanded current of a grant above 0 (R87). -/
def commandedCurrent (iset granted target : Nat) : Nat := min iset (granted * 1000000 / target)

/-- The voltage limit of a pack target, in 10 mV (R87). -/
def voltageLimit (target : Nat) : Nat := target / 10

/-- The straight line of segment `i` of an OCV table, between the points `lo` and `hi` (R88). -/
def ocvSegment (i v lo hi : Nat) : Nat := 25 * i + 25 * (v - lo) / (hi - lo)

/-- The estimated SoC of a per-cell rest voltage (R88); a class whose table is ABSENT gives 0 %. -/
def ocvPercent (ocv : Option Ocv) (v : Nat) : Nat :=
  match ocv with
  | none => 0
  | some t =>
    if v ≤ t.p0 then 0
    else if t.p4 ≤ v then 100
    else if v < t.p1 then ocvSegment 0 v t.p0 t.p1
    else if v < t.p2 then ocvSegment 1 v t.p1 t.p2
    else if v < t.p3 then ocvSegment 2 v t.p2 t.p3
    else ocvSegment 3 v t.p3 t.p4

/-- The per-cell rest voltage in mV (R88). -/
def restVoltage (vm cells : Nat) : Nat := vm * 10 / cells

/-- The stored charge of an open-circuit estimate (R89). -/
def estimateCharge (cr : ClassRec) (vm : Nat) : Nat :=
  fullCharge cr.capacity * ocvPercent cr.ocv (restVoltage vm cr.cells) / 100

end Sys2Proof.Machine
end

