-- ==== Sys2Proof/Machine/Lookup.lean ====
section
/-! DEFINITION. What the blocks read of the state: the records of a bay, the pack it runs, the class in use
(R16, Table 4-1), the stage a session stands at, readiness (R11), need and shortage (R116), and the attention
flags and the ATTN pin (R178, R180). Nothing here changes the state. -/

namespace Sys2Proof.Machine

/-- The part is running: powered, RESET released and the restore done (R182). -/
def State.running (s : State) : Bool := s.powered && !s.resetLow && !s.restoring

/-- The sequencer of a bay. -/
def State.bay (s : State) (b : BayNo) : Bay := s.bays[b]

/-- The grant-table entry of a bay. -/
def State.grant (s : State) (b : BayNo) : Grant := s.alloc.grants[b]

/-- The scanner's record of a bay. -/
def State.line (s : State) (b : BayNo) : LineRec := s.scanner.lines[b]

/-- The fault record of a bay; `none` is empty (R140). -/
def State.faultRec (s : State) (b : BayNo) : Option FaultRec := s.faults[b]

/-- The class record of a class code; `none` is undefined (R1). -/
def State.classRec (s : State) (c : ClassNo) : Option ClassRec := s.register.classes[c]

/-- The rotation list of a class, head first (R10). -/
def State.rotation (s : State) (c : ClassNo) : List Nat := s.register.rotation[c]

/-! ## Pack records -/

/-- The record with a tag in a list of records. -/
def findPack (ps : List PackRec) (t : Nat) : Option PackRec := ps.find? fun r => decide (r.tag = t)

/-- A list of records in ascending tag order with `r` put in, replacing a record of the same tag. -/
def putPack (r : PackRec) : List PackRec → List PackRec
  | [] => [r]
  | p :: ps => if r.tag < p.tag then r :: p :: ps else if r.tag = p.tag then r :: ps else p :: putPack r ps

/-- A list of records without the record of a tag. -/
def dropPack (t : Nat) (ps : List PackRec) : List PackRec := ps.filter fun r => decide (r.tag ≠ t)

/-- The list of records holds strictly rising tags. -/
def packsSorted : List PackRec → Bool
  | [] => true
  | [_] => true
  | p :: q :: ps => decide (p.tag < q.tag) && packsSorted (q :: ps)

/-- The pack record of a tag (R5). -/
def State.pack (s : State) (t : Nat) : Option PackRec := findPack s.register.packs t

/-- The pack records whose place is a bay. -/
def State.packsAt (s : State) (b : BayNo) : List PackRec :=
  s.register.packs.filter fun r => decide (r.place = .bay b)

/-! ## The pack in a bay -/

/-- The class in use at a bay: the pack's class for a registered pack, the class of the verdict for an
anonymous one (R16, R92). A registered pack whose record is gone has none (log entry 44). -/
def State.classInUse (s : State) (b : BayNo) : Option ClassNo :=
  match (s.bay b).identity with
  | .empty => none
  | .registered t => (s.pack t).map (·.cls)
  | .anonymous c _ _ => some c

/-- The record of the class in use at a bay. -/
def State.classAt (s : State) (b : BayNo) : Option ClassRec := (s.classInUse b).bind s.classRec

/-- The stored charge of the pack in a bay (R8, R16). -/
def State.chargeAt (s : State) (b : BayNo) : Nat :=
  match (s.bay b).identity with
  | .empty => 0
  | .registered t => ((s.pack t).map (·.charge)).getD 0
  | .anonymous _ q _ => q

/-- Charge known of the pack in a bay (R8, R16). -/
def State.knownAt (s : State) (b : BayNo) : Bool :=
  match (s.bay b).identity with
  | .empty => false
  | .registered t => ((s.pack t).map (·.known)).getD false
  | .anonymous _ _ k => k

/-- The bay's latest good report shows a pack present. -/
def Bay.showsPack (y : Bay) : Bool := (y.latest.map (·.report.present)).getD false

/-- The bay's latest good report shows a pack present with tag `t`. -/
def Bay.showsTag (y : Bay) (t : Nat) : Bool :=
  (y.latest.map fun l => l.report.present && decide (l.report.tag = t)).getD false

/-- The bay holds an anonymous pack. -/
def Bay.holdsAnonymous (y : Bay) : Bool :=
  match y.identity with
  | .anonymous _ _ _ => true
  | _ => false

/-- The bay is in ASSESS, CHARGE or MAINTAIN. -/
def Bay.inSession (y : Bay) : Bool :=
  match y.state with
  | .assess => true
  | .charge => true
  | .maintain => true
  | _ => false

/-! ## Sessions and profiles -/

/-- The profile of a session's number. -/
def State.profile (s : State) (p : ProfileNo) : Profile := s.profiles[p]

/-- The stage record at a position of a profile; `none` is blank. -/
def Profile.stage (pr : Profile) (k : StageNo) : Option Stage := pr.stages[k]

/-- The current stage of a session with its record. -/
def State.stageOf (s : State) (se : Session) : Option (StageNo × Stage) :=
  se.stage.bind fun k => ((s.profile se.profile).stage k).map fun st => (k, st)

/-- A bay's session stands at a REST stage. -/
def State.atRest (s : State) (b : BayNo) : Bool :=
  (((s.bay b).session.bind s.stageOf).map fun p => decide (p.2.kind = .rest)).getD false

/-- The stage an action names, if it names one. -/
def Action.target? : Action → Option StageNo
  | .goto k => some k
  | .callResume k => some k
  | .callRestart k => some k
  | .ret => none
  | .complete => none
  | .fault _ => none

/-- Every exit of a stage names only stages below the count (R57). -/
def Stage.exitsBelow (st : Stage) (count : Nat) : Bool :=
  st.exits.all fun e => ((e.action.target?).map fun k => decide (k.val < count)).getD true

/-- A profile is valid (R57). -/
def Profile.valid (pr : Profile) : Bool :=
  between 1 pr.header.stageCount 12 &&
  (List.finRange 12).all (fun k =>
    decide (pr.header.stageCount ≤ k.val) ||
      ((pr.stage k).map fun st => st.exitsBelow pr.header.stageCount).getD false) &&
  ((pr.header.maintain).map fun k => decide (k.val < pr.header.stageCount)).getD true

/-- A profile is in use: a bay holds a session on it (R56). -/
def State.profileInUse (s : State) (p : ProfileNo) : Bool :=
  allBays.any fun b => ((s.bay b).session.map fun se => decide (se.profile = p)).getD false

/-- A class is in use: a bay that holds a pack of it is in ASSESS, CHARGE or MAINTAIN (R2, item 5). -/
def State.classBusy (s : State) (c : ClassNo) : Bool :=
  allBays.any fun b => (s.bay b).inSession && decide (s.classInUse b = some c)

/-! ## Readiness, need and shortage -/

/-- A bay state and outcome in which a pack can be ready (R11). -/
def Bay.readyState (y : Bay) : Bool :=
  match y.state with
  | .maintain => true
  | .standby => decide (y.outcome = .complete)
  | _ => false

/-- A place is a bay in which a pack can be ready (R11). -/
def State.readyPlace (s : State) : Place → Bool
  | .bay b => (s.bay b).readyState
  | .machine _ => false
  | .unaccounted => false

/-- A registered pack is ready (R11). -/
def State.packReady (s : State) (r : PackRec) : Bool :=
  decide (r.standing = .serviceable) && r.known && s.readyPlace r.place && decide (r.mark = none)

/-- ready(c): the number of ready packs of a class (R11). -/
def State.readyCount (s : State) (c : ClassNo) : Nat :=
  (s.register.packs.filter fun r => decide (r.cls = c) && s.packReady r).length

/-- A reservation counts toward demand at this minute (R116). -/
def State.counts (s : State) (v : Reservation) : Bool := decide (v.due ≤ s.minute + s.disp.lookahead)

/-- demand(c), for a class of the given twin field (R116). -/
def State.demand (s : State) (c : ClassNo) (twin : Bool) : Nat :=
  ((s.disp.reservations.filter fun v => decide (v.cls = c) && s.counts v).map
    fun v => v.machines * (if twin then 2 else 1)).sum

/-- A class is short at this moment, with the ready count as last handed (R116). -/
def State.isShort (s : State) (c : ClassNo) : Bool :=
  match s.classRec c with
  | none => false
  | some cr => decide (s.disp.ready[c] < cr.lowWater + s.demand c cr.twin)

/-! ## Attention -/

/-- The bays whose fault record is latched: the set of flag FAULT (R146). -/
def State.faultBays (s : State) : List BayNo := allBays.filter fun b => (s.faultRec b).isSome

/-- An attention flag is SET (R178). FAULT follows its set of bays and SHORT its set of classes. -/
def State.flagSet (s : State) : Cause → Bool
  | .fault => !s.faultBays.isEmpty
  | .short => allClasses.any fun c => s.link.shortSet[c]
  | .lapsed => s.link.edges.lapsed
  | .taken => s.link.edges.taken
  | .unaccounted => s.link.edges.unaccounted
  | .missed => s.link.edges.missed
  | .regfull => s.link.edges.regfull
  | .link => s.link.edges.link

/-- The eight causes in the order of Table 10-1. -/
def allCauses : List Cause := [.fault, .short, .lapsed, .taken, .unaccounted, .missed, .regfull, .link]

/-- A cause's position in the attention mask. -/
def Cause.index : Cause → Fin 8
  | .fault => 0
  | .short => 1
  | .lapsed => 2
  | .taken => 3
  | .unaccounted => 4
  | .missed => 5
  | .regfull => 6
  | .link => 7

/-- The ATTN pin is driven low: the part runs and an unmasked flag is SET (R180, R182). The pin follows the
flags and the mask at every moment, so it is computed and not stored (log entry 28). -/
def State.attnLow (s : State) : Bool :=
  s.running && allCauses.any fun c => s.flagSet c && !s.link.mask[c.index]

/-- The link unit is busy: a reply is being prepared or sent (R173). -/
def State.busy (s : State) : Bool := s.link.reply.isSome

/-- What the TX pin of the depot link sends: the frame of the reply, and nothing while the unit is not busy (R170, R174;
log entry 28). -/
def State.txBytes (s : State) : List Byte := (s.link.reply.map Reply.frame).getD []

end Sys2Proof.Machine
end

