-- ==== Sys2Proof/Machine/Updates.lean ====
section
/-! DEFINITION. The named updates of the state: one record of one block at a time, the writes to the retained
store (R21), and the changes of a pack record. -/

namespace Sys2Proof.Machine

/-! ## One record at a time -/

/-- Change a bay's sequencer. -/
def State.modBay (s : State) (b : BayNo) (f : Bay → Bay) : State := { s with bays := s.bays.set b (f s.bays[b]) }

/-- Change a bay's session record, where there is one. -/
def State.modSession (s : State) (b : BayNo) (f : Session → Session) : State :=
  s.modBay b fun y => { y with session := y.session.map f }

/-- Change a bay's grant-table entry. -/
def State.modGrant (s : State) (b : BayNo) (f : Grant → Grant) : State :=
  { s with alloc := { s.alloc with grants := s.alloc.grants.set b (f s.alloc.grants[b]) } }

/-- Change the scanner's record of a bay. -/
def State.modLine (s : State) (b : BayNo) (f : LineRec → LineRec) : State :=
  { s with scanner := { s.scanner with lines := s.scanner.lines.set b (f s.scanner.lines[b]) } }

/-- Set a bay's fault record. -/
def State.setFault (s : State) (b : BayNo) (r : Option FaultRec) : State := { s with faults := s.faults.set b r }

/-- Set the level queue of a level (R98). -/
def State.setQueue (s : State) (l : LevelNo) (q : List BayNo) : State :=
  { s with alloc := { s.alloc with queues := s.alloc.queues.set l q } }

/-- Set the outstanding issue list (R118). -/
def State.setIssues (s : State) (l : List Issue) : State := { s with disp := { s.disp with issues := l } }

/-- Set the reservation list (R133). -/
def State.setReservations (s : State) (l : List Reservation) : State :=
  { s with disp := { s.disp with reservations := l } }

/-- Set the prompt list (R161). -/
def State.setPrompt (s : State) (l : List BayNo) : State := { s with scanner := { s.scanner with prompt := l } }

/-- Set the receiver's state (R171). -/
def State.setReceiver (s : State) (r : Receiver) : State := { s with link := { s.link with receiver := r } }

/-- Set an edge-type flag, or add nothing for the two causes that carry a set (R178). -/
def Edges.raise (e : Edges) : Cause → Edges
  | .lapsed => { e with lapsed := true }
  | .taken => { e with taken := true }
  | .unaccounted => { e with unaccounted := true }
  | .missed => { e with missed := true }
  | .regfull => { e with regfull := true }
  | .link => { e with link := true }
  | .fault => e
  | .short => e

/-- Set an edge-type attention flag (R178). -/
def State.raise (s : State) (c : Cause) : State := { s with link := { s.link with edges := s.link.edges.raise c } }

/-- Set attention SHORT and add a class to its set (R117, R178). -/
def State.raiseShort (s : State) (c : ClassNo) : State :=
  { s with link := { s.link with shortSet := s.link.shortSet.set c true } }

/-! ## The retained store -/

/-- An image of a pack record: the issue mark is always stored as none (R21). -/
def PackRec.image (r : PackRec) : PackRec := { r with mark := none }

/-- The images with the changed fields of `r` written; the stored charge of an image that exists is left as it
was (R21). -/
def putImage (ps : List PackRec) (r : PackRec) : List PackRec :=
  putPack { r.image with charge := ((findPack ps r.tag).map (·.charge)).getD r.charge } ps

/-- The images with the stored charge of a tag's image written (R21). -/
def putCharge (ps : List PackRec) (t mAh : Nat) : List PackRec :=
  ps.map fun r => if r.tag = t then { r with charge := mAh } else r

/-- A stage position of a profile written (R58). -/
def Profile.put (pr : Profile) (k : StageNo) (st : Stage) : Profile := { pr with stages := pr.stages.set k (some st) }

/-- One completed write (R21). -/
def Store.apply (st : Store) : StoreWrite → Store
  | .site v => { st with site := v }
  | .feederCap f cap => { st with feederCaps := st.feederCaps.set f cap }
  | .cls c r => { st with classes := st.classes.set c (some r) }
  | .header p h => { st with profiles := st.profiles.set p { st.profiles[p] with header := h } }
  | .stage p k g => { st with profiles := st.profiles.set p (st.profiles[p].put k g) }
  | .bayCfg b cfg => { st with bayCfgs := st.bayCfgs.set b cfg }
  | .mask m => { st with mask := m }
  | .pack r => { st with packs := putImage st.packs r }
  | .charge t q => { st with packs := putCharge st.packs t q }
  | .packGone t => { st with packs := dropPack t st.packs }
  | .rotation c l => { st with rotation := st.rotation.set c l }

/-- Writes completed in order (R21). -/
def Store.applyAll (st : Store) (ws : List StoreWrite) : Store := ws.foldl Store.apply st

/-- Send a write on its way to the store, after those already on theirs (R21). -/
def State.write (s : State) (w : StoreWrite) : State := { s with inFlight := s.inFlight ++ [w] }

/-- The writes of earlier events are completed: every event begins so (log entry 5). -/
def State.settle (s : State) : State := { s with store := s.store.applyAll s.inFlight, inFlight := [] }

/-- The supply or RESET cuts the writes off after the first `n` of them: a record whose write is cut off keeps
its earlier image (R21, R177, R184). -/
def State.cutWrites (s : State) (n : Nat) : State :=
  { s with store := s.store.applyAll (s.inFlight.take n), inFlight := [] }

/-! ## Pack records -/

/-- Change the working record of a tag. -/
def State.modPack (s : State) (t : Nat) (f : PackRec → PackRec) : State :=
  { s with register := { s.register with packs := s.register.packs.map fun r => if r.tag = t then f r else r } }

/-- Write the record of a tag to the retained store, its stored charge excepted (R21). -/
def State.savePack (s : State) (t : Nat) : State :=
  match s.pack t with
  | some r => s.write (.pack r)
  | none => s

/-- Write the stored charge of a tag to the retained store (R21). -/
def State.saveCharge (s : State) (t : Nat) : State :=
  match s.pack t with
  | some r => s.write (.charge t r.charge)
  | none => s

/-- Write the stored charge of the registered pack a bay runs (R21). -/
def State.saveChargeAt (s : State) (b : BayNo) : State :=
  match (s.bay b).identity with
  | .registered t => s.saveCharge t
  | _ => s

/-- The tags of the registered packs of a bay: that of the pack it runs, and those of the records whose place is the bay, in
rising order (log entries 21 and 33). -/
def State.tagsOfBay (s : State) (b : BayNo) : List Nat :=
  let placed := (s.packsAt b).map (·.tag)
  match (s.bay b).identity with
  | .registered t => t :: placed.filter fun g => decide (g ≠ t)
  | _ => placed

/-- Write the stored charges of the registered packs of a bay: a fault latches there (R21). -/
def State.saveChargesAt (s : State) (b : BayNo) : State := (s.tagsOfBay b).foldl State.saveCharge s

/-- Change a record's place and write it (R6). -/
def State.setPlace (s : State) (t : Nat) (p : Place) : State :=
  (s.modPack t fun r => { r with place := p }).savePack t

/-- Set or clear an issue mark; it is not kept in the store (R21). -/
def State.setMark (s : State) (t : Nat) (m : Option Nat) : State := s.modPack t fun r => { r with mark := m }

/-- Set a class's rotation list and write it (R10). -/
def State.setRotation (s : State) (c : ClassNo) (l : List Nat) : State :=
  { s with register := { s.register with rotation := s.register.rotation.set c l } }.write (.rotation c l)

/-- Insert a new record at the head of its class's rotation list, and write both (R10, R15, R17). -/
def State.addPack (s : State) (r : PackRec) : State :=
  ({ s with register := { s.register with packs := putPack r s.register.packs } }.write (.pack r)).setRotation r.cls
    (r.tag :: s.rotation r.cls)

/-- Delete a record with its rotation-list entry, and write both (R18). -/
def State.deletePack (s : State) (r : PackRec) : State :=
  ({ s with register := { s.register with packs := dropPack r.tag s.register.packs } }.write
    (.packGone r.tag)).setRotation r.cls ((s.rotation r.cls).filter fun t => decide (t ≠ r.tag))

/-- Move a tag to the tail of its class's rotation list (R10). -/
def State.toTail (s : State) (r : PackRec) : State :=
  s.setRotation r.cls (((s.rotation r.cls).filter fun t => decide (t ≠ r.tag)) ++ [r.tag])

/-- A new record, as registration makes it (R15, step 2). -/
def PackRec.fresh (t : Nat) (c : ClassNo) (p : Place) : PackRec :=
  ⟨t, c, p, .serviceable, 0, false, none, 0, 0, none⟩

/-- Every record whose place is a bay becomes UNACCOUNTED, and each is written (R6). -/
def State.loseAt (s : State) (b : BayNo) : State :=
  (s.packsAt b).foldl (fun s r => s.setPlace r.tag .unaccounted) s

/-- Every record whose place is a bay, other than the pack with tag `t`, becomes UNACCOUNTED; each raises `c`
(R23, R44, R148). `t = none` stands for a report that shows no pack. -/
def State.settleAt (s : State) (b : BayNo) (t : Option Nat) (c : Cause) : State :=
  ((s.packsAt b).filter fun r => decide (some r.tag ≠ t)).foldl
    (fun s r => (s.setPlace r.tag .unaccounted).raise c) s

/-- Set the stored charge of the pack in a bay (R8). -/
def State.setChargeAt (s : State) (b : BayNo) (q : Nat) : State :=
  match (s.bay b).identity with
  | .empty => s
  | .registered t => s.modPack t fun r => { r with charge := q }
  | .anonymous c _ k => s.modBay b fun y => { y with identity := .anonymous c q k }

/-- Set charge known of the pack in a bay to YES; a registered pack's record is written (R8, R89). -/
def State.setKnownAt (s : State) (b : BayNo) : State :=
  match (s.bay b).identity with
  | .empty => s
  | .registered t => (s.modPack t fun r => { r with known := true }).savePack t
  | .anonymous c q _ => s.modBay b fun y => { y with identity := .anonymous c q true }

/-- A registered pack's equalize count becomes 0 and is written (R71). -/
def State.resetEqualizeAt (s : State) (b : BayNo) : State :=
  match (s.bay b).identity with
  | .registered t => (s.modPack t fun r => { r with equalize := 0 }).savePack t
  | _ => s

end Sys2Proof.Machine
end

