-- ==== Sys2Proof/Machine/Allocation.lean ====
section
/-! DEFINITION. The allocation pass (R97, R101 to R105) as arithmetic on the granted units of the 24 bays. The
pass reads requests, levels, feeders, floors, queues and caps from the state and changes granted units only;
Machine/Ops.lean enters its result into the grant table. -/

namespace Sys2Proof.Machine

/-- The granted units of the 24 bays while a pass works on them. -/
abbrev Grants := Vector Nat 24

/-- The granted units as the grant table holds them. -/
def State.grantedUnits (s : State) : Grants := Vector.ofFn fun b => (s.grant b).granted

/-- The effective cap (R93). -/
def State.effectiveCap (s : State) : Nat := (s.alloc.shed.map (·.cap)).getD s.alloc.siteCap

/-- The configured feeder of a bay. -/
def State.feeder (s : State) (b : BayNo) : Option FeederNo := (s.bay b).cfg.feeder

/-- The cap of a feeder. -/
def State.feederCap (s : State) (f : FeederNo) : Nat := s.alloc.feederCaps[f]

/-- The floor that applies to a bay: its class in use's (R92). A bay with no class in use has request 0, and no
rule reads its floor. -/
def State.floorAt (s : State) (b : BayNo) : Nat := ((s.classAt b).map (·.floor)).getD 1

/-- The bays of a feeder, in ascending bay number. -/
def State.feederBays (s : State) (f : FeederNo) : List BayNo := allBays.filter fun b => decide (s.feeder b = some f)

/-- The sum of a quantity over a list of bays. -/
def sumOver (l : List BayNo) (f : BayNo → Nat) : Nat := (l.map f).sum

/-- The granted sum of a list of bays. -/
def grantedSum (l : List BayNo) (g : Grants) : Nat := sumOver l fun b => g[b]

/-- The commitment of a bay: the larger of granted and carried (R101). -/
def State.commitment (s : State) (g : Grants) (b : BayNo) : Nat := max g[b] (s.grant b).carried

/-- The commitment total of a list of bays (R101). -/
def State.committed (s : State) (g : Grants) (l : List BayNo) : Nat := sumOver l (s.commitment g)

/-! ## The order of a pass (R97) -/

/-- The bays of one level in the order of the scheme: ascending, or that level's queue. -/
def State.levelOrder (s : State) (l : LevelNo) : List BayNo :=
  (match s.alloc.scheme with
    | .fixed => allBays
    | .rotating => s.alloc.queues[l]).filter fun b => decide ((s.grant b).level = l ∧ 0 < (s.grant b).request)

/-- The order of a pass: every bay whose request is above 0, level 3 first (R97). -/
def State.order (s : State) : List BayNo :=
  s.levelOrder 3 ++ s.levelOrder 2 ++ s.levelOrder 1 ++ s.levelOrder 0

/-! ## Keep and cut (R103) -/

/-- Keep: each grant becomes the smaller of grant and request, and 0 for a bay whose feeder is NONE. -/
def State.keep (s : State) (g : Grants) : Grants :=
  Vector.ofFn fun b => if (s.feeder b).isNone then 0 else min g[b] (s.grant b).request

/-- The to-floor walk: each grant above its floor is lowered by the smaller of its part above the floor and the
remaining excess. The result carries the excess that remains. -/
def cutToFloor (floor : BayNo → Nat) : List BayNo → Nat → Grants → Grants × Nat
  | [], e, g => (g, e)
  | b :: bs, e, g => cutToFloor floor bs (e - min (g[b] - floor b) e) (g.set b (g[b] - min (g[b] - floor b) e))

/-- The to-zero walk: grants are set to 0 until no excess remains. -/
def cutToZero : List BayNo → Nat → Grants → Grants
  | [], _, g => g
  | b :: bs, e, g => if e = 0 then g else cutToZero bs (e - g[b]) (g.set b 0)

/-- The two walks over a list of bays, given from the end of the order, that bring its granted sum within a cap. -/
def cutWalks (floor : BayNo → Nat) (fromEnd : List BayNo) (excess : Nat) (g : Grants) : Grants :=
  cutToZero fromEnd (cutToFloor floor fromEnd excess g).2 (cutToFloor floor fromEnd excess g).1

/-- The cut to the effective cap. -/
def State.cutSite (s : State) (g : Grants) : Grants :=
  cutWalks s.floorAt s.order.reverse (grantedSum allBays g - s.effectiveCap) g

/-- The bays of a feeder in a pass's order. -/
def State.feederOrder (s : State) (f : FeederNo) : List BayNo :=
  s.order.filter fun b => decide (s.feeder b = some f)

/-- The cut to one feeder's cap. -/
def State.cutFeeder (s : State) (g : Grants) (f : FeederNo) : Grants :=
  cutWalks s.floorAt (s.feederOrder f).reverse (grantedSum (s.feederBays f) g - s.feederCap f) g

/-- The cut phase: the site, then each feeder in ascending feeder number. -/
def State.cut (s : State) (g : Grants) : Grants := allFeeders.foldl s.cutFeeder (s.cutSite g)

/-! ## Fill (R104) -/

/-- Granted units with the reserves a walk has gathered. -/
structure Reserved where
  g : Grants
  site : Nat
  feeders : Vector Nat 4

/-- A floor added to the site reserve and to a feeder's reserve. -/
def Reserved.hold (r : Reserved) (f : FeederNo) (floor : Nat) : Reserved :=
  { r with site := r.site + floor, feeders := r.feeders.set f (r.feeders[f] + floor) }

/-- The headroom of a bay on feeder `f` (R104). A headroom of 0 or below is 0. -/
def State.headroom (s : State) (r : Reserved) (f : FeederNo) : Nat :=
  min (s.effectiveCap - (s.committed r.g allBays + r.site))
    (s.feederCap f - (s.committed r.g (s.feederBays f) + r.feeders[f]))

/-- The grant fill gives a bay on feeder `f`: the candidate where there is headroom and the candidate reaches
the floor, else the grant as it is. -/
def State.filled (s : State) (r : Reserved) (b : BayNo) (f : FeederNo) : Nat :=
  let h := s.headroom r f
  let candidate := min (s.grant b).request (r.g[b] + h)
  if r.g[b] < (s.grant b).request ∧ 0 < h ∧ s.floorAt b ≤ candidate then candidate else r.g[b]

/-- Fill at one bay: the raise, and the reserve of an URGENT bay left at 0. -/
def State.fillBay (s : State) (r : Reserved) (b : BayNo) : Reserved :=
  match s.feeder b with
  | none => r
  | some f =>
    let r' := { r with g := r.g.set b (s.filled r b f) }
    if (s.grant b).level = 3 ∧ s.filled r b f = 0 then r'.hold f (s.floorAt b) else r'

/-- The order of fill: bays with the yield mark are walked after all the others. -/
def State.fillOrder (s : State) : List BayNo :=
  (s.order.filter fun b => !(s.grant b).yielded) ++ (s.order.filter fun b => (s.grant b).yielded)

/-- The fill phase; it does nothing while the startup hold runs (R110). -/
def State.fill (s : State) (g : Grants) : Grants :=
  if s.alloc.hold.isSome then g else (s.fillOrder.foldl s.fillBay ⟨g, 0, Vector.replicate 4 0⟩).g

/-! ## Preempt (R105) -/

/-- What U's floor lacks of the effective cap, after the grants and the preempt site reserve. -/
def State.siteShortfall (s : State) (r : Reserved) (floor : Nat) : Nat :=
  grantedSum allBays r.g + r.site + floor - s.effectiveCap

/-- What U's floor lacks of its feeder's cap. -/
def State.feederShortfall (s : State) (r : Reserved) (f : FeederNo) (floor : Nat) : Nat :=
  grantedSum (s.feederBays f) r.g + r.feeders[f] + floor - s.feederCap f

/-- A bay whose grant may be cut for an URGENT bay: level 0 or 1. -/
def State.eligible (s : State) (b : BayNo) : Bool := decide ((s.grant b).level.val ≤ 1)

/-- The larger of the shortfalls that a cut at bay `b` relieves, for an URGENT bay on feeder `f`. -/
def State.relief (s : State) (f : FeederNo) (b : BayNo) (site feeder : Nat) : Nat :=
  if s.feeder b = some f then max site feeder else site

/-- The shortfalls left after a cut of `d` at bay `b`. -/
def State.relieved (s : State) (f : FeederNo) (b : BayNo) (d site feeder : Nat) : Nat × Nat :=
  (site - d, if s.feeder b = some f then feeder - d else feeder)

/-- The to-floor walk of preempt over eligible bays, given from the end of the order. -/
def State.preemptFloor (s : State) (f : FeederNo) : List BayNo → Nat × Nat → Grants → Grants × (Nat × Nat)
  | [], q, g => (g, q)
  | b :: bs, q, g =>
    let d := min (g[b] - s.floorAt b) (s.relief f b q.1 q.2)
    s.preemptFloor f bs (s.relieved f b d q.1 q.2) (g.set b (g[b] - d))

/-- The to-zero walk of preempt. -/
def State.preemptZero (s : State) (f : FeederNo) : List BayNo → Nat × Nat → Grants → Grants
  | [], _, g => g
  | b :: bs, q, g =>
    if s.relief f b q.1 q.2 = 0 then s.preemptZero f bs q g
    else s.preemptZero f bs (s.relieved f b g[b] q.1 q.2) (g.set b 0)

/-- Cutting every eligible grant to 0 would meet both conditions. -/
def State.preemptable (s : State) (f : FeederNo) (site feeder : Nat) (g : Grants) : Bool :=
  decide (site ≤ grantedSum (s.order.filter s.eligible) g ∧
    feeder ≤ grantedSum ((s.feederOrder f).filter s.eligible) g)

/-- The two walks that make room for an URGENT bay on feeder `f`. -/
def State.preemptCuts (s : State) (f : FeederNo) (site feeder : Nat) (g : Grants) : Grants :=
  let fromEnd := (s.order.filter s.eligible).reverse
  let first := s.preemptFloor f fromEnd (site, feeder) g
  s.preemptZero f fromEnd first.2 first.1

/-- Preempt for one URGENT bay left at 0 (R105). Its own grant is not raised. -/
def State.preemptBay (s : State) (r : Reserved) (u : BayNo) : Reserved :=
  match s.feeder u with
  | none => r
  | some f =>
    let floor := s.floorAt u
    let site := s.siteShortfall r floor
    let feeder := s.feederShortfall r f floor
    if r.g[u] ≠ 0 then r
    else if site = 0 ∧ feeder = 0 then r.hold f floor
    else if s.preemptable f site feeder r.g then { r with g := s.preemptCuts f site feeder r.g }.hold f floor
    else r

/-- The preempt phase: the level-3 bays of the order from the start. -/
def State.preempt (s : State) (g : Grants) : Grants :=
  ((s.order.filter fun b => decide ((s.grant b).level = 3)).foldl s.preemptBay ⟨g, 0, Vector.replicate 4 0⟩).g

/-! ## The three stages of a pass -/

/-- Granted units after keep and cut. -/
def State.afterCut (s : State) : Grants := s.cut (s.keep s.grantedUnits)

/-- Granted units after fill. -/
def State.afterFill (s : State) : Grants := s.fill s.afterCut

/-- Granted units at the end of the pass. -/
def State.afterPass (s : State) : Grants := s.preempt s.afterFill

/-- The grant-table entry of bay `b` after a pass with these three stages: a turn ends where the grant returned to
0 and starts where fill raised it from 0 under TURN (R107), and such a raise clears the yield mark (R109). A grant that cut
took to 0 and fill raised again counts as ended and started, though it was above 0 before the pass (log entry 49). -/
def Grant.afterPass (e : Grant) (now cut filled final : Nat) : Grant :=
  let raised : Bool := decide (cut = 0 ∧ 0 < filled)
  let turn : Option Nat :=
    if final = 0 then none
    else if raised then (match e.mode with | .turn => some (now + e.turnLength.getD 0 * Config.minute) | .hold => none)
    else if cut = 0 then none else e.turnExpiry
  { e with granted := final, turnExpiry := turn, yielded := e.yielded && !raised }

end Sys2Proof.Machine
end

