-- ==== Sys2Proof/Machine/Ops.lean ====
section
/-! DEFINITION. The operations the blocks hand each other: a bay's drive and the prompt list (R48, R49, R161), the
allocation pass (R102), requests and queues (R98), levels (R96), shortage (R117) and ready counts (R11). -/

namespace Sys2Proof.Machine

/-! ## The drive and the prompt list -/

/-- The drive of a bay in CHARGE or MAINTAIN, from its grant and the kept target and setpoint (R48, R87). -/
def poweredDrive (granted target iset : Nat) (i : Indicator) : Drive :=
  if granted = 0 then ⟨false, 0, 0, false, i⟩
  else ⟨true, voltageLimit target, commandedCurrent iset granted target, false, i⟩

/-- The indicator of a STANDBY bay (Table 2-5). -/
def standbyIndicator : Ending → Indicator
  | .complete => .ready
  | .stopped => .held
  | .none => .held

/-- The drive of a bay (Table 2-5). -/
def driveOf (y : Bay) (granted : Nat) : Drive :=
  match y.state with
  | .vacant => ⟨false, 0, 0, true, .off⟩
  | .identify => ⟨false, 0, 0, false, .charging⟩
  | .cooling => ⟨false, 0, 0, false, .charging⟩
  | .assess => ⟨false, 0, 0, false, .charging⟩
  | .charge => poweredDrive granted y.keptTarget y.keptIset .charging
  | .maintain => poweredDrive granted y.keptTarget y.keptIset .ready
  | .standby => ⟨false, 0, 0, false, standbyIndicator y.outcome⟩
  | .release => ⟨false, 0, 0, true, .release⟩
  | .fault => ⟨false, 0, 0, true, .fault⟩
  | .masked => ⟨false, 0, 0, true, .off⟩

/-- A new drive with the units it was computed from lowers power against the last drive sent (R161). -/
def lowersPower (last : Sent) (new : Drive) (units : Nat) : Bool :=
  (last.drive.on && !new.on) || (last.drive.on && new.on && decide (units < last.units)) ||
    (last.drive.latchOpen != new.latchOpen)

/-- Append a bay to the tail of the prompt list unless it is on it (R161). -/
def State.promptAdd (s : State) (b : BayNo) : State :=
  if b ∈ s.scanner.prompt then s else s.setPrompt (s.scanner.prompt ++ [b])

/-- The bay recomputes its drive, and the scanner places it on the prompt list where it lowers power (R49, R161). -/
def State.redrive (s : State) (b : BayNo) : State :=
  let d := driveOf (s.bay b) (s.grant b).granted
  let s' := s.modBay b fun y => { y with drive := d }
  if lowersPower (s.line b).sent d (s.grant b).granted then s'.promptAdd b else s'

/-! ## The pass (R102) -/

/-- The grant-table entry of a bay after a pass. -/
def State.grantAfterPass (s : State) (b : BayNo) : Grant :=
  (s.grant b).afterPass s.now (s.afterCut[b]) (s.afterFill[b]) (s.afterPass[b])

/-- The grant table with the result of a pass entered. -/
def State.enterPass (s : State) : State :=
  { s with alloc := { s.alloc with grants := Vector.ofFn s.grantAfterPass } }

/-- The bays in the order in which a pass hands out changed grants: the bays outside its order, which keep alone
can change, and then the order of the pass (R102; log entry 12). -/
def State.handOrder (s : State) : List BayNo :=
  (allBays.filter fun b => decide (b ∉ s.order)) ++ s.order

/-- The bays whose granted value a pass changes, in the order in which they are told. -/
def State.regranted (s : State) : List BayNo :=
  s.handOrder.filter fun b => decide (s.afterPass[b] ≠ (s.grant b).granted)

/-- An allocation pass (R102): keep, cut, fill and preempt, and each bay whose grant changed recomputes its drive. -/
def State.pass (s : State) : State := s.regranted.foldl State.redrive s.enterPass

/-- A bay's status is WAITING (Table 5-3). -/
def Grant.waiting (e : Grant) : Bool := decide (0 < e.request ∧ e.granted = 0)

/-- A bay's status is WAITING or PARTIAL (Table 5-3). -/
def Grant.wanting (e : Grant) : Bool := decide (e.granted < e.request)

/-- Some bay is WAITING or PARTIAL. -/
def State.anyWanting (s : State) : Bool := allBays.any fun b => (s.grant b).wanting

/-- Set a bay's carried value; a fall runs a pass where a bay is WAITING or PARTIAL (R99, R100). -/
def State.setCarried (s : State) (b : BayNo) (units : Nat) : State :=
  let s' := s.modGrant b fun e => { e with carried := units }
  if units < (s.grant b).carried ∧ s'.anyWanting = true then s'.pass else s'

/-! ## Requests, queues and levels -/

/-- Take a bay out of the queue of a level (R98). -/
def State.unqueue (s : State) (l : LevelNo) (b : BayNo) : State :=
  s.setQueue l (s.alloc.queues[l].filter fun x => decide (x ≠ b))

/-- Append a bay at the tail of the queue of a level (R98). -/
def State.enqueue (s : State) (l : LevelNo) (b : BayNo) : State := s.setQueue l (s.alloc.queues[l] ++ [b])

/-- Move a bay that stands in the queue of a level to its tail (R98, R108). -/
def State.requeue (s : State) (l : LevelNo) (b : BayNo) : State :=
  s.setQueue l ((s.alloc.queues[l].filter fun x => decide (x ≠ b)) ++ s.alloc.queues[l].filter fun x => decide (x = b))

/-- A bay's request takes a new value in the grant table, and its queue follows (R98); a fall to 0 clears the
yield mark (R109). -/
def State.enterRequest (s : State) (b : BayNo) (r : Nat) : State :=
  let old := (s.grant b).request
  let l := (s.grant b).level
  let s' := s.modGrant b fun e => { e with request := r, yielded := e.yielded && decide (r ≠ 0) }
  if old = 0 ∧ r ≠ 0 then s'.enqueue l b else if old ≠ 0 ∧ r = 0 then s'.unqueue l b else s'

/-- A changed request is handed to the allocator, which runs a pass (R37, R102). -/
def State.handRequest (s : State) (b : BayNo) (r : Nat) : State :=
  if (s.grant b).request = r then s else (s.enterRequest b r).pass

/-- A request of 0 is handed to the allocator as a release, which runs a pass (R40, R61), whether or not the request was
0 before (log entry 41). -/
def State.releaseRequest (s : State) (b : BayNo) : State := (s.enterRequest b 0).pass

/-- The level a bay has by R96. -/
def State.levelOf (s : State) (b : BayNo) : LevelNo :=
  match (s.bay b).state, (s.bay b).identity with
  | .charge, .registered t =>
    if ((s.pack t).map fun r => s.disp.short[r.cls]).getD false then 3 else (s.bay b).cfg.baseLevel
  | _, _ => (s.bay b).cfg.baseLevel

/-- A bay's entry takes a level, and its queue follows (R96, R98). -/
def State.enterLevel (s : State) (b : BayNo) (l : LevelNo) : State :=
  let old := (s.grant b).level
  let s' := s.modGrant b fun e => { e with level := l }
  if (s.grant b).request ≠ 0 then (s'.unqueue old b).enqueue l b else s'

/-- The allocator recomputes a bay's level; a changed level runs a pass (R96). -/
def State.relevel (s : State) (b : BayNo) : State :=
  if s.levelOf b = (s.grant b).level then s else (s.enterLevel b (s.levelOf b)).pass

/-! ## Shortage and ready counts -/

/-- The bays in CHARGE that hold a registered pack of a class, in ascending bay number (R96). -/
def State.chargingOf (s : State) (c : ClassNo) : List BayNo :=
  allBays.filter fun b => decide ((s.bay b).state = .charge) && !(s.bay b).holdsAnonymous &&
    decide (s.classInUse b = some c)

/-- Enter a class's shortage state. -/
def State.setShort (s : State) (c : ClassNo) (v : Bool) : State :=
  { s with disp := { s.disp with short := s.disp.short.set c v } }

/-- The dispatcher computes the shortage of a class: on entry to SHORT it sets attention SHORT, and on each change
the allocator recomputes the levels of the class's charging bays (R117). -/
def State.computeShort (s : State) (c : ClassNo) : State :=
  let v := s.isShort c
  if v = s.disp.short[c] then s
  else (s.chargingOf c).foldl State.relevel (if v then (s.setShort c v).raiseShort c else s.setShort c v)

/-- Shortage of every class, in ascending class code (R117). -/
def State.computeAllShort (s : State) : State := allClasses.foldl State.computeShort s

/-- Enter a class's ready count as handed to the dispatcher (R11). -/
def State.setReady (s : State) (c : ClassNo) (n : Nat) : State :=
  { s with disp := { s.disp with ready := s.disp.ready.set c n } }

/-- The pack register hands the dispatcher the ready count of a class if it changed, and the dispatcher computes
the class's shortage (R11, R117). -/
def State.handReady (s : State) (c : ClassNo) : State :=
  if s.readyCount c = s.disp.ready[c] then s else (s.setReady c (s.readyCount c)).computeShort c

/-- The ready counts that changed are handed to the dispatcher, outside an event of the dispatcher's own (R11). -/
def State.handAllReady (s : State) : State := allClasses.foldl State.handReady s

/-- The end of an event of the dispatcher's own: the ready counts that changed in it are entered, and the shortage
of the classes concerned, `cs` and those whose count changed, is computed once (R117). -/
def State.closeEvent (s : State) (cs : List ClassNo) : State :=
  let changed := allClasses.filter fun c => decide (s.readyCount c ≠ s.disp.ready[c]) || decide (c ∈ cs)
  changed.foldl State.computeShort (allClasses.foldl (fun t c => t.setReady c (s.readyCount c)) s)

end Sys2Proof.Machine
end

