-- ==== Sys2Proof/Machine/Sessions.lean ====
section
/-! DEFINITION. Sessions and fault latches at a bay: entering a bay state, starting and ending a session (R35,
R40), stage entry (R60, R61), latching a fault with quarantine and the cancelling of an OPEN part (R131, R143 to
R145), and a bay's return from RELEASE (R46).

The argument `own` of these operations is true inside an event of the dispatcher's own (an issue command, a lapse, a
cancel), where changed ready counts wait for the end of the event (R117). -/

namespace Sys2Proof.Machine

/-- The changed ready counts are handed to the dispatcher, unless they wait for the end of its own event (R117). -/
def State.handUnless (own : Bool) (s : State) : State := if own then s else s.handAllReady

/-! ## Entering a bay state -/

/-- A bay enters a state, and its drive is recomputed (R49). -/
def State.moveTo (s : State) (b : BayNo) (st : BayState) : State :=
  (s.modBay b fun y => { y with state := st }).redrive b

/-- What a bay discards when it stops running a pack: identity, outcome, pre-issue state, docking time, attempt
count and cool expiry (R28, R32, R46, R47; log entry 16). -/
def Bay.emptied (y : Bay) : Bay :=
  { y with identity := .empty, outcome := .none, preIssue := none, dockTime := none, attempts := 0,
           coolExpiry := none }

/-- A bay enters VACANT (R32, R46, R47). -/
def State.toVacant (s : State) (b : BayNo) : State := (s.modBay b Bay.emptied).moveTo b .vacant

/-- A bay enters a fresh IDENTIFY with no report taken in it yet (R30, R50, R151): its reconcile pending becomes NO,
and the docking time waits for the first report. -/
def State.toFreshIdentify (s : State) (b : BayNo) : State :=
  (s.modBay b fun y => { y.emptied with reconcile := .no }).moveTo b .identify

/-- A bay leaves FAULT, or is cleared, for a fresh IDENTIFY where its latest report shows a pack, and for VACANT
otherwise (R50, R151). -/
def State.reidentify (s : State) (b : BayNo) : State :=
  if (s.bay b).showsPack then s.toFreshIdentify b else s.toVacant b

/-- A bay enters STANDBY with an outcome (R38, R41, R46). -/
def State.toStandby (s : State) (b : BayNo) (e : Ending) : State :=
  (s.modBay b fun y => { y with outcome := e, coolExpiry := none, preIssue := none }).moveTo b .standby

/-! ## Session open and end -/

/-- A session record as it opens (Table 3-4). The fields that the table gives at stage entry only stand at 0, NONE or YES
until the first entry: READ BAY shows the stage served time 0 in ASSESS (log entry 40). -/
def Session.fresh (p : ProfileNo) (warm : Bool) (outcome : Ending) : Session where
  profile := p
  stage := none
  frames := []
  served := 0
  entry := 0
  chargeLeft := none
  peak := 0
  sinceRise := 0
  firstEval := true
  restart := true
  sessionServed := 0
  delivered := 0
  deliveredResidue := 0
  storedResidue := 0
  warm := warm
  lastFlags := Flags.clear
  outcome := outcome

/-- A session record is opened on a profile, and the allocator takes its grant mode and turn length (R35, R107). -/
def State.openSession (s : State) (b : BayNo) (p : ProfileNo) (warm : Bool) (outcome : Ending) : State :=
  (s.modBay b fun y =>
      { y with session := some (Session.fresh p warm outcome), outcome := .none, coolExpiry := none,
               preIssue := none }).modGrant b fun e =>
    { e with mode := (s.profile p).header.mode, turnLength := some (s.profile p).header.turnLength,
             turnExpiry := none }

/-- A session ends: its record is discarded, the grant entry returns to HOLD, and the request is released (R40,
R107). -/
def State.endSession (s : State) (b : BayNo) : State :=
  if (s.bay b).session.isSome then
    ((s.modBay b fun y => { y with session := none }).modGrant b fun e =>
      { e with mode := .hold, turnLength := none, turnExpiry := none }).releaseRequest b
  else s

/-! ## Stage entry -/

/-- A session at its fresh entry to stage `k` (R60); `mark` says that the entry sets the integration-restart mark. -/
def Session.entered (se : Session) (k : StageNo) (now : Nat) (base : Option Nat) (mark : Bool) : Session :=
  { se with stage := some k, served := 0, entry := now, chargeLeft := base, peak := 0, sinceRise := 0,
            firstEval := true, restart := mark || se.restart }

/-- The base of a stage's charge budget in a bay (R60). -/
def State.baseAt (s : State) (b : BayNo) (k : StageNo) : Option Nat :=
  match (s.bay b).session, s.classAt b with
  | some se, some cr => (((s.profile se.profile).stage k).bind fun st => chargeBase cr.capacity st.chargeLimit)
  | _, _ => none

/-- A bay's session enters stage `k` fresh (R60). -/
def State.enterStage (s : State) (b : BayNo) (k : StageNo) (mark : Bool) : State :=
  s.modSession b fun se => se.entered k s.now (s.baseAt b k) mark

/-- Entry to a REST stage releases the bay's request (R61). -/
def State.releaseAtRest (s : State) (b : BayNo) : State := if s.atRest b then s.releaseRequest b else s

/-! ## Faults -/

/-- A fault kind quarantines (Table 7-1). -/
def FaultKind.quarantines : FaultKind → Bool
  | .overtemp => true
  | .overvolt => true
  | .timeout => true
  | .profileStop => true
  | _ => false

/-- The pack at latch of a bay (R140). -/
def Bay.packAtLatch (y : Bay) : PackAtLatch :=
  match y.identity with
  | .registered t => .registered t
  | .anonymous _ _ _ => .anonymous
  | .empty =>
    match y.latest with
    | none => .nothing
    | some l =>
      if l.report.present then .unidentified (if validTag l.report.tag then some l.report.tag else none)
      else .nothing

/-- The record of a fault that latches in a bay (R143). `found` is the class of the fault tests for a bay that runs
no identified pack; the stage is that of the bay's session, where it has one. -/
def State.faultRecord (s : State) (b : BayNo) (kind : FaultKind) (others : List FaultKind) (number : Option Nat)
    (found : Option ClassNo) : FaultRec where
  first := kind
  secondary := others
  latchTime := s.now
  stage := (s.bay b).session.bind (·.stage)
  pack := (s.bay b).packAtLatch
  cls := match (s.bay b).identity with
    | .empty => found
    | _ => s.classInUse b
  held := decide ((s.bay b).packAtLatch ≠ .nothing)
  number := number

/-- A pack becomes QUARANTINED with a cause, unless it is QUARANTINED already (R7, R145). An issue mark that it carries for an
issue from another bay stays (log entry 48). -/
def State.quarantinePack (s : State) (t : Nat) (k : FaultKind) : State :=
  match s.pack t with
  | some r =>
    if r.standing = .serviceable then (s.modPack t fun r => { r with standing := .quarantined k }).savePack t else s
  | none => s

/-- The tag of the pack that quarantining kinds at a bay quarantine: REGISTERED at the latch and still held (R145). -/
def FaultRec.quarantineTag (r : FaultRec) : Option Nat :=
  match r.pack with
  | .registered t => if r.held then some t else none
  | _ => none

/-- Quarantine by the first of some kinds that quarantines (R145). -/
def State.quarantineFor (s : State) (b : BayNo) (kinds : List FaultKind) : State :=
  match (s.faultRec b).bind (·.quarantineTag), kinds.find? FaultKind.quarantines with
  | some t, some k => s.quarantinePack t k
  | _, _ => s

/-- A part is OPEN at a bay. -/
def Part.openIn (b : BayNo) (p : Part) : Bool := decide (p.state = .openAt b)

/-- An entry is complete: every part in it is DONE, or none is left (R118). -/
def Issue.complete (i : Issue) : Bool := i.parts.all fun p => decide (p.state = .done)

/-- The completion test: complete entries leave the list (R118). -/
def State.dropComplete (s : State) : State := s.setIssues (s.disp.issues.filter fun i => !i.complete)

/-- An entry without the parts `p` picks. -/
def Issue.without (p : Part → Bool) (i : Issue) : Issue := { i with parts := i.parts.filter fun x => !p x }

/-- The tags of the parts of the list that `p` picks. -/
def State.tagsOfParts (s : State) (p : Part → Bool) : List Nat :=
  (s.disp.issues.flatMap fun i => i.parts.filter p).filterMap (·.pack)

/-- The dispatcher cancels the OPEN part of a bay in which a fault latches (R131), and both where two name the bay (log
entry 33). -/
def State.cancelPart (s : State) (b : BayNo) : State :=
  let cleared := (s.tagsOfParts (Part.openIn b)).foldl (fun s t => s.setMark t none) s
  (cleared.setIssues (s.disp.issues.map (Issue.without (Part.openIn b)))).dropComplete

/-- A fault latches in a bay (R143, R144): the record, the OPEN part of a RELEASE bay, the charges of the bay's packs written
in whatever state (R21; log entry 21), the session, quarantine, the bay in FAULT, and the neighbours. -/
def State.latch (s : State) (b : BayNo) (kind : FaultKind) (others : List FaultKind) (number : Option Nat)
    (found : Option ClassNo) (own : Bool) : State :=
  let s1 := s.setFault b (some (s.faultRecord b kind others number found))
  let s2 := if (s.bay b).state = .release then s1.cancelPart b else s1
  let s3 := (s2.saveChargesAt b).endSession b
  let s4 := s3.quarantineFor b (kind :: others)
  let s5 := (s4.modBay b fun y =>
    { y with identity := .empty, outcome := .none, preIssue := none, coolExpiry := none }).moveTo b .fault
  (s5.handUnless own).relevel b

/-- A kind that reaches a bay: it latches, or joins the secondary kinds of a latched record (R142, R147). -/
def FaultRec.join (r : FaultRec) (k : FaultKind) : FaultRec :=
  if k = r.first ∨ k ∈ r.secondary then r else { r with secondary := r.secondary ++ [k] }

/-- A kind is secondary in a latched record, and quarantines where it calls for it (R145, R147). -/
def State.joinFault (s : State) (b : BayNo) (k : FaultKind) : State :=
  match s.faultRec b with
  | none => s
  | some r =>
    if k = r.first ∨ k ∈ r.secondary then s else (s.setFault b (some (r.join k))).quarantineFor b [k]

/-! ## Session start and the return from RELEASE -/

/-- The record of a bay's class in use, where it names a valid profile. There is none also where the record of the bay's
pack is gone: its profile is then undefined (R142; log entry 44). -/
def State.startClass (s : State) (b : BayNo) : Option ClassRec :=
  (s.classAt b).filter fun cr => (s.profile cr.profile).valid

/-- A session starts (R35): with an undefined or invalid profile PROFILE latches (R142), and otherwise the bay enters
CHARGE at stage 0 or ASSESS with no stage. -/
def State.startSession (s : State) (b : BayNo) (toCharge warm own : Bool) : State :=
  match s.startClass b with
  | none => s.latch b .profile [] none none own
  | some cr =>
    if toCharge then
      ((((s.openSession b cr.profile warm .none).enterStage b 0 true).moveTo b .charge).releaseAtRest b).relevel b
    else (s.openSession b cr.profile warm .none).moveTo b .assess

/-- A session starts in CHARGE where the pack's charge is known, and in ASSESS otherwise (R31, R33, R34, R42). -/
def State.startByCharge (s : State) (b : BayNo) (warm own : Bool) : State :=
  s.startSession b (s.knownAt b) warm own

/-- A bay returns to MAINTAIN from RELEASE (R46): a new session at the maintain stage, STANDBY where the profile
names none, or fault PROFILE where it is undefined or invalid (R142). -/
def State.returnToMaintain (s : State) (b : BayNo) : State :=
  match s.startClass b with
  | none => s.latch b .profile [] none none true
  | some cr =>
    match (s.profile cr.profile).header.maintain with
    | some k =>
      (((s.openSession b cr.profile false .complete).enterStage b k true).moveTo b .maintain).releaseAtRest b
    | none => s.toStandby b .complete

/-- A bay whose OPEN part lapsed or was cancelled returns to its pre-issue state and locks its latch (R46). -/
def State.returnFromRelease (s : State) (b : BayNo) : State :=
  match (s.bay b).preIssue with
  | some .maintain => s.returnToMaintain b
  | some (.standby e) => s.toStandby b e
  | none => s

end Sys2Proof.Machine
end

