-- ==== Sys2Proof/Machine/Identification.lean ====
section
/-! DEFINITION. Identification at docking (R12 to R16, R30 to R34): the pack register's verdict on a presented
report, what the register and the dispatcher then change, and how the bay acts on the verdict. -/

namespace Sys2Proof.Machine

/-- A verdict of the pack register (Table 1-4). `accepted` and `quarantined` say whether the pack has a record
(`known`) or is registered now; DUPLICATE carries the pack record's class for the fault record (R143). -/
inductive Verdict where
  | accepted (tag : Nat) (cls : ClassNo) (isKnown : Bool)
  | quarantined (tag : Nat) (cls : ClassNo)
  | anonymous (cls : ClassNo)
  | mismatch
  | duplicate (cls : ClassNo)
  deriving DecidableEq, Repr

/-- The class code of a report as a class, where it names one (R13, R15). -/
def Report.cls? (r : Report) : Option ClassNo := index? 8 r.classCode

/-- The anonymous verdict under a bay's default class, or MISMATCH where that class is undefined (R16). -/
def State.anonymousVerdict (s : State) (b : BayNo) : Verdict :=
  if (s.classRec (s.bay b).cfg.defaultClass).isSome then .anonymous (s.bay b).cfg.defaultClass else .mismatch

/-- A pack whose place is `p` is a duplicate when presented in bay `b` (R13): its place is another bay that is not
MASKED and whose latest good report shows a pack present with its tag. -/
def State.duplicateIn (s : State) (b : BayNo) (r : PackRec) : Bool :=
  match r.place with
  | .bay b' => decide (b' ≠ b ∧ (s.bay b').state ≠ .masked) && (s.bay b').showsTag r.tag
  | _ => false

/-- The verdict on a presented tag that has a record (R13, R14). -/
def State.knownVerdict (s : State) (b : BayNo) (rep : Report) (r : PackRec) : Verdict :=
  if rep.cls? ≠ some r.cls then .mismatch
  else if s.duplicateIn b r then .duplicate r.cls
  else if r.standing = .serviceable then .accepted r.tag r.cls true
  else .quarantined r.tag r.cls

/-- The register is full (R15). -/
def State.registerFull (s : State) : Bool := decide (Config.maxPacks ≤ s.register.packs.length)

/-- The verdict on a presented tag that has no record (R15). -/
def State.unknownVerdict (s : State) (b : BayNo) (rep : Report) : Verdict :=
  match rep.cls? with
  | none => .mismatch
  | some c =>
    if (s.classRec c).isNone then .mismatch
    else if s.registerFull then s.anonymousVerdict b
    else .accepted rep.tag c false

/-- The verdict on a presented report (R12 to R16). -/
def State.verdict (s : State) (b : BayNo) (rep : Report) : Verdict :=
  if validTag rep.tag then
    match s.pack rep.tag with
    | some r => s.knownVerdict b rep r
    | none => s.unknownVerdict b rep
  else s.anonymousVerdict b

/-- An identification meets a full register, which sets REGFULL (R15, step 3). -/
def State.meetsFull (s : State) (rep : Report) : Bool :=
  validTag rep.tag && (s.pack rep.tag).isNone && s.registerFull &&
    ((rep.cls?.bind s.classRec).isSome)

/-- The class under which a verdict identifies the pack (R141). -/
def Verdict.cls? : Verdict → Option ClassNo
  | .accepted _ c _ => some c
  | .quarantined _ c => some c
  | .anonymous c => some c
  | .mismatch => none
  | .duplicate c => some c

/-! ## The register's part -/

/-- A part that a docking of tag `t` takes out of its entry: the tag's, unless it is DONE (R14, R132, R139). -/
def Part.leavesAtDocking (t : Nat) (p : Part) : Bool := decide (p.pack = some t ∧ p.state ≠ .done)

/-- The part of a docked pack leaves the entry of machine `m`, and the entry is tested for completion (R14, step 1; R132).
An OPEN part leaves it as a TAKEN one does, and its bay stays in RELEASE (log entry 23). -/
def State.partDocked (s : State) (m t : Nat) : State :=
  (s.setIssues (s.disp.issues.map fun i =>
    if i.machine = m then i.without (Part.leavesAtDocking t) else i)).dropComplete

/-- The equalize count after a return (R9). -/
def equalizeAfterReturn (ch : Option Chemistry) (n : Nat) : Nat := if ch = some .flooded then min 255 (n + 1) else n

/-- A record after it is docked in bay `b`, its mark dealt with (R9, R14). -/
def PackRec.docked (r : PackRec) (b : BayNo) (ch : Option Chemistry) : PackRec :=
  let isReturn : Bool := match r.place with
    | .machine _ => decide (r.mark = none)
    | _ => false
  { r with
    mark := none
    returns := if isReturn then min 65535 (r.returns + 1) else r.returns
    equalize := if isReturn then equalizeAfterReturn ch r.equalize else r.equalize
    known := if r.place = .bay b then r.known else false
    place := .bay b }

/-- A known tag is accepted in a bay (R14): the mark is handed to the dispatcher, then the record is updated. -/
def State.acceptKnown (s : State) (b : BayNo) (t : Nat) : State :=
  match s.pack t with
  | none => s
  | some r =>
    let s1 := match r.mark with
      | some m => s.partDocked m t
      | none => s
    (s1.modPack t fun r => r.docked b ((s.classRec r.cls).map (·.chemistry))).savePack t

/-! ## The bay's part -/

/-- A bay enters COOLING (R33). -/
def State.toCooling (s : State) (b : BayNo) (timeout : Nat) : State :=
  (s.modBay b fun y =>
    { y with coolEntry := some s.now,
             coolExpiry := if timeout = 0 then none else some (s.now + timeout * Config.minute) }).moveTo b .cooling

/-- A bay goes on from an ACCEPTED or ANONYMOUS verdict (R31): COOLING for a hot pack, else a session. The verdict names a
defined class, so that there is always a class in use (log entry 34). -/
def State.goOn (s : State) (b : BayNo) (tm : Int) : State :=
  match s.classAt b with
  | none => s
  | some cr => if cr.startLimit < tm then s.toCooling b cr.coolTimeout else s.startByCharge b false false

/-- A bay takes an identity. -/
def State.setIdentity (s : State) (b : BayNo) (i : Identity) : State := s.modBay b fun y => { y with identity := i }

/-- The bay acts on a verdict (R31). -/
def State.actOnVerdict (s : State) (b : BayNo) (tm : Int) : Verdict → State
  | .accepted t _ true => ((s.acceptKnown b t).setIdentity b (.registered t)).goOn b tm
  | .accepted t c false => ((s.addPack (PackRec.fresh t c (.bay b))).setIdentity b (.registered t)).goOn b tm
  | .quarantined t _ => ((s.acceptKnown b t).setIdentity b (.registered t)).toStandby b .none
  | .anonymous c => (s.setIdentity b (.anonymous c 0 false)).goOn b tm
  | .mismatch => s.latch b .mismatch [] none none false
  | .duplicate c => s.latch b .duplicate [] none (some c) false

/-- A report in IDENTIFY is presented: its tag may name a pack, or it is the third attempt (R12, R31). -/
def State.presented (s : State) (b : BayNo) (rep : Report) : Bool :=
  validTag rep.tag || decide (2 ≤ (s.bay b).attempts)

/-- The state work of IDENTIFY at a good report that shows a pack present (R31). -/
def State.identify (s : State) (b : BayNo) (rep : Report) : State :=
  if validTag rep.tag then
    (if s.meetsFull rep then s.raise .regfull else s).actOnVerdict b rep.tm (s.verdict b rep)
  else
    let s' := s.modBay b fun y => { y with attempts := min 3 (y.attempts + 1) }
    if s.presented b rep then s'.actOnVerdict b rep.tm (s.verdict b rep) else s'

end Sys2Proof.Machine
end

