-- ==== Sys2Proof/Machine/Flags.lean ====
section
/-! DEFINITION. The eight session flags (Table 3-5, R64) and the exits that test them (R54). -/

namespace Sys2Proof.Machine

/-- What the flags of one evaluation are computed from (R64). -/
structure FlagInput where
  report : Report
  target : Nat
  stage : Stage
  served : Nat
  sinceRise : Nat
  chargeLeft : Option Nat
  hotLimit : Int
  equalizeDue : Bool
  starved : Bool

/-- VT: Vm × 10 has reached the pack target. -/
def flagVT (vm target : Nat) : Bool := decide (target ≤ vm * 10)

/-- The stage has settled: its served time has reached the settle time. -/
def settled (settle served : Nat) : Bool := decide (settle * 1000 ≤ served)

/-- IT: settled, and the signed current is at or below the taper. -/
def flagIT (settle served taper : Nat) (im : Int) : Bool := settled settle served && decide (im ≤ (taper : Int))

/-- PL: a plateau window is set, the stage has settled, and the voltage has not risen for the window. -/
def flagPL (plateau settle served sinceRise : Nat) : Bool :=
  decide (0 < plateau) && settled settle served && decide (plateau * Config.minute ≤ sinceRise)

/-- TH: Tm at or above the hot limit. -/
def flagTH (tm hotLimit : Int) : Bool := decide (hotLimit ≤ tm)

/-- AH: the stage has a charge limit and none of its charge is left. -/
def flagAH (chargeLimit : Nat) (left : Option Nat) : Bool := decide (0 < chargeLimit ∧ left = some 0)

/-- TM: the stage has a time limit and its served time has reached it. -/
def flagTM (timeLimit served : Nat) : Bool := decide (0 < timeLimit ∧ timeLimit * Config.minute ≤ served)

/-- EQ: a registered FLOODED pack's equalize count has reached its class's interval. -/
def flagEQ (chemistry : Chemistry) (interval count : Nat) : Bool :=
  decide (chemistry = .flooded ∧ 0 < interval ∧ interval ≤ count)

/-- GR: the stage is not REST and the granted units were below the request when the evaluation began. -/
def flagGR (kind : StageKind) (granted request : Nat) : Bool := decide (kind ≠ .rest ∧ granted < request)

/-- The eight flags of one evaluation (R64). -/
def computeFlags (x : FlagInput) : Flags where
  vt := flagVT x.report.vm x.target
  it := flagIT x.stage.settle x.served x.stage.taper x.report.im
  pl := flagPL x.stage.plateau x.stage.settle x.served x.sinceRise
  th := flagTH x.report.tm x.hotLimit
  ah := flagAH x.stage.chargeLimit x.chargeLeft
  tm := flagTM x.stage.timeLimit x.served
  eq := x.equalizeDue
  gr := x.starved

/-- The value of one flag. -/
def Flags.get (f : Flags) : Flag → Bool
  | .vt => f.vt
  | .it => f.it
  | .pl => f.pl
  | .th => f.th
  | .ah => f.ah
  | .tm => f.tm
  | .eq => f.eq
  | .gr => f.gr

/-- An exit's test holds (R54). -/
def Exit.holds (e : Exit) (f : Flags) : Bool :=
  match e.test with
  | .always => true
  | .flag x => f.get x == e.senseSet

/-- The first exit of a stage whose test holds (R64). -/
def Stage.exitTaken (st : Stage) (f : Flags) : Option Exit := st.exits.find? fun e => e.holds f

end Sys2Proof.Machine
end

