-- ==== Sys2Proof/Machine/Evaluation.lean ====
section
/-! DEFINITION. The evaluation of a session at a good report (R62): clocks and peak (R63), accounting (R77 to R86),
flags (R64), session limit (R70), exits and actions (R65 to R72), and the hand-off. -/

namespace Sys2Proof.Machine

/-- The served interval (R63): from the later of the previous good report and the stage entry to this report. -/
def servedInterval (now prev entry : Nat) : Nat := now - max prev entry

/-- Steps 1 and 2 of an evaluation (R63): the clocks grow where `grows` holds, and the peak follows Vm. -/
def Session.clocked (se : Session) (grows : Bool) (interval vm : Nat) : Session :=
  let d := if grows then interval else 0
  { se with served := se.served + d, sessionServed := se.sessionServed + d
            sinceRise := if se.peak < vm then 0 else se.sinceRise + d
            peak := max se.peak vm }

/-- The mAh an evaluation delivers (R79). -/
def Session.deliveredNow (se : Session) (real : Nat) (im : Int) : Nat :=
  deliveredOf (chargeQ (accountedCurrent im) (integrationInterval se.restart real) se.deliveredResidue)

/-- The mAh an evaluation stores (R80). -/
def Session.storedNow (se : Session) (real : Nat) (im : Int) (acceptance : Nat) : Nat :=
  storedOf (storedS (se.deliveredNow real im) acceptance se.storedResidue)

/-- Step 3 of an evaluation on the session record (R77 to R81). -/
def Session.accounted (se : Session) (real : Nat) (im : Int) (acceptance : Nat) : Session :=
  let q := chargeQ (accountedCurrent im) (integrationInterval se.restart real) se.deliveredResidue
  let d := deliveredOf q
  { se with deliveredResidue := deliveredResidueOf q
            storedResidue := storedResidueOf (storedS d acceptance se.storedResidue)
            delivered := addDelivered se.delivered d
            chargeLeft := se.chargeLeft.map fun n => n - d
            restart := false }

/-- Flag EQ's condition for the pack in a bay (R64). -/
def State.equalizeDue (s : State) (b : BayNo) (cr : ClassRec) : Bool :=
  match (s.bay b).identity with
  | .registered t => ((s.pack t).map fun r => flagEQ cr.chemistry cr.equalizeInterval r.equalize).getD false
  | _ => false

/-! ## Actions (R65 to R72) -/

/-- A session leaves a stage by an action: an equalize mark resets the pack's count (R71). -/
def State.leaveStage (s : State) (b : BayNo) (st : Stage) : State :=
  if st.equalizeMark then s.resetEqualizeAt b else s

/-- The bay goes on in CHARGE after an action entered a stage there; from MAINTAIN it moves back to CHARGE, with
outcome NONE and the session served time 0 (R39). -/
def State.goOnInCharge (s : State) (b : BayNo) : State :=
  if (s.bay b).state = .maintain then
    ((((s.modSession b fun se => { se with outcome := .none, sessionServed := 0 }).moveTo b .charge).releaseAtRest
      b).relevel b).handAllReady
  else s.releaseAtRest b

/-- The maintain stage of the profile a bay's session runs. -/
def State.maintainStage (s : State) (b : BayNo) : Option StageNo :=
  (s.bay b).session.bind fun se => (s.profile se.profile).header.maintain

/-- A re-arm: the maintain stage is entered afresh, and the bay stays in MAINTAIN (R72). -/
def State.rearm (s : State) (b : BayNo) (k : StageNo) : State := (s.enterStage b k false).releaseAtRest b

/-- GOTO k (R65). -/
def State.doGoto (s : State) (b : BayNo) (st : Stage) (k : StageNo) : State :=
  let s1 := s.leaveStage b st
  if (s.bay b).state = .maintain ∧ s.maintainStage b = some k then s1.rearm b k
  else (s1.enterStage b k false).goOnInCharge b

/-- The frame a CALL pushes (R66). -/
def Session.frame (se : Session) (caller : StageNo) (resume : Bool) : Frame :=
  ⟨caller, if resume then some ⟨se.served, se.chargeLeft, se.peak, se.sinceRise⟩ else none⟩

/-- CALL k (R66): a third frame is a stack error, which latches PROFILE. -/
def State.doCall (s : State) (b : BayNo) (se : Session) (caller : StageNo) (st : Stage) (k : StageNo)
    (resume : Bool) : State :=
  if Config.maxFrames ≤ se.frames.length then s.latch b .profile [] none none false
  else
    (((s.leaveStage b st).modSession b fun x => { x with frames := se.frame caller resume :: x.frames }).enterStage b
      k true).goOnInCharge b

/-- A session resumed at a frame's stage with the values it saved (R67). -/
def Session.resumed (se : Session) (k : StageNo) (now : Nat) (v : Saved) : Session :=
  { se with stage := some k, served := v.served, entry := now, chargeLeft := v.chargeLeft, peak := v.peak
            sinceRise := v.sinceRise, firstEval := true, restart := true }

/-- RETURN (R67): an empty stack is a stack error, which latches PROFILE. -/
def State.doReturn (s : State) (b : BayNo) (se : Session) (st : Stage) : State :=
  match se.frames with
  | [] => s.latch b .profile [] none none false
  | f :: fs =>
    let s1 := (s.leaveStage b st).modSession b fun x => { x with frames := fs }
    match f.saved with
    | some v => (s1.modSession b fun x => x.resumed f.stage s.now v).releaseAtRest b
    | none => (s1.enterStage b f.stage true).releaseAtRest b

/-- COMPLETE taken in CHARGE (R38, R68). -/
def State.completeCharge (s : State) (b : BayNo) (st : Stage) : State :=
  let s1 := ((s.leaveStage b st).modSession b fun x => { x with outcome := .complete, frames := [] }).saveChargeAt b
  match s.maintainStage b with
  | some k =>
    (((((s1.modSession b fun x => { x with sessionServed := 0 }).enterStage b k false).moveTo b .maintain).releaseAtRest
      b).relevel b).handAllReady
  | none => (((s1.endSession b).toStandby b .complete).relevel b).handAllReady

/-- COMPLETE (R68): a re-arm in MAINTAIN (R72), the end of the charge in CHARGE. -/
def State.doComplete (s : State) (b : BayNo) (st : Stage) : State :=
  match (s.bay b).state, s.maintainStage b with
  | .maintain, some k => (s.leaveStage b st).rearm b k
  | _, _ => s.completeCharge b st

/-- The action of an exit (Table 3-3), taken at stage `k` with record `st` by session `se`. -/
def State.takeAction (s : State) (b : BayNo) (se : Session) (k : StageNo) (st : Stage) : Action → State
  | .goto j => s.doGoto b st j
  | .callResume j => s.doCall b se k st j true
  | .callRestart j => s.doCall b se k st j false
  | .ret => s.doReturn b se st
  | .complete => s.doComplete b st
  | .fault n => s.latch b .profileStop [] (some n) none false

/-! ## The evaluation -/

/-- Step 7 (R62): the target and setpoint are kept for the drive, and the request is handed on, unless the action
ended the session or entered a REST stage. -/
def State.handOff (s : State) (b : BayNo) (target iset request : Nat) : State :=
  if (s.bay b).session.isSome then
    let s1 := (s.modBay b fun y => { y with keptTarget := target, keptIset := iset }).redrive b
    if s.atRest b then s1 else s1.handRequest b request
  else s

/-- The session after steps 1 to 3 (R62). -/
def State.evaluated (s : State) (se : Session) (st : Stage) (rep : Report) (prev : Nat) (prevOn : Bool) :
    Session :=
  (se.clocked (prevOn || decide (st.kind = .rest)) (servedInterval s.now prev se.entry) rep.vm).accounted
    (s.now - prev) rep.im st.acceptance

/-- Steps 1 to 4 entered into the state: the session with its last flags, the gap count and the stored charge. -/
def State.enterEvaluation (s : State) (b : BayNo) (se se' : Session) (st : Stage) (cr : ClassRec) (rep : Report)
    (prev : Nat) (fl : Flags) : State :=
  (s.modBay b fun y =>
    { y with session := some { se' with lastFlags := fl }
             gapCount := if intervalCapped se.restart (s.now - prev) then min 255 (y.gapCount + 1) else y.gapCount
    }).setChargeAt b
      (addCharge cr.capacity (s.chargeAt b) (se.storedNow (s.now - prev) rep.im st.acceptance))

/-- The flags of an evaluation (R64). -/
def State.evaluationFlags (s : State) (b : BayNo) (se' : Session) (st : Stage) (cr : ClassRec) (rep : Report) : Flags :=
  computeFlags
    { report := rep, target := packTarget cr st rep.tm, stage := st, served := se'.served, sinceRise := se'.sinceRise
      chargeLeft := se'.chargeLeft, hotLimit := cr.hotLimit, equalizeDue := s.equalizeDue b cr
      starved := flagGR st.kind (s.grant b).granted (s.grant b).request }

/-- The request an evaluation computes (R85, R86); the first-evaluation mark is the one the evaluation began with. -/
def evaluationRequest (se : Session) (st : Stage) (cr : ClassRec) (rep : Report) : Nat :=
  requestOf cr.floor (rawRequest st.kind se.firstEval (packTarget cr st rep.tm) (effectiveSetpoint se.warm st.iset)
    (accountedCurrent rep.im))

/-- The session limit is reached in CHARGE (R70). -/
def State.limitReached (s : State) (b : BayNo) (se' : Session) : Bool :=
  decide ((s.bay b).state = .charge ∧
    (s.profile se'.profile).header.sessionLimit * Config.minute ≤ se'.sessionServed)

/-- The evaluation of session `se` at stage `k` (R62). -/
def State.evaluateAt (s : State) (b : BayNo) (rep : Report) (prev : Nat) (prevOn : Bool) (se : Session) (k : StageNo)
    (st : Stage) (cr : ClassRec) : State :=
  let se' := s.evaluated se st rep prev prevOn
  let fl := s.evaluationFlags b se' st cr rep
  let s3 := s.enterEvaluation b se se' st cr rep prev fl
  if s.limitReached b se' then s3.latch b .timeout [] none none false
  else
    let target := packTarget cr st rep.tm
    let iset := effectiveSetpoint se.warm st.iset
    let request := evaluationRequest se st cr rep
    match st.exitTaken fl with
    | none => (s3.handOff b target iset request).modSession b fun x => { x with firstEval := false }
    | some e => (s3.takeAction b se' k st e.action).handOff b target iset request

/-- The evaluation of a bay in CHARGE or MAINTAIN (R37). A bay whose pack's record is gone has no class to evaluate under,
and its session is left as it is (log entry 44). -/
def State.evaluate (s : State) (b : BayNo) (rep : Report) (prev : Nat) (prevOn : Bool) : State :=
  match (s.bay b).session, s.classAt b with
  | some se, some cr =>
    match s.stageOf se with
    | some (k, st) => s.evaluateAt b rep prev prevOn se k st cr
    | none => s
  | _, _ => s

/-- ASSESS ends at this report (R36, R88, R89): the estimate sets the charge, and the bay enters CHARGE at stage 0. -/
def State.endAssess (s : State) (b : BayNo) (rep : Report) (cr : ClassRec) : State :=
  let s1 := (s.setChargeAt b (estimateCharge cr rep.vm)).setKnownAt b
  let s2 := s1.modSession b fun se => { se with deliveredResidue := 0, storedResidue := 0 }
  (((s2.enterStage b 0 true).moveTo b .charge).releaseAtRest b).relevel b

end Sys2Proof.Machine
end

