-- ==== Sys2Proof/Machine/Reports.lean ====
section
/-! DEFINITION. A good report at a bay (R29): the record, presence, the fault tests (R141, R147) and the state
work, with removals (R32, R46, R47, R149), the removal from RELEASE at the dispatcher (R124, R125) and
reconciliation (R23, R44, R148). -/

namespace Sys2Proof.Machine

/-! ## Confirming a part (R124) -/

/-- Confirming the part of a registered pack: place, mark, rotation, last machine and the stored charge (R124). The
record, the rotation list and the stored charge are three writes, in this order (log entry 35). -/
def State.confirmPack (s : State) (m t : Nat) : State :=
  match s.pack t with
  | none => s
  | some r =>
    (((s.modPack t fun r => { r with place := .machine m, mark := none, lastMachine := some m }).savePack
      t).toTail r).saveCharge t

/-- Confirm the packs of some parts to a machine, in part order (R124). -/
def State.confirmPacks (s : State) (m : Nat) (ts : List Nat) : State := ts.foldl (fun s t => s.confirmPack m t) s

/-- An entry with the parts `p` picks in a new state. -/
def Issue.setParts (p : Part → Bool) (st : PartState) (i : Issue) : Issue :=
  { i with parts := i.parts.map fun x => if p x then { x with state := st } else x }

/-- A removal from a RELEASE bay at the dispatcher, for the entry that holds the OPEN part (R125): DONE and confirmed
under AUTO, TAKEN under MANUAL. -/
def State.removalOf (s : State) (b : BayNo) (manual : Bool) (i : Issue) : State :=
  let ts := (i.parts.filter (Part.openIn b)).filterMap (·.pack)
  if manual then ts.foldl (fun s t => s.setPlace t (.machine i.machine)) s else s.confirmPacks i.machine ts

/-- The dispatcher takes a removal from a RELEASE bay (R125), and tests the entry for completion (R118). Where two OPEN parts
of an entry name the bay, the removal is that of both (log entry 33); where none does, the dispatcher has nothing to do (log
entry 23). -/
def State.takeRemoval (s : State) (b : BayNo) : State :=
  let manual := (s.bay b).cfg.manual
  let i? := s.disp.issues.find? fun i => i.parts.any (Part.openIn b)
  let s1 := match i? with
    | some i => s.removalOf b manual i
    | none => s
  (s1.setIssues (s1.disp.issues.map
    (Issue.setParts (Part.openIn b) (if manual then .taken else .done)))).dropComplete

/-! ## Presence (R29, step 2) -/

/-- A pack leaves a bay in IDENTIFY (R32): a record that names the bay becomes UNACCOUNTED, with TAKEN. -/
def State.leftInIdentify (s : State) (b : BayNo) : State :=
  ((if (s.packsAt b).isEmpty then s else (s.loseAt b).raise .taken)).toVacant b

/-- The record of a bay's registered pack becomes UNACCOUNTED (R47, step 2). -/
def State.loseIdentity (s : State) (b : BayNo) : State :=
  match (s.bay b).identity with
  | .registered t => s.setPlace t .unaccounted
  | _ => s

/-- An unexpected removal (R47). -/
def State.unexpectedRemoval (s : State) (b : BayNo) : State :=
  (((((s.endSession b).loseIdentity b).raise .taken).toVacant b).relevel b).handAllReady

/-- A removal from RELEASE (R46). -/
def State.releaseRemoval (s : State) (b : BayNo) : State := (s.takeRemoval b).toVacant b

/-- A pack leaves a bay in FAULT (R149): pack held becomes NO, and the record that names the bay UNACCOUNTED. -/
def State.leftInFault (s : State) (b : BayNo) : State :=
  match s.faultRec b with
  | some r => if r.held then (s.setFault b (some { r with held := false })).loseAt b else s
  | none => s

/-- The tag a report shows of a pack that is present. -/
def Report.shownTag (r : Report) : Option Nat := if r.present then some r.tag else none

/-- The attention a reconciliation raises: UNACCOUNTED after a restart, TAKEN after UNMASK BAY (R23, R44, R148). -/
def Reconcile.cause : Reconcile → Cause
  | .unmask => .taken
  | _ => .unaccounted

/-- A good report settles the pack records that name a bay whose reconcile pending is not NO, and the pending
becomes NO (R23, R44); in FAULT it stays while the report shows the pack's own tag (R28, R148). -/
def State.reconcile (s : State) (b : BayNo) (rep : Report) : State :=
  let y := s.bay b
  let own : Bool := (s.packsAt b).any fun r => decide (some r.tag = rep.shownTag)
  if y.reconcile = .no then s
  else
    let s1 := s.settleAt b rep.shownTag y.reconcile.cause
    if y.state = .fault ∧ own = true then s1 else s1.modBay b fun y => { y with reconcile := .no }

/-- A docking at a VACANT bay (R30). -/
def State.dock (s : State) (b : BayNo) : State :=
  (s.modBay b fun y => { y.emptied with dockTime := some s.now }).moveTo b .identify

/-- The first good report taken in a fresh IDENTIFY sets its docking time (R30). -/
def State.stampDock (s : State) (b : BayNo) : State :=
  s.modBay b fun y => { y with dockTime := some (y.dockTime.getD s.now) }

/-- Step 2 for a report that shows a pack present. -/
def State.presentAt (s : State) (b : BayNo) : State :=
  match (s.bay b).state with
  | .vacant => s.dock b
  | .identify => s.stampDock b
  | _ => s

/-- Step 2 for a report that shows no pack. -/
def State.absentAt (s : State) (b : BayNo) : State :=
  match (s.bay b).state with
  | .vacant => s
  | .identify => s.leftInIdentify b
  | .cooling => s.unexpectedRemoval b
  | .assess => s.unexpectedRemoval b
  | .charge => s.unexpectedRemoval b
  | .maintain => s.unexpectedRemoval b
  | .standby => s.unexpectedRemoval b
  | .release => s.releaseRemoval b
  | .fault => s.leftInFault b
  | .masked => s

/-- Step 2 of a good report: presence (R29). -/
def State.presence (s : State) (b : BayNo) (rep : Report) : State :=
  if rep.present then s.presentAt b else s.absentAt b

/-! ## Fault tests (R29, step 3) -/

/-- The class used for the tests at a bay (R141). -/
def State.testClass (s : State) (b : BayNo) (rep : Report) : Option ClassNo :=
  match (s.bay b).state with
  | .identify => if s.presented b rep then (s.verdict b rep).cls? else none
  | .fault => (s.faultRec b).bind fun r => if r.held then r.cls else none
  | _ => s.classInUse b

/-- OVERTEMP's condition under a class (R141). -/
def overtempAt (cr : ClassRec) (rep : Report) : Bool := rep.present && decide (cr.abortLimit ≤ rep.tm)

/-- OVERVOLT's condition under a class (R141). -/
def overvoltAt (cr : ClassRec) (rep : Report) : Bool :=
  rep.present && decide ((cr.maxCell + 50) * cr.cells < rep.vm * 10)

/-- INTERLOCK's condition, with the output enable of the drive the report answers (R141). -/
def interlockAt (rep : Report) (answeredOn : Bool) : Bool := rep.present && !rep.latchEngaged && answeredOn

/-- A test of one kind: the kind where its condition holds. -/
def kindIf (k : FaultKind) (c : Bool) : List FaultKind := if c then [k] else []

/-- The kinds whose tests hold at a report, in the order of R141. -/
def faultKinds (cr : Option ClassRec) (rep : Report) (answeredOn : Bool) : List FaultKind :=
  kindIf .overtemp ((cr.map fun c => overtempAt c rep).getD false) ++
  kindIf .overvolt ((cr.map fun c => overvoltAt c rep).getD false) ++
  kindIf .stageAlarm rep.alarm ++
  kindIf .interlock (interlockAt rep answeredOn)

/-- The kinds found at a report in a bay (R141, R147). -/
def State.kindsFound (s : State) (b : BayNo) (rep : Report) (answeredOn : Bool) : List FaultKind :=
  faultKinds ((s.testClass b rep).bind s.classRec) rep answeredOn

/-! ## State work (R29, step 4) -/

/-- The cooling test (R33); a bay whose pack's record is gone has no limit to test (log entry 44). -/
def State.coolingTest (s : State) (b : BayNo) (rep : Report) : State :=
  match s.classAt b with
  | none => s
  | some cr => if rep.tm ≤ cr.startLimit - Config.coolMargin then s.startByCharge b false false else s

/-- The rest test (R36): the report arrives at or after docking time plus rest time. A bay whose pack's record is gone has no
rest time (log entry 44). -/
def State.restTest (s : State) (b : BayNo) (rep : Report) : State :=
  match s.classAt b, (s.bay b).dockTime with
  | some cr, some t => if t + cr.restTime * Config.minute ≤ s.now then s.endAssess b rep cr else s
  | _, _ => s

/-- Step 4 of a good report. -/
def State.stateWork (s : State) (b : BayNo) (rep : Report) (prev : Nat) (prevOn : Bool) : State :=
  match (s.bay b).state with
  | .identify => s.identify b rep
  | .cooling => s.coolingTest b rep
  | .assess => s.restTest b rep
  | .charge => s.evaluate b rep prev prevOn
  | .maintain => s.evaluate b rep prev prevOn
  | _ => s

/-- Steps 3 and 4 of a good report at a bay that is not VACANT (R29): in FAULT each kind found is secondary; in any
other state the first kind found latches with the others as secondaries, and without one the state work is done. -/
def State.testsAndWork (s : State) (b : BayNo) (rep : Report) (prev : Nat) (prevOn answeredOn : Bool) : State :=
  let kinds := s.kindsFound b rep answeredOn
  if (s.bay b).state = .fault then kinds.foldl (fun s k => s.joinFault b k) s
  else
    match kinds with
    | [] => s.stateWork b rep prev prevOn
    | k :: ks => s.latch b k ks none (s.testClass b rep) false

/-- A good report at a bay that is not MASKED (R29): record, reconciliation, presence, fault tests and state work;
`prevOn` and `answeredOn` are the output enables of the drives that the previous and this good report answer. The
ready counts it changed are handed on. -/
def State.goodReportAt (s : State) (b : BayNo) (rep : Report) (prevOn answeredOn : Bool) : State :=
  let prev := ((s.bay b).latest.map (·.arrival)).getD s.now
  let s1 := s.modBay b fun y => { y with latest := some ⟨rep, s.now⟩ }
  let s2 := (s1.reconcile b rep).presence b rep
  (if (s2.bay b).state = .vacant then s2 else s2.testsAndWork b rep prev prevOn answeredOn).handAllReady

end Sys2Proof.Machine
end

