-- ==== Sys2Proof/Machine/Line.lean ====
section
/-! DEFINITION. The bay line scanner (chapter 8): rounds (R160), polls (R157, R158, R162, R165), the judging and
delivery of reports (R159, R163, R187) and misses (R164, R167). -/

namespace Sys2Proof.Machine

/-- The bytes of a poll without its check byte (Table 10-5). -/
def pollBody (b : BayNo) (d : Drive) : List Byte :=
  [u1 b.val, u1 (bitsNat [d.on, d.latchOpen])] ++ u2 d.voltage ++ u2 d.current ++ [u1 d.indicator.code]

/-- The eight bytes of a poll (Table 10-5). -/
def pollBytes (b : BayNo) (d : Drive) : List Byte := pollBody b d ++ [xorBytes (pollBody b d)]

/-- The fields of eleven report bytes (Table 10-5); positions of the state byte without a field are not read. -/
def parseReport : List Byte → Option Report
  | [a, v1, v0, i1, i0, t, st, g1, g0, c, _] =>
    some
      { address := a.toNat, vm := ofU2 v1 v0, im := ofI2 i1 i0, tm := t.toInt, present := st.getLsbD 0
        latchEngaged := st.getLsbD 1, alarm := st.getLsbD 2, tag := ofU2 g1 g0, classCode := c.toNat }
  | _ => none

/-- The fields of a report that the scanner reads lie in range (R159). -/
def Report.inRange (r : Report) : Bool := between 0 r.vm 9999 && betweenI (-40) r.tm 125

/-- The good report that eleven bytes make as an answer of bay `b`, if they make one: a correct check, the polled
address and fields in range (R159, R187). -/
def judgeReport (b : BayNo) (bytes : List Byte) : Option Report :=
  match parseReport bytes with
  | some r => if xorBytes bytes = 0 ∧ r.address = b.val ∧ r.inRange = true then some r else none
  | none => none

/-! ## Rounds (R160) -/

/-- A bay is polled in the rounds: it is not MASKED. -/
def State.polled (s : State) (b : BayNo) : Bool := decide ((s.bay b).state ≠ .masked)

/-- The bay that the walk of the round in progress polls next. Whether a bay is MASKED is read when this poll is due, after the
prompt slots before it: that is when the walk reaches it (R160, R162; log entry 50). -/
def State.nextRegular (s : State) : Option BayNo :=
  match s.scanner.walk with
  | some p => allBays.find? fun b => decide (p ≤ b.val) && s.polled b
  | none => none

/-- A regular poll's slot is in progress. -/
def State.inRegularSlot (s : State) : Bool := (s.scanner.slot.map (·.regular)).getD false

/-- The round in progress ends where its walk has no bay left and no regular slot is in progress; it has overrun
where that falls at or after its start time plus the scan interval (R160). -/
def State.checkRound (s : State) : State :=
  if s.scanner.walk.isSome ∧ s.nextRegular = none ∧ s.inRegularSlot = false then
    { s with scanner := { s.scanner with
        walk := none, overrun := decide (s.scanner.roundStart + s.scanner.scanInterval ≤ s.now) } }
  else s

/-- The next round may begin: at the start time plus the scan interval, and after an overrun only with the prompt
list empty (R160). -/
def State.roundDue (s : State) : Bool :=
  s.scanner.walk.isNone && decide (s.scanner.roundStart + s.scanner.scanInterval ≤ s.now) &&
    (!s.scanner.overrun || s.scanner.prompt.isEmpty)

/-- A round begins at bay 0 (R160). -/
def State.beginRound (s : State) : State :=
  ({ s with scanner := { s.scanner with walk := some 0, roundStart := s.now, overrun := false } } : State).checkRound

/-! ## Polls -/

/-- The lost-stage expiry after a poll: an output-enabled poll arms it (R165). -/
def LineRec.polled (l : LineRec) (d : Drive) (units now : Nat) : LineRec :=
  { l with sent := ⟨d, units, some now⟩
           lostExpiry := if d.on then some (now + Config.lostStageTime) else l.lostExpiry
           finalPending := false }

/-- The units of the drive a bay would be sent now (R99, R158). -/
def State.unitsNow (s : State) (b : BayNo) : Nat := if (s.bay b).drive.on then (s.grant b).granted else 0

/-- The scanner sends a bay its current drive as a poll (R157, R158): the bay leaves the prompt list (R161) and a
poll slot begins. -/
def State.sendPoll (s : State) (b : BayNo) (isRegular : Bool) : State :=
  let d := (s.bay b).drive
  let s1 := s.modLine b fun l => l.polled d (s.unitsNow b) s.now
  { s1 with scanner := { s1.scanner with
      prompt := s1.scanner.prompt.filter fun x => decide (x ≠ b)
      slot := some ⟨b, s.now, isRegular, pollBytes b d⟩ } }

/-- The slot in progress ends, and the round with it where nothing is left to poll. -/
def State.endSlot (s : State) : State := ({ s with scanner := { s.scanner with slot := none } } : State).checkRound

/-! ## Good reports and misses -/

/-- A good report of a bay is delivered (R163): miss count, lost-stage expiry, carried units, and the report to the
bay, unless the bay is MASKED as the slot ends (R167; log entry 47). -/
def State.deliver (s : State) (b : BayNo) (rep : Report) : State :=
  let l := s.line b
  let s1 := s.modLine b fun x => { x with misses := 0, lostExpiry := none, answeredOn := l.sent.drive.on }
  let s2 := s1.setCarried b l.sent.units
  if (s2.bay b).state = .masked then s2 else s2.goodReportAt b rep l.answeredOn l.sent.drive.on

/-- A kind reaches a bay from outside a report: it latches, or is secondary in FAULT (R142). -/
def State.raiseFault (s : State) (b : BayNo) (k : FaultKind) : State :=
  if (s.bay b).state = .fault then s.joinFault b k else s.latch b k [] none none false

/-- A miss of a poll to a bay (R164): the count rises, and the third consecutive miss raises STAGE_LOST. A miss of a
bay that is MASKED as the slot ends changes nothing (R167; log entry 47). -/
def State.miss (s : State) (b : BayNo) : State :=
  if (s.bay b).state = .masked then s
  else
    let n := (s.line b).misses
    let s1 := s.modLine b fun x => { x with misses := min 3 (n + 1) }
    if n = 2 then s1.raiseFault b .stageLost else s1

/-- The slot ends in a miss (R159). -/
def State.missSlot (s : State) (b : BayNo) : State := (s.endSlot).miss b

/-- Eleven bytes have come in during the slot of bay `b` (R159). -/
def State.answerSlot (s : State) (b : BayNo) (bytes : List Byte) : State :=
  match judgeReport b bytes with
  | some rep => (s.endSlot).deliver b rep
  | none => s.missSlot b

/-- The bay whose poll slot has lasted its 30 ms (R157). -/
def State.slotOver (s : State) : Option BayNo :=
  s.scanner.slot.bind fun x => if x.sentAt + Config.slotTime ≤ s.now then some x.bay else none

end Sys2Proof.Machine
end

