-- ==== Sys2Proof/Machine/Link.lean ====
section
/-! DEFINITION. How a command reaches its owner and comes back (R172 to R174), and how an event of the part is
taken: what every row's meaning begins with. -/

namespace Sys2Proof.Machine

/-- An owner's result (R174): the command is refused with a status, or taken, with the state it leaves and the
contents of the reply after the status byte. -/
inductive Answer where
  | refused (status : Status)
  | taken (s : State) (contents : List Byte)

/-- A reply is prepared, and the receiver is back in HUNT: the link unit is busy (R171, R173, R174). -/
def State.reply (s : State) (kind : Byte) (status : Status) (contents : List Byte) : State :=
  { s with link := { s.link with receiver := .hunt, reply := some ⟨kind + 0x80, status, contents⟩ } }

/-- A frame that completes while the unit is busy is discarded whole, with attention LINK (R173). -/
def State.discardFrame (s : State) : State := (s.raise .link).setReceiver .hunt

/-- The owner's result becomes the reply; a refused command leaves the state as it was (R174). -/
def State.answerWith (s : State) (kind : Byte) : Answer → State
  | .refused st => s.reply kind st []
  | .taken t cs => t.reply kind .ok cs

/-- A command of the command set arrives as a whole, correctly framed command frame (log entry 1): it is ignored
while the part is not running (R182), discarded while the link unit is busy (R173), and otherwise handed to its
owner, whose result becomes the reply (R172, R174). -/
def State.command (s : State) (kind : Byte) (owner : State → Answer) : State :=
  let s0 := s.settle
  if s0.running = false then s0
  else if s0.busy = true then s0.discardFrame
  else s0.answerWith kind (owner s0)

/-- An event of the running part: nothing happens while the part is not running (R182, R184). -/
def State.event (s : State) (f : State → State) : State :=
  let s0 := s.settle
  if s0.running = true then f s0 else s0

/-- An event that happens only where its condition holds (log entry 3). -/
def State.eventIf (s : State) (c : State → Bool) (f : State → State) : State :=
  s.event fun t => if c t = true then f t else t

/-- A FREE VALUE (log entry 9): the byte of this reply at an offset for which the manual states no contents. -/
def State.free (s : State) (offset : Nat) : Byte := Config.freeByte s.freeDraw offset

/-- The next reply draws other free bytes. -/
def State.drawn (s : State) : State := { s with freeDraw := s.freeDraw + 1 }

end Sys2Proof.Machine
end

