-- ==== Sys2Proof/Machine/Settings.lean ====
section
/-! DEFINITION. The settings commands: SET SITE, SET FEEDER, SET CLASS, SET OCV, SET PROFILE, SET STAGE and SHED.
Each has its owner's `take…` (what the owner does with the command) and its meaning `exec…`. -/

namespace Sys2Proof.Machine

/-! ## SET SITE (R93, R115, R160, R176) -/

/-- A running shed under a new site cap: its cap is lowered to it, its expiry kept (R93). -/
def ShedRec.under (v : ShedRec) (siteCap : Nat) : ShedRec := { v with cap := min v.cap siteCap }

/-- The allocator's part of SET SITE (R93): a pass runs if the effective cap changed, so a site cap that changes under a
shed of a lower cap runs none (log entry 36). -/
def State.applySiteCap (s : State) (v : SiteSettings) : State :=
  let s1 : State := { s with alloc := { s.alloc with
    siteCap := v.siteCap, scheme := v.scheme, shed := s.alloc.shed.map fun x => x.under v.siteCap } }
  if s1.effectiveCap = s.effectiveCap then s1 else s1.pass

/-- The dispatcher's part of SET SITE (R115). -/
def State.applyLookahead (s : State) (v : SiteSettings) : State :=
  let s1 : State := { s with disp := { s.disp with lookahead := v.lookahead, window := v.window } }
  if v.lookahead = s.disp.lookahead then s1 else s1.computeAllShort

/-- The scanner's part of SET SITE (R160): under a new scan interval the next round no longer waits for the overrun
of the old one; a value equal to the one in force is no new interval (log entry 38). -/
def State.applyScanInterval (s : State) (v : SiteSettings) : State :=
  { s with scanner := { s.scanner with
      scanInterval := v.scanInterval
      overrun := s.scanner.overrun && decide (v.scanInterval = s.scanner.scanInterval) } }

/-- SET SITE at its owners (R176), in the order in which R176 names them (log entry 37). -/
def takeSetSite (a : SiteArgs) (s : State) : Answer :=
  match readSite a with
  | none => .refused .range
  | some v =>
    let t := (((s.write (.site v)).applySiteCap v).applyLookahead v).applyScanInterval v
    .taken t (u2 v.siteCap ++ [u1 v.scheme.code, u1 v.lookahead] ++ u2 v.window ++ u2 v.scanInterval ++
      u2 t.effectiveCap)

/-- SET_SITE. -/
def execSetSite (a : SiteArgs) (s : State) : Host.Outcome State Fault Refusal := .next (s.command 0x01 (takeSetSite a))

/-! ## SET FEEDER (R93) -/

/-- A feeder cap replaced. -/
def State.setFeederCap (s : State) (f : FeederNo) (cap : Nat) : State :=
  { s with alloc := { s.alloc with feederCaps := s.alloc.feederCaps.set f cap } }

/-- SET FEEDER at the allocator (R93). -/
def takeSetFeeder (feeder cap : Nat) (s : State) : Answer :=
  match index? 4 feeder with
  | none => .refused .range
  | some f =>
    let v := min cap 600
    let s1 := (s.setFeederCap f v).write (.feederCap f v)
    .taken (if v = s.feederCap f then s1 else s1.pass) (u2 v)

/-- SET_FEEDER. -/
def execSetFeeder (feeder cap : Nat) (s : State) : Host.Outcome State Fault Refusal :=
  .next (s.command 0x02 (takeSetFeeder feeder cap))

/-! ## SET CLASS and SET OCV (R2 to R4) -/

/-- The fields of a class record as SET CLASS and READ CLASS give them (Tables 10-2 and 10-4). -/
def ClassRec.bytes (r : ClassRec) : List Byte :=
  [u1 r.cells, u1 r.chemistry.code] ++ u2 r.capacity ++ [yes r.twin] ++ u2 r.minCell ++ u2 r.maxCell ++
    [i1 r.startLimit, i1 r.hotLimit, i1 r.abortLimit, u1 r.coolTimeout, u1 r.restTime, u1 r.lowWater,
      u1 r.matchWindow, u1 r.equalizeInterval, u1 r.profile.val, u1 r.floor]

/-- A class record replaced and written (R3). -/
def State.setClassRec (s : State) (c : ClassNo) (r : ClassRec) : State :=
  ({ s with register := { s.register with classes := s.register.classes.set c (some r) } } : State).write (.cls c r)

/-- A registered pack's stored charge is cut to a limit, and the changed record's charge is written (R3). A charge within the
limit is not written, also where its image is above the limit (log entry 43). -/
def State.capCharge (s : State) (limit : Nat) (r : PackRec) : State :=
  if limit < r.charge then (s.modPack r.tag fun p => { p with charge := limit }).saveCharge r.tag else s

/-- An anonymous pack's stored charge is cut to a limit (R3). -/
def Bay.capAnonymous (y : Bay) (c : ClassNo) (limit : Nat) : Bay :=
  match y.identity with
  | .anonymous k q known => if k = c then { y with identity := .anonymous k (min q limit) known } else y
  | _ => y

/-- Every stored charge of a class is cut to a new capacity (R3, effect 1), the changed records written in rising tag
order (log entry 35). -/
def State.capCharges (s : State) (c : ClassNo) (limit : Nat) : State :=
  let s1 := (s.register.packs.filter fun r => decide (r.cls = c)).foldl (fun t r => t.capCharge limit r) s
  { s1 with bays := Vector.ofFn fun b => (s1.bay b).capAnonymous c limit }

/-- A bay's cool expiry is reached (R34): the session starts with the warm-start marker set. -/
def State.coolEnds (s : State) (b : BayNo) : State :=
  (s.modBay b fun y => { y with coolExpiry := none }).startByCharge b true false

/-- The cool expiry of a COOLING bay is recomputed under a new cool timeout, and taken at once where its time has
passed (R33). -/
def State.recool (s : State) (timeout : Nat) (b : BayNo) : State :=
  let t := ((s.bay b).coolEntry).getD s.now + timeout * Config.minute
  if timeout = 0 then s.modBay b fun y => { y with coolExpiry := none }
  else if t ≤ s.now then s.coolEnds b
  else s.modBay b fun y => { y with coolExpiry := some t }

/-- The COOLING bays of a class, in ascending bay number. -/
def State.coolingOf (s : State) (c : ClassNo) : List BayNo :=
  allBays.filter fun b => decide ((s.bay b).state = .cooling ∧ s.classInUse b = some c)

/-- The effects of a taken SET CLASS (R3, R33). The first SET CLASS of an undefined class changes its floor, because
there was none to equal the new one, and so runs a pass (log entry 39). -/
def State.applyClass (s : State) (c : ClassNo) (r : ClassRec) : State :=
  let s1 := (((s.setClassRec c r).capCharges c (fullCharge r.capacity)).computeShort c)
  let s2 := if (s.classRec c).map (·.floor) = some r.floor then s1 else s1.pass
  (s2.coolingOf c).foldl (fun t b => t.recool r.coolTimeout b) s2

/-- SET CLASS at the pack register (R2, R3). -/
def takeSetClass (code : Nat) (a : ClassArgs) (s : State) : Answer :=
  match index? 8 code with
  | none => .refused .range
  | some c =>
    match readClass a ((s.classRec c).bind (·.ocv)) with
    | none => .refused .range
    | some r => if s.classBusy c then .refused .inUse else .taken (s.applyClass c r) r.bytes

/-- SET_CLASS. -/
def execSetClass (code : Nat) (a : ClassArgs) (s : State) : Host.Outcome State Fault Refusal :=
  .next (s.command 0x03 (takeSetClass code a))

/-- SET OCV at the pack register (R4); the reply holds no contents (log entry 10). -/
def takeSetOcv (code : Nat) (a : OcvArgs) (s : State) : Answer :=
  match index? 8 code, readOcv a with
  | some c, some t =>
    match s.classRec c with
    | none => .refused .state
    | some r => if s.classBusy c then .refused .inUse else .taken (s.setClassRec c { r with ocv := some t }) []
  | _, _ => .refused .range

/-- SET_OCV. -/
def execSetOcv (code : Nat) (a : OcvArgs) (s : State) : Host.Outcome State Fault Refusal :=
  .next (s.command 0x04 (takeSetOcv code a))

/-! ## SET PROFILE and SET STAGE (R55, R58) -/

/-- A header as the reply echoes it (Table 10-2). -/
def Header.bytes (h : Header) : List Byte :=
  [u1 h.stageCount, u1 h.mode.code, u1 h.turnLength, u1? (h.maintain.map (·.val))] ++ u2 h.sessionLimit

/-- A header replaced and written; the stage positions are left as they are (R55). -/
def State.setHeader (s : State) (p : ProfileNo) (h : Header) : State :=
  ({ s with profiles := s.profiles.set p { s.profiles[p] with header := h } } : State).write (.header p h)

/-- SET PROFILE at the profile store (R55). -/
def takeSetProfile (profile : Nat) (a : ProfileArgs) (s : State) : Answer :=
  match index? 8 profile, readHeader a with
  | some p, some h => if s.profileInUse p then .refused .inUse else .taken (s.setHeader p h) h.bytes
  | _, _ => .refused .range

/-- SET_PROFILE. -/
def execSetProfile (profile : Nat) (a : ProfileArgs) (s : State) : Host.Outcome State Fault Refusal :=
  .next (s.command 0x05 (takeSetProfile profile a))

/-- An exit as the reply echoes it, its argument byte at offset `o`; RETURN and COMPLETE carry no argument, and the
byte that stands there is free (R185; log entry 9). -/
def Exit.bytes (e : Exit) (free : Nat → Byte) (o : Nat) : List Byte :=
  [u1 e.test.code, yes (!e.senseSet), u1 e.action.code, (e.action.argument?.map u1).getD (free o)]

/-- The exits of a stage as the reply echoes them, the first at offset `o`. -/
def exitBytes (free : Nat → Byte) : List Exit → Nat → List Byte
  | [], _ => []
  | e :: es, o => e.bytes free (o + 3) ++ exitBytes free es (o + 4)

/-- A stage as the reply echoes it (Table 10-2, R186). -/
def Stage.bytes (st : Stage) (free : Nat → Byte) : List Byte :=
  [u1 st.kind.code] ++ u2 st.iset ++ u2 st.cellTarget ++ [i1 st.coefficient, u1 st.acceptance, u1 st.chargeLimit] ++
    u2 st.timeLimit ++ u2 st.taper ++ u2 st.settle ++ [u1 st.plateau, yes st.equalizeMark] ++
    exitBytes free st.exits 17

/-- A stage position written (R58). -/
def State.setStageRec (s : State) (p : ProfileNo) (k : StageNo) (st : Stage) : State :=
  ({ s with profiles := s.profiles.set p (s.profiles[p].put k st) } : State).write (.stage p k st)

/-- SET STAGE at the profile store (R58). -/
def takeSetStage (profile stage : Nat) (a : StageArgs) (s : State) : Answer :=
  match index? 8 profile, index? 12 stage, readStage a with
  | some p, some k, some st =>
    if s.profileInUse p then .refused .inUse else .taken (s.setStageRec p k st).drawn (st.bytes s.free)
  | _, _, _ => .refused .range

/-- SET_STAGE. -/
def execSetStage (profile stage : Nat) (a : StageArgs) (s : State) : Host.Outcome State Fault Refusal :=
  .next (s.command 0x06 (takeSetStage profile stage a))

/-! ## SHED (R94) -/

/-- The running shed replaced or ended. -/
def State.setShed (s : State) (v : Option ShedRec) : State := { s with alloc := { s.alloc with shed := v } }

/-- The effect of SHED with its clamped values (R94). -/
def State.applyShed (s : State) (cap duration : Nat) : State :=
  if duration ≠ 0 then (s.setShed (some ⟨cap, s.now + duration * Config.minute⟩)).pass
  else if s.alloc.shed.isSome then (s.setShed none).pass
  else s

/-- SHED at the allocator (R94). -/
def takeShed (cap duration : Nat) (s : State) : Answer :=
  let c := min cap s.alloc.siteCap
  let d := min duration 240
  let t := s.applyShed c d
  .taken t (u2 c ++ [u1 d] ++ u2 t.effectiveCap)

/-- SHED. -/
def execShed (cap duration : Nat) (s : State) : Host.Outcome State Fault Refusal :=
  .next (s.command 0x20 (takeShed cap duration))

end Sys2Proof.Machine
end

