-- ==== Sys2Proof/Machine/BayCommands.lean ====
section
/-! DEFINITION. The bay commands: SET BAY, MASK BAY, UNMASK BAY, STOP BAY, START BAY (chapter 2) and CLEAR FAULT
(chapter 7). -/

namespace Sys2Proof.Machine

/-- The byte of a bay's state, as the bay commands' replies carry it. -/
def State.stateByte (s : State) (b : BayNo) : Byte := u1 (s.bay b).state.code

/-- A taken bay command whose reply carries the bay's state. -/
def takenAt (b : BayNo) (s : State) : Answer := .taken s [s.stateByte b]

/-- A bay's configuration replaced and written (R26). -/
def State.setCfg (s : State) (b : BayNo) (cfg : BayCfg) : State :=
  (s.modBay b fun y => { y with cfg := cfg }).write (.bayCfg b cfg)

/-! ## MASK BAY and UNMASK BAY (R43, R44, R167) -/

/-- A bay goes out of service (R43, R152, R167): its session ends, a fault record is emptied, it enters MASKED, and
its final poll is pending on the prompt list. -/
def State.maskOut (s : State) (b : BayNo) : State :=
  let s1 := ((s.endSession b).setFault b none).modBay b Bay.emptied
  let s2 := ((s1.moveTo b .masked).promptAdd b).modLine b fun l => { l with finalPending := true }
  ((s2.relevel b).handAllReady).checkRound

/-- A bay comes back into service (R44, R167). -/
def State.maskIn (s : State) (b : BayNo) : State :=
  ((s.modLine b fun l => { l with misses := 0, finalPending := false }).modBay b fun y =>
    { y with reconcile := if y.reconcile = .restore then .restore else .unmask }).moveTo b .vacant

/-- MASK BAY at the bay sequencer (R43). -/
def takeMaskBay (bay : Nat) (s : State) : Answer :=
  match index? 24 bay with
  | none => .refused .range
  | some b =>
    if (s.bay b).state = .release ∨ (s.bay b).state = .masked then .refused .state
    else takenAt b ((s.setCfg b { (s.bay b).cfg with masked := true }).maskOut b)

/-- MASK_BAY. -/
def execMaskBay (bay : Nat) (s : State) : Host.Outcome State Fault Refusal := .next (s.command 0x10 (takeMaskBay bay))

/-- UNMASK BAY at the bay sequencer (R44). -/
def takeUnmaskBay (bay : Nat) (s : State) : Answer :=
  match index? 24 bay with
  | none => .refused .range
  | some b =>
    if (s.bay b).state ≠ .masked then .refused .state
    else takenAt b ((s.setCfg b { (s.bay b).cfg with masked := false }).maskIn b)

/-- UNMASK_BAY. -/
def execUnmaskBay (bay : Nat) (s : State) : Host.Outcome State Fault Refusal :=
  .next (s.command 0x11 (takeUnmaskBay bay))

/-! ## SET BAY (R27, R113) -/

/-- A bay's configuration as the reply echoes it (Table 10-2). -/
def BayCfg.bytes (c : BayCfg) : List Byte :=
  [u1? (c.feeder.map (·.val)), u1 c.baseLevel.val, u1 c.defaultClass.val, yes c.manual, yes c.masked]

/-- The refusal of SET BAY with its fields in range (R27, items 2 to 4). -/
def State.refuseCfg (s : State) (b : BayNo) (cfg : BayCfg) : Option Status :=
  let y := s.bay b
  if y.inSession = true ∧ (cfg.feeder ≠ y.cfg.feeder ∨ cfg.masked ≠ y.cfg.masked) then some .inUse
  else if y.holdsAnonymous = true ∧ cfg.defaultClass ≠ y.cfg.defaultClass then some .inUse
  else if cfg.masked = true ∧ y.cfg.masked = false ∧ y.state = .release then some .state
  else if cfg.masked = false ∧ y.cfg.masked = true ∧ y.state ≠ .masked then some .state
  else none

/-- A change of the masked field has the effect of MASK BAY or UNMASK BAY (R27). -/
def State.applyMasked (s : State) (b : BayNo) (old new : Bool) : State :=
  if new = true ∧ old = false then s.maskOut b else if new = false ∧ old = true then s.maskIn b else s

/-- A change of feeder or base level is handed to the allocator, which recomputes the level and runs a pass (R27,
R113). -/
def State.applyFeeder (s : State) (b : BayNo) (old new : BayCfg) : State :=
  if new.feeder ≠ old.feeder ∨ new.baseLevel ≠ old.baseLevel then (s.relevel b).pass else s

/-- The effects of a taken SET BAY (R27). -/
def State.applyCfg (s : State) (b : BayNo) (cfg : BayCfg) : State :=
  ((s.setCfg b cfg).applyMasked b (s.bay b).cfg.masked cfg.masked).applyFeeder b (s.bay b).cfg cfg

/-- SET BAY at the bay sequencer (R27). -/
def takeSetBay (bay : Nat) (a : BayArgs) (s : State) : Answer :=
  match index? 24 bay, readBayCfg a with
  | some b, some cfg =>
    match s.refuseCfg b cfg with
    | some st => .refused st
    | none => .taken (s.applyCfg b cfg) cfg.bytes
  | _, _ => .refused .range

/-- SET_BAY. -/
def execSetBay (bay : Nat) (a : BayArgs) (s : State) : Host.Outcome State Fault Refusal :=
  .next (s.command 0x07 (takeSetBay bay a))

/-! ## STOP BAY and START BAY (R41, R42) -/

/-- The outcome that STOP BAY leaves in a state in which it is taken (R41). -/
def stopEnding : BayState → Option Ending
  | .cooling => some .stopped
  | .assess => some .stopped
  | .charge => some .stopped
  | .maintain => some .complete
  | _ => none

/-- The effects of a taken STOP BAY (R40, R41). -/
def State.stopAt (s : State) (b : BayNo) (e : Ending) : State :=
  (((((s.saveChargeAt b).endSession b).toStandby b e).relevel b).handAllReady)

/-- STOP BAY at the bay sequencer (R41). -/
def takeStopBay (bay : Nat) (s : State) : Answer :=
  match index? 24 bay with
  | none => .refused .range
  | some b =>
    match stopEnding (s.bay b).state with
    | none => .refused .state
    | some e => takenAt b (s.stopAt b e)

/-- STOP_BAY. -/
def execStopBay (bay : Nat) (s : State) : Host.Outcome State Fault Refusal := .next (s.command 0x12 (takeStopBay bay))

/-- A bay's pack is registered and QUARANTINED (R42, R123). -/
def State.quarantinedAt (s : State) (b : BayNo) : Bool :=
  match (s.bay b).identity with
  | .registered t => ((s.pack t).map fun r => decide (r.standing ≠ .serviceable)).getD false
  | _ => false

/-- START BAY at the bay sequencer (R42). -/
def takeStartBay (bay : Nat) (s : State) : Answer :=
  match index? 24 bay with
  | none => .refused .range
  | some b =>
    if (s.bay b).state ≠ .standby ∨ s.quarantinedAt b = true then .refused .state
    else takenAt b ((s.startByCharge b false false).handAllReady)

/-- START_BAY. -/
def execStartBay (bay : Nat) (s : State) : Host.Outcome State Fault Refusal := .next (s.command 0x13 (takeStartBay bay))

/-! ## CLEAR FAULT (R150, R151) -/

/-- A test on a bay's latest good report. -/
def Bay.latestShows (y : Bay) (p : Report → Bool) : Bool := (y.latest.map fun l => p l.report).getD false

/-- OVERTEMP is present (Table 7-3). -/
def State.overtempPresent (s : State) (b : BayNo) (r : FaultRec) : Bool :=
  match r.cls.bind s.classRec with
  | some cr => r.held && (s.bay b).latestShows fun rep => decide (cr.abortLimit ≤ rep.tm)
  | none => false

/-- A kind is present at a bay with record `r` (R150). STAGE_LOST is present until a good report sets the miss count
back from 3 (log entry 18). -/
def State.kindPresent (s : State) (b : BayNo) (r : FaultRec) : FaultKind → Bool
  | .overtemp => s.overtempPresent b r
  | .stageAlarm => (s.bay b).latestShows (·.alarm)
  | .interlock => r.held && (s.bay b).latestShows fun rep => !rep.latchEngaged
  | .stageLost => decide ((s.line b).misses = 3)
  | _ => false

/-- The kinds of a record, first and secondary. -/
def FaultRec.kinds (r : FaultRec) : List FaultKind := r.first :: r.secondary

/-- A level-type kind of the record is present (R151). -/
def State.faultPresent (s : State) (b : BayNo) (r : FaultRec) : Bool := r.kinds.any (s.kindPresent b r)

/-- A bay's fault record is emptied, and the bay leaves FAULT (R151). -/
def State.clearFaultAt (s : State) (b : BayNo) : State := (s.setFault b none).reidentify b

/-- CLEAR FAULT at the fault unit (R151). -/
def takeClearFault (bay : Nat) (s : State) : Answer :=
  match index? 24 bay with
  | none => .refused .range
  | some b =>
    match (s.bay b).state, s.faultRec b with
    | .fault, some r => if s.faultPresent b r then .refused .present else takenAt b (s.clearFaultAt b)
    | _, _ => .refused .state

/-- CLEAR_FAULT. -/
def execClearFault (bay : Nat) (s : State) : Host.Outcome State Fault Refusal :=
  .next (s.command 0x14 (takeClearFault bay))

end Sys2Proof.Machine
end

