-- ==== Sys2Proof/Machine/IssueCommands.lean ====
section
/-! DEFINITION. The dispatcher's commands: ISSUE CLASS, ISSUE BAY, CONFIRM, CONFIRM NEXT, CANCEL ISSUE, RESERVE and
DROP RESERVATIONS (chapter 6). -/

namespace Sys2Proof.Machine

/-! ## Selection (R120, R121) -/

/-- The ready packs of a class in rotation order (R120). -/
def State.readyInRotation (s : State) (c : ClassNo) : List PackRec :=
  ((s.rotation c).filterMap s.pack).filter fun r => decide (r.cls = c) && s.packReady r

/-- A pack's SoC under its class (R82). -/
def State.socOf (s : State) (r : PackRec) : Nat := ((s.classRec r.cls).map fun cr => soc r.charge cr.capacity).getD 0

/-- Every band up to the highest of some packs, highest first. -/
def State.bandsDown (s : State) (rs : List PackRec) : List Nat :=
  (List.range (rs.foldr (fun r n => max (band (s.socOf r)) n) 0 + 1)).reverse

/-- The candidates of ISSUE CLASS: by band, highest first, then by rotation position (R120). -/
def State.candidates (s : State) (c : ClassNo) : List PackRec :=
  (s.bandsDown (s.readyInRotation c)).flatMap fun n =>
    (s.readyInRotation c).filter fun r => decide (band (s.socOf r) = n)

/-- Two SoC values lie within a match window of each other. -/
def within (window a b : Nat) : Bool := decide (a - b ≤ window ∧ b - a ≤ window)

/-- The matched pair of R121: the first candidate A with a B after it within the window. -/
def State.matchedPair (s : State) (window : Nat) : List PackRec → List PackRec
  | [] => []
  | a :: rest =>
    match rest.find? fun b => within window (s.socOf a) (s.socOf b) with
    | some b => [a, b]
    | none => s.matchedPair window rest

/-- The packs ISSUE CLASS selects: one, a matched pair, or none (R120, R121). -/
def State.selection (s : State) (c : ClassNo) : List PackRec :=
  match s.classRec c with
  | none => []
  | some cr => if cr.twin then s.matchedPair cr.matchWindow (s.candidates c) else (s.candidates c).take 1

/-! ## Making an issue (R45, R122, R123) -/

/-- A pack to be issued from a bay; `tag = none` is an anonymous pack. -/
structure Pick where
  bay : BayNo
  tag : Option Nat

/-- The pick of a selected pack, whose place is a bay. -/
def PackRec.pick? (r : PackRec) : Option Pick :=
  match r.place with
  | .bay b => some ⟨b, some r.tag⟩
  | _ => none

/-- The pick of a named bay. -/
def State.pickBay (s : State) (b : BayNo) : Pick :=
  match (s.bay b).identity with
  | .registered t => ⟨b, some t⟩
  | _ => ⟨b, none⟩

/-- A bay enters RELEASE with its pre-issue state recorded (R45). A bay that two selected packs name is released once
for each, and its second release records STANDBY with outcome NONE (log entry 33). -/
def State.toRelease (s : State) (b : BayNo) : State :=
  let pre : PreIssue := if (s.bay b).state = .maintain then .maintain else .standby (s.bay b).outcome
  ((s.modBay b fun y => { y with preIssue := some pre, outcome := .none }).endSession b).moveTo b .release

/-- One picked pack is marked and its bay released (R122, step 1). -/
def State.releasePick (m : Nat) (s : State) (p : Pick) : State :=
  (match p.tag with
    | some t => s.setMark t (some m)
    | none => s).toRelease p.bay

/-- The entry of an issue made now (R118, R122, step 2). -/
def State.newIssue (s : State) (m : Nat) (c : Option ClassNo) (ps : List Pick) : Issue :=
  ⟨m, c, ps.map fun p => ⟨p.tag, .openAt p.bay⟩, s.now, s.now + s.disp.window * 1000⟩

/-- Steps 1 and 2 of R122. -/
def State.makeIssue (s : State) (m : Nat) (c : Option ClassNo) (ps : List Pick) : State :=
  let s1 := ps.foldl (State.releasePick m) s
  s1.setIssues (s1.disp.issues ++ [s1.newIssue m c ps])

/-- The machine has an entry in the list. -/
def State.hasIssue (s : State) (m : Nat) : Bool := s.disp.issues.any fun i => decide (i.machine = m)

/-- The issue list is full (R118). -/
def State.issuesFull (s : State) : Bool := decide (Config.maxIssues ≤ s.disp.issues.length)

/-- The SoC of the pack in a bay under its class in use (R82). -/
def State.socAt (s : State) (b : BayNo) : Option Nat := (s.classAt b).map fun cr => soc (s.chargeAt b) cr.capacity

/-- The SoC of a picked pack (R82, R122): a registered pack's from its own record, an anonymous one's from its bay. A
registered pack whose record is gone has none (log entry 44). -/
def State.pickSoc (s : State) (p : Pick) : Option Nat :=
  match p.tag with
  | some t => (s.pack t).map s.socOf
  | none => s.socAt p.bay

/-- A part as an issue reply gives it: bay, tag and SoC (Table 10-4); an absent SoC is 0xFF (Table 10-1; log entry 44). -/
def State.pickBytes (s : State) (p : Pick) : List Byte := u1 p.bay.val :: u2? p.tag ++ [u1? (s.pickSoc p)]

/-- The entry as an issue reply gives it (Table 10-4). -/
def State.issueReply (s : State) (m : Nat) (ps : List Pick) : List Byte :=
  u2 m ++ [u1 ps.length] ++ ps.flatMap s.pickBytes

/-! ## Consuming a reservation (R122, step 3) -/

/-- The reservation an ISSUE CLASS of class `c` consumes: the first of its class due within the lookahead. -/
def State.consumable (s : State) (c : ClassNo) (v : Reservation) : Bool := decide (v.cls = c) && s.counts v

/-- The list with the first entry that `p` picks one machine less, and gone at 0; with that entry as it then is. -/
def consumeFirst (p : Reservation → Bool) : List Reservation → List Reservation × Option Reservation
  | [] => ([], none)
  | v :: vs =>
    if p v then
      ((if v.machines - 1 = 0 then vs else { v with machines := v.machines - 1 } :: vs),
        some { v with machines := v.machines - 1 })
    else (v :: (consumeFirst p vs).1, (consumeFirst p vs).2)

/-- A number less the current depot minute, signed (Table 10-4). -/
def State.dueFromNow (s : State) (due : Nat) : Int := (due : Int) - (s.minute : Int)

/-- The reservation consumed, as the ISSUE CLASS reply gives it; where none was, class and machines left are 0xFF, the absent
value of Table 10-1 (R185), and the two bytes of the signed due minute, which has none, are free (log entry 9). -/
def State.consumedBytes (s : State) (o : Nat) : Option Reservation → List Byte
  | some v => [u1 v.cls.val] ++ i2 (s.dueFromNow v.due) ++ [u1 v.machines]
  | none => [u1? none, s.free (o + 1), s.free (o + 2), u1? none]

/-! ## ISSUE CLASS and ISSUE BAY -/

/-- The effects of a taken ISSUE CLASS (R122). -/
def State.issueClass (s : State) (m : Nat) (c : ClassNo) (ps : List Pick) : State :=
  let s1 := s.makeIssue m (some c) ps
  (s1.setReservations (consumeFirst (s1.consumable c) s1.disp.reservations).1).closeEvent [c]

/-- ISSUE CLASS at the dispatcher (R119 to R122). -/
def takeIssueClass (m code : Nat) (s : State) : Answer :=
  match index? 8 code, validMachine m with
  | some c, true =>
    if s.hasIssue m then .refused .openIssue
    else if s.issuesFull then .refused .full
    else
      match s.selection c with
      | [] => .refused .none
      | rs =>
        let ps := rs.filterMap PackRec.pick?
        .taken (s.issueClass m c ps).drawn
          (s.issueReply m ps ++ s.consumedBytes (4 + 4 * ps.length)
            (consumeFirst (s.consumable c) s.disp.reservations).2)
  | _, _ => .refused .range

/-- ISSUE_CLASS. -/
def execIssueClass (machine code : Nat) (s : State) : Host.Outcome State Fault Refusal :=
  .next (s.command 0x18 (takeIssueClass machine code))

/-- The bays that ISSUE BAY names, or `none` where one is above 23 or the two are the same (R123, item 1). -/
def readIssueBays (bay : Nat) (second : Option Nat) : Option (List BayNo) :=
  match index? 24 bay, second with
  | some b, none => some [b]
  | some b, some n => (index? 24 n).bind fun b' => if b' = b then none else some [b, b']
  | none, _ => none

/-- A named bay is in MAINTAIN or STANDBY (R123, item 4). -/
def State.issuable (s : State) (b : BayNo) : Bool :=
  decide ((s.bay b).state = .maintain ∨ (s.bay b).state = .standby)

/-- ISSUE BAY at the dispatcher (R123). -/
def takeIssueBay (m bay : Nat) (second : Option Nat) (s : State) : Answer :=
  match readIssueBays bay second, validMachine m with
  | some bs, true =>
    if s.hasIssue m then .refused .openIssue
    else if s.issuesFull then .refused .full
    else if (bs.all s.issuable) = false then .refused .state
    else if bs.any s.quarantinedAt then .refused .state
    else .taken ((s.makeIssue m none (bs.map s.pickBay)).closeEvent []) (s.issueReply m (bs.map s.pickBay))
  | _, _ => .refused .range

/-- ISSUE_BAY. -/
def execIssueBay (machine bay : Nat) (second : Option Nat) (s : State) : Host.Outcome State Fault Refusal :=
  .next (s.command 0x19 (takeIssueBay machine bay second))

/-! ## CONFIRM and CONFIRM NEXT (R124, R127, R128) -/

/-- A part is TAKEN. -/
def Part.isTaken (p : Part) : Bool := decide (p.state = .taken)

/-- A part is OPEN. -/
def Part.isOpen (p : Part) : Bool :=
  match p.state with
  | .openAt _ => true
  | _ => false

/-- The TAKEN parts of an entry, in part order. -/
def Issue.takenParts (i : Issue) : List Part := i.parts.filter Part.isTaken

/-- Every TAKEN part of an entry is confirmed, and the complete entry leaves the list (R124, R127). -/
def State.confirmIssue (s : State) (i : Issue) : State :=
  let s1 := s.confirmPacks i.machine (i.takenParts.filterMap (·.pack))
  (s1.setIssues (s1.disp.issues.map fun x =>
    if x.machine = i.machine then x.setParts Part.isTaken .done else x)).dropComplete

/-- The reply of CONFIRM and CONFIRM NEXT (Table 10-4); an anonymous part's tag is 0. -/
def Issue.confirmReply (i : Issue) : List Byte :=
  u2 i.machine ++ [u1 i.takenParts.length] ++ i.takenParts.flatMap fun p => u2? p.pack

/-- The entry of a machine. -/
def State.issueOf (s : State) (m : Nat) : Option Issue := s.disp.issues.find? fun i => decide (i.machine = m)

/-- CONFIRM at the dispatcher (R127). -/
def takeConfirm (m : Nat) (s : State) : Answer :=
  if validMachine m = false then .refused .range
  else
    match s.issueOf m with
    | none => .refused .none
    | some i =>
      if i.parts.any Part.isOpen then .refused .present else .taken (s.confirmIssue i) i.confirmReply

/-- CONFIRM. -/
def execConfirm (machine : Nat) (s : State) : Host.Outcome State Fault Refusal :=
  .next (s.command 0x1A (takeConfirm machine))

/-- CONFIRM NEXT at the dispatcher: the oldest entry with no OPEN part (R128). -/
def takeConfirmNext (s : State) : Answer :=
  match s.disp.issues.find? fun i => !i.parts.any Part.isOpen with
  | none => .refused .none
  | some i => .taken (s.confirmIssue i) i.confirmReply

/-- CONFIRM_NEXT. -/
def execConfirmNext (s : State) : Host.Outcome State Fault Refusal := .next (s.command 0x1B takeConfirmNext)

/-! ## Lapse and CANCEL ISSUE (R129, R130) -/

/-- A part of an entry that lapses or is cancelled (R129). A TAKEN part of a registered pack sets attention UNACCOUNTED also
where the pack's record has been removed meanwhile, and no place is left to change (log entry 44). -/
def State.endPart (s : State) (p : Part) : State :=
  match p.state, p.pack with
  | .openAt b, some t => (s.setMark t none).returnFromRelease b
  | .openAt b, none => s.returnFromRelease b
  | .taken, some t => ((s.setMark t none).setPlace t .unaccounted).raise .unaccounted
  | .taken, none => s
  | .done, _ => s

/-- An entry leaves the list and its parts are treated in part order (R129, R130). -/
def State.endIssue (s : State) (i : Issue) : State :=
  i.parts.foldl State.endPart (s.setIssues (s.disp.issues.filter fun x => decide (x.machine ≠ i.machine)))

/-- CANCEL ISSUE at the dispatcher (R130). -/
def takeCancelIssue (m : Nat) (s : State) : Answer :=
  if validMachine m = false then .refused .range
  else
    match s.issueOf m with
    | none => .refused .none
    | some i =>
      .taken ((s.endIssue i).closeEvent [])
        (u2 m ++ [u1 i.parts.length] ++ i.parts.flatMap fun p => u2? p.pack ++ [u1 p.state.code])

/-- CANCEL_ISSUE. -/
def execCancelIssue (machine : Nat) (s : State) : Host.Outcome State Fault Refusal :=
  .next (s.command 0x1C (takeCancelIssue machine))

/-! ## Reservations (R133, R134, R136) -/

/-- The list with an entry inserted after every entry due no later than it (R134). -/
def insertByDue (v : Reservation) : List Reservation → List Reservation
  | [] => [v]
  | w :: ws => if w.due ≤ v.due then w :: insertByDue v ws else v :: w :: ws

/-- The position at which an entry due at `d` is inserted (R134). -/
def duePosition (d : Nat) (l : List Reservation) : Nat := (l.takeWhile fun w => decide (w.due ≤ d)).length

/-- RESERVE at the dispatcher (R134). -/
def takeReserve (code machines dueIn : Nat) (s : State) : Answer :=
  match index? 8 code with
  | none => .refused .range
  | some c =>
    if (between 1 machines 8 && between 1 dueIn 1440) = false then .refused .range
    else if (s.classRec c).isNone then .refused .state
    else if Config.maxReservations ≤ s.disp.reservations.length then .refused .full
    else
      let due := s.minute + dueIn
      .taken ((s.setReservations (insertByDue ⟨c, machines, due⟩ s.disp.reservations)).computeShort c)
        (u4 due ++ [u1 (duePosition due s.disp.reservations)])

/-- RESERVE. -/
def execReserve (code machines dueIn : Nat) (s : State) : Host.Outcome State Fault Refusal :=
  .next (s.command 0x1D (takeReserve code machines dueIn))

/-- DROP RESERVATIONS at the dispatcher (R136). -/
def takeDropReservations (code : Nat) (s : State) : Answer :=
  match index? 8 code with
  | none => .refused .range
  | some c =>
    .taken ((s.setReservations (s.disp.reservations.filter fun v => decide (v.cls ≠ c))).computeShort c)
      [u1 (s.disp.reservations.filter fun v => decide (v.cls = c)).length]

/-- DROP_RESERVATIONS. -/
def execDropReservations (code : Nat) (s : State) : Host.Outcome State Fault Refusal :=
  .next (s.command 0x1E (takeDropReservations code))

end Sys2Proof.Machine
end

