-- ==== Sys2Proof/Machine/PackCommands.lean ====
section
/-! DEFINITION. The pack register's commands: REGISTER PACK, REMOVE PACK, ASSIGN PACK (chapter 1) and RELEASE PACK
(R155). -/

namespace Sys2Proof.Machine

/-- A non-masked bay's latest good report shows a pack present with a tag (R17, item 4). -/
def State.tagSeen (s : State) (t : Nat) : Bool :=
  allBays.any fun b => decide ((s.bay b).state ≠ .masked) && (s.bay b).showsTag t

/-- The place that a machine number 0–999 of REGISTER PACK gives (R17). -/
def registerPlace (m : Nat) : Place := if m = 0 then .unaccounted else .machine m

/-- REGISTER PACK at the pack register (R17). -/
def takeRegisterPack (tag code m : Nat) (s : State) : Answer :=
  match index? 8 code, validTag tag && between 0 m 999 with
  | some c, true =>
    if (s.classRec c).isNone then .refused .state
    else if (s.pack tag).isSome then .refused .state
    else if s.tagSeen tag then .refused .present
    else if s.registerFull then .refused .full
    else .taken (s.addPack (PackRec.fresh tag c (registerPlace m))) (u2 tag ++ [0])
  | _, _ => .refused .range

/-- REGISTER_PACK. -/
def execRegisterPack (tag code machine : Nat) (s : State) : Host.Outcome State Fault Refusal :=
  .next (s.command 0x24 (takeRegisterPack tag code machine))

/-- A place is a bay. -/
def Place.isBay : Place → Bool
  | .bay _ => true
  | _ => false

/-- REMOVE PACK at the pack register (R18); the reply holds no contents (log entry 10). A bay that still runs the tag (log
entry 42) goes on without a class in use (log entry 44). -/
def takeRemovePack (tag : Nat) (s : State) : Answer :=
  if validTag tag = false then .refused .range
  else
    match s.pack tag with
    | none => .refused .none
    | some r => if r.place.isBay || r.mark.isSome then .refused .state else .taken (s.deletePack r) []

/-- REMOVE_PACK. -/
def execRemovePack (tag : Nat) (s : State) : Host.Outcome State Fault Refusal :=
  .next (s.command 0x25 (takeRemovePack tag))

/-- RELEASE PACK at the pack register (R155); a ready count that changed is handed on (R11). -/
def takeReleasePack (tag : Nat) (s : State) : Answer :=
  if validTag tag = false then .refused .range
  else
    match s.pack tag with
    | none => .refused .none
    | some r =>
      match r.standing with
      | .serviceable => .refused .state
      | .quarantined k =>
        .taken (((s.modPack tag fun p => { p with standing := .serviceable }).savePack tag).handAllReady)
          (u2 tag ++ r.place.bytes ++ [u1 k.code])

/-- RELEASE_PACK. -/
def execReleasePack (tag : Nat) (s : State) : Host.Outcome State Fault Refusal :=
  .next (s.command 0x26 (takeReleasePack tag))

/-- ASSIGN PACK at the pack register (R19); the reply holds no contents (log entry 10). -/
def takeAssignPack (tag m : Nat) (s : State) : Answer :=
  if (validTag tag && validMachine m) = false then .refused .range
  else
    match s.pack tag with
    | none => .refused .none
    | some r => if r.place = .unaccounted then .taken (s.setPlace tag (.machine m)) [] else .refused .state

/-- ASSIGN_PACK. -/
def execAssignPack (tag machine : Nat) (s : State) : Host.Outcome State Fault Refusal :=
  .next (s.command 0x27 (takeAssignPack tag machine))

end Sys2Proof.Machine
end

