-- ==== Sys2Proof/Machine/Reads.lean ====
section
/-! DEFINITION. The read commands but READ ATTENTION: READ BAY, READ PACK, READ CLASS, READ GRANTS, READ ISSUES, READ
RESERVATIONS and READ FAULT, with the reply layouts of Tables 10-3 and 10-4. Offsets count the status byte as 0. -/

namespace Sys2Proof.Machine

/-! ## READ BAY (R51, Table 10-3) -/

/-- Offset 3: the outcome in STANDBY, the pre-issue state in RELEASE, otherwise NONE. -/
def Bay.endingByte (y : Bay) : Byte :=
  match y.state with
  | .standby => u1 y.outcome.code
  | .release => u1 ((y.preIssue.map PreIssue.code).getD 0)
  | _ => 0

/-- Offset 6: base level, confirm mode and masked. -/
def BayCfg.packed (c : BayCfg) : Byte :=
  u1 (c.baseLevel.val + 4 * (if c.manual then 1 else 0) + 8 * (if c.masked then 1 else 0))

/-- Offsets 7 to 13: pack identity, registered tag and anonymous stored charge. -/
def Identity.bytes : Identity → List Byte
  | .empty => [0] ++ u2 0 ++ u4? none
  | .registered t => [1] ++ u2 t ++ u4? none
  | .anonymous _ q known => [if known then 3 else 2] ++ u2 0 ++ u4 q

/-- Offsets 19 and 20: whole seconds to the cool expiry, rounded up; 0xFFFF none. -/
def coolSeconds (expiry : Option Nat) (now : Nat) : List Byte :=
  u2 ((expiry.map fun t => ceilDiv (t - now) 1000).getD 0xFFFF)

/-- Offsets 25 to 33: the latest report's fields. -/
def Report.bytes (r : Report) : List Byte :=
  u2 r.vm ++ i2 r.im ++ [i1 r.tm] ++ u2 r.tag ++ [u1 r.classCode, u1 (bitsNat [r.present, r.latchEngaged, r.alarm])]

/-- Free bytes for the offsets `o` and the `n - 1` after it (log entry 9). -/
def State.freeBytes (s : State) (o n : Nat) : List Byte := (List.range n).map fun i => s.free (o + i)

/-- Offsets 21 to 33: arrival time and fields of the latest good report. With none, the arrival time, the tag and the tag
class code are the absent values of Table 10-1 (R185), and the fields that have no absent value are free (log entry 9). -/
def State.latestBytes (s : State) (b : BayNo) : List Byte :=
  match (s.bay b).latest with
  | some l => u4 l.arrival ++ l.report.bytes
  | none => u4? none ++ s.freeBytes 25 5 ++ u2? none ++ [u1? none, s.free 33]

/-- Offsets 34 to 39: the drive. -/
def Drive.bytes (d : Drive) : List Byte :=
  u2 d.voltage ++ u2 d.current ++ [u1 d.indicator.code, u1 (bitsNat [d.on, d.latchOpen])]

/-- Offsets 40 to 55 from a session record; the served times are sent modulo 4,294,967,296 (log entry 45). -/
def Session.bytes (se : Session) : List Byte :=
  [u1 se.profile.val, u1? (se.stage.map (·.val)), u1 (se.frames.length + 4 * (if se.warm then 1 else 0))] ++
    u4 se.served ++ u4 se.sessionServed ++ u4 se.delivered ++ [se.lastFlags.byte]

/-- Offsets 40 to 55; with no session the two bytes of bit fields are free (log entry 9). -/
def State.sessionBytes (s : State) (b : BayNo) : List Byte :=
  match (s.bay b).session with
  | some se => se.bytes
  | none => [0xFF, 0xFF, s.free 42] ++ u4? none ++ u4? none ++ u4? none ++ [s.free 55]

/-- Offsets 56 to 60: request, granted, carried, level with miss count and fault record, and gap count. -/
def State.otherBytes (s : State) (b : BayNo) : List Byte :=
  [u1 (s.grant b).request, u1 (s.grant b).granted, u1 (s.grant b).carried,
    u1 ((s.grant b).level.val + 4 * (s.line b).misses + 16 * (if (s.faultRec b).isSome then 1 else 0)),
    u1 (s.bay b).gapCount]

/-- The contents of the READ BAY reply (Table 10-3). The SoC of an anonymous pack is seen through its charge and class, by
State.seenSoc: the reply has no byte of its own for it, and no frame has room for one (R170; log entry 22). -/
def State.bayContents (s : State) (b : BayNo) : List Byte :=
  let y := s.bay b
  [u1 b.val, u1 y.state.code, y.endingByte, u1? (y.cfg.feeder.map (·.val)), u1 y.cfg.defaultClass.val, y.cfg.packed] ++
    y.identity.bytes ++ u4? y.dockTime ++ [u1 y.attempts] ++ coolSeconds y.coolExpiry s.now ++ s.latestBytes b ++
    y.drive.bytes ++ s.sessionBytes b ++ s.otherBytes b

/-- The SoC of an anonymous pack as it is seen through the contents of a READ BAY reply (R82, Table 4-3): that of the
anonymous charge at offsets 10 to 13 under the class at offset 5 as it stands; none for another pack identity. -/
def State.seenSoc (s : State) (contents : List Byte) : Option Nat :=
  match contents with
  | _ :: _ :: _ :: _ :: cls :: _ :: kind :: _ :: _ :: q3 :: q2 :: q1 :: q0 :: _ =>
    if kind.toNat = 2 ∨ kind.toNat = 3 then
      ((index? 8 cls.toNat).bind s.classRec).map fun cr => soc (ofU2 q3 q2 * 65536 + ofU2 q1 q0) cr.capacity
    else none
  | _ => none

/-- READ BAY at the bay sequencer (R51). -/
def takeReadBay (bay : Nat) (s : State) : Answer :=
  match index? 24 bay with
  | none => .refused .range
  | some b => .taken s.drawn (s.bayContents b)

/-- READ_BAY. -/
def execReadBay (bay : Nat) (s : State) : Host.Outcome State Fault Refusal := .next (s.command 0x30 (takeReadBay bay))

/-! ## READ PACK (R20) -/

/-- The cause of quarantine; 0 is SERVICEABLE (Table 10-4). -/
def Standing.code : Standing → Nat
  | .serviceable => 0
  | .quarantined k => k.code

/-- A pack's rotation position (R10). -/
def State.rotationPosition (s : State) (r : PackRec) : Nat := (s.rotation r.cls).findIdx fun t => decide (t = r.tag)

/-- The contents of the READ PACK reply (Table 10-4). -/
def State.packContents (s : State) (r : PackRec) : List Byte :=
  u2 r.tag ++ [u1 r.cls.val] ++ r.place.bytes ++ [u1 r.standing.code] ++ u4 r.charge ++ [yes r.known] ++ u2? r.mark ++
    u2 r.returns ++ [u1 r.equalize] ++ u2? r.lastMachine ++
    [u1 (s.rotationPosition r), yes (s.packReady r), u1 (s.socOf r)]

/-- READ PACK at the pack register (R20). -/
def takeReadPack (tag : Nat) (s : State) : Answer :=
  if validTag tag = false then .refused .range
  else
    match s.pack tag with
    | none => .refused .none
    | some r => .taken s (s.packContents r)

/-- READ_PACK. -/
def execReadPack (tag : Nat) (s : State) : Host.Outcome State Fault Refusal := .next (s.command 0x31 (takeReadPack tag))

/-! ## READ CLASS (R20) -/

/-- The OCV part of the READ CLASS reply: present, and five voltages that are 0 when ABSENT (Table 10-4). -/
def ocvBytes : Option Ocv → List Byte
  | none => [0] ++ u2 0 ++ u2 0 ++ u2 0 ++ u2 0 ++ u2 0
  | some t => [1] ++ u2 t.p0 ++ u2 t.p1 ++ u2 t.p2 ++ u2 t.p3 ++ u2 t.p4

/-- The contents of the READ CLASS reply (Table 10-4). -/
def State.classContents (s : State) (c : ClassNo) : List Byte :=
  match s.classRec c with
  | none => [u1 c.val, 0]
  | some r =>
    [u1 c.val, 1] ++ r.bytes ++ ocvBytes r.ocv ++
      [u1 (s.readyCount c), yes (s.disp.short[c]), u1 (s.rotation c).length]

/-- READ CLASS at the pack register (R20). -/
def takeReadClass (code : Nat) (s : State) : Answer :=
  match index? 8 code with
  | none => .refused .range
  | some c => .taken s (s.classContents c)

/-- READ_CLASS. -/
def execReadClass (code : Nat) (s : State) : Host.Outcome State Fault Refusal :=
  .next (s.command 0x32 (takeReadClass code))

/-! ## READ GRANTS (R112) -/

/-- The byte of a grant status (Table 5-3, Table 10-1): IDLE, WAITING, PARTIAL or FULL. -/
def Grant.statusCode (e : Grant) : Nat :=
  if e.request = 0 then 0 else if e.granted = 0 then 1 else if e.granted < e.request then 2 else 3

/-- A bay's position in its level queue, counted from 0 at the head (log entry 46); none at request 0 (R98). -/
def State.queuePosition (s : State) (b : BayNo) : Option Nat :=
  if (s.grant b).request = 0 then none
  else some (s.alloc.queues[(s.grant b).level].findIdx fun x => decide (x = b))

/-- Level, mode, status and yield mark in one byte (Table 10-4). -/
def Grant.packed (e : Grant) : Byte :=
  u1 (e.level.val + 4 * e.mode.code + 8 * e.statusCode + 32 * (if e.yielded then 1 else 0))

/-- One bay's part of the READ GRANTS reply. -/
def State.grantBytes (s : State) (b : BayNo) : List Byte :=
  let e := s.grant b
  [u1 e.request, u1 e.granted, u1 e.carried, e.packed, u1? (s.queuePosition b)] ++
    u4? (e.turnExpiry.map fun t => t - s.now)

/-- Cap, granted sum and commitment total of a feeder (R101). -/
def State.feederBytes (s : State) (f : FeederNo) : List Byte :=
  u2 (s.feederCap f) ++ u2 (grantedSum (s.feederBays f) s.grantedUnits) ++
    u2 (s.committed s.grantedUnits (s.feederBays f))

/-- The shed's part of the READ GRANTS reply: cap and whole minutes left, rounded up. -/
def State.shedBytes (s : State) : List Byte :=
  match s.alloc.shed with
  | none => u2 0xFFFF ++ [0xFF]
  | some v => u2 v.cap ++ [u1 (ceilDiv (v.expiry - s.now) Config.minute)]

/-- The contents of the READ GRANTS reply for some bays (Table 10-4). -/
def State.grantsContents (s : State) (bs : List BayNo) : List Byte :=
  u2 s.effectiveCap ++ u2 s.alloc.siteCap ++ s.shedBytes ++
    [u1 (s.alloc.scheme.code + 2 * (if s.alloc.hold.isSome then 1 else 0))] ++ allFeeders.flatMap s.feederBytes ++
    u2 (grantedSum allBays s.grantedUnits) ++ u2 (s.committed s.grantedUnits allBays) ++ bs.flatMap s.grantBytes

/-- The bays READ GRANTS names, or `none` where it is refused RANGE (R112). -/
def readGrantBays (first count : Nat) : Option (List BayNo) :=
  if between 1 count 2 = true ∧ first + count ≤ 24 then
    some (allBays.filter fun b => decide (first ≤ b.val ∧ b.val < first + count))
  else none

/-- READ GRANTS at the allocator (R112). -/
def takeReadGrants (first count : Nat) (s : State) : Answer :=
  match readGrantBays first count with
  | none => .refused .range
  | some bs => .taken s (s.grantsContents bs)

/-- READ_GRANTS. -/
def execReadGrants (first count : Nat) (s : State) : Host.Outcome State Fault Refusal :=
  .next (s.command 0x33 (takeReadGrants first count))

/-! ## READ ISSUES and READ RESERVATIONS (R137) -/

/-- The bay of an OPEN part; absent for the others. -/
def PartState.bay? : PartState → Option Nat
  | .openAt b => some b.val
  | _ => none

/-- A part in the READ ISSUES reply. -/
def Part.bytes (p : Part) : List Byte := u2? p.pack ++ [u1 p.state.code, u1? p.state.bay?]

/-- An entry in the READ ISSUES reply; 0xFE is BY BAY. -/
def Issue.bytes (i : Issue) (now : Nat) : List Byte :=
  u2 i.machine ++ [u1 ((i.cls.map (·.val)).getD 0xFE)] ++ u4 i.issued ++ u4 (i.lapse - now) ++ [u1 i.parts.length] ++
    i.parts.flatMap Part.bytes

/-- Whole entries while they fit within `room` bytes: the first that does not fit and every later one is left out
(R186). -/
def fitting : List (List Byte) → Nat → List Byte
  | [], _ => []
  | e :: es, room => if e.length ≤ room then e ++ fitting es (room - e.length) else []

/-- READ ISSUES at the dispatcher (R137): the body holds at most 61 bytes, of which status, clock and count take 6. -/
def takeReadIssues (s : State) : Answer :=
  .taken s (u4 s.now ++ [u1 s.disp.issues.length] ++ fitting (s.disp.issues.map fun i => i.bytes s.now) 55)

/-- READ_ISSUES. -/
def execReadIssues (s : State) : Host.Outcome State Fault Refusal := .next (s.command 0x34 takeReadIssues)

/-- A reservation in the READ RESERVATIONS reply. -/
def State.reservationBytes (s : State) (v : Reservation) : List Byte :=
  u1 (v.cls.val + 8 * v.machines + 128 * (if s.counts v then 1 else 0)) :: i2 (s.dueFromNow v.due)

/-- READ RESERVATIONS at the dispatcher (R137). -/
def takeReadReservations (s : State) : Answer :=
  .taken s (u4 s.minute ++ [u1 s.disp.lookahead, u1 s.disp.reservations.length] ++
    s.disp.reservations.flatMap s.reservationBytes)

/-- READ_RESERVATIONS. -/
def execReadReservations (s : State) : Host.Outcome State Fault Refusal :=
  .next (s.command 0x35 takeReadReservations)

/-! ## READ FAULT (R156) -/

/-- The secondary kinds as a number: bit k - 1 for kind k. -/
def kindSet (ks : List FaultKind) : Nat :=
  bitsNat ([.overtemp, .overvolt, .stageAlarm, .interlock, .stageLost, .profile, .timeout, .profileStop, .duplicate,
    .mismatch].map fun k => decide (k ∈ ks))

/-- The pack at latch, as Table 10-4 numbers it. -/
def PackAtLatch.code : PackAtLatch → Nat
  | .nothing => 0
  | .registered _ => 1
  | .anonymous => 2
  | .unidentified _ => 3

/-- The tag of the pack at latch, where it carries one. -/
def PackAtLatch.tag? : PackAtLatch → Option Nat
  | .registered t => some t
  | .unidentified t => t
  | _ => none

/-- The presence byte: one bit for each level-type kind in the record that is present (R150, R156). -/
def State.presenceByte (s : State) (b : BayNo) (r : FaultRec) : Byte :=
  u1 (bitsNat ([.overtemp, .stageAlarm, .interlock, .stageLost].map fun k =>
    decide (k ∈ r.kinds) && s.kindPresent b r k))

/-- The record's part of the READ FAULT reply; an empty record gives zeros (Table 10-4). -/
def State.faultBytes (s : State) (b : BayNo) : List Byte :=
  match s.faultRec b with
  | none => List.replicate 15 0
  | some r =>
    [u1 r.first.code] ++ u2 (kindSet r.secondary) ++ u4 r.latchTime ++ [u1? (r.stage.map (·.val)), u1 r.pack.code] ++
      u2? r.pack.tag? ++ [u1? (r.cls.map (·.val)), yes r.held, u1? r.number, s.presenceByte b r]

/-- READ FAULT at the fault unit (R156). -/
def takeReadFault (bay : Nat) (s : State) : Answer :=
  match index? 24 bay with
  | none => .refused .range
  | some b => .taken s ([u1 b.val, s.stateByte b] ++ u4 s.now ++ s.faultBytes b)

/-- READ_FAULT. -/
def execReadFault (bay : Nat) (s : State) : Host.Outcome State Fault Refusal :=
  .next (s.command 0x36 (takeReadFault bay))

end Sys2Proof.Machine
end

