-- ==== Sys2Proof/Machine/Attention.lean ====
section
/-! DEFINITION. The link unit's own commands, READ ATTENTION and SET ATTENTION MASK (R179, R180), and CLEAR (R181)
with its effects in every block. -/

namespace Sys2Proof.Machine

/-- The eight flags as a reply gives them (Table 10-1). -/
def State.flagBytes (s : State) : List Byte := allCauses.map fun c => yes (s.flagSet c)

/-- The set of bays of FAULT: bit b of byte floor(b / 8) (Table 10-4). -/
def State.faultSetBytes (s : State) : List Byte :=
  [0, 8, 16].map fun o => u1 (bitsNat ((allBays.filter fun b => decide (o ≤ b.val ∧ b.val < o + 8)).map fun b =>
    (s.faultRec b).isSome))

/-- The set of classes of SHORT: bit c (Table 10-4). -/
def State.shortSetByte (s : State) : Byte := u1 (bitsNat (allClasses.map fun c => s.link.shortSet[c]))

/-- Every edge-type flag CLEAR and the class set of SHORT empty (R179, R181). -/
def State.clearEdges (s : State) : State :=
  { s with link := { s.link with edges := Edges.clear, shortSet := Vector.replicate 8 false } }

/-- READ ATTENTION at the link unit (R179). -/
def takeReadAttention (s : State) : Answer :=
  .taken s.clearEdges (s.flagBytes ++ s.faultSetBytes ++ [s.shortSetByte] ++ markBytes s.link.mask)

/-- READ_ATTENTION. -/
def execReadAttention (s : State) : Host.Outcome State Fault Refusal := .next (s.command 0x37 takeReadAttention)

/-- The attention mask replaced and written (R180). -/
def State.setMask (s : State) (m : Vector Bool 8) : State :=
  ({ s with link := { s.link with mask := m } } : State).write (.mask m)

/-- SET ATTENTION MASK at the link unit (R180). -/
def takeSetAttentionMask (marks : Vector Nat 8) (s : State) : Answer :=
  match readMask marks with
  | none => .refused .range
  | some m => .taken (s.setMask m) (markBytes m)

/-- SET_ATTENTION_MASK. -/
def execSetAttentionMask (marks : Vector Nat 8) (s : State) : Host.Outcome State Fault Refusal :=
  .next (s.command 0x38 (takeSetAttentionMask marks))

/-! ## CLEAR (R24, R50, R111, R138, R152, R168, R181) -/

/-- The stored charge of every pack whose session CLEAR ends is written, in ascending bay number (R24, item 1; log
entry 35). -/
def State.clearCharges (s : State) : State :=
  (allBays.filter fun b => (s.bay b).session.isSome).foldl State.saveChargeAt s

/-- A grant-table entry after CLEAR: the carried value and the level are kept (R107, R111). -/
def Grant.cleared (e : Grant) : Grant :=
  { e with request := 0, granted := 0, mode := .hold, turnLength := none, turnExpiry := none, yielded := false }

/-- The allocator's part of CLEAR (R111). -/
def State.clearAlloc (s : State) : State :=
  { s with alloc := { s.alloc with
      shed := none, queues := Vector.replicate 4 [], grants := Vector.ofFn fun b => (s.grant b).cleared } }

/-- Every issue mark is cleared (R24, item 2). -/
def State.clearMarks (s : State) : State :=
  { s with register := { s.register with packs := s.register.packs.map fun r => { r with mark := none } } }

/-- The lists of the dispatcher are emptied; a pack of a TAKEN part becomes UNACCOUNTED, without attention (R24, R138), by
entry from the oldest and by part within an entry, which is the order of their writes (log entry 35). -/
def State.clearLists (s : State) : State :=
  let taken := s.tagsOfParts fun p => decide (p.state = .taken)
  ((taken.foldl (fun t g => t.setPlace g .unaccounted) s.clearMarks).setIssues []).setReservations []

/-- Every fault record is emptied (R152). -/
def State.clearFaults (s : State) : State := { s with faults := Vector.replicate 24 none }

/-- A bay state that CLEAR returns to IDENTIFY or VACANT (R50). -/
def BayState.restarts : BayState → Bool
  | .assess => true
  | .charge => true
  | .maintain => true
  | .release => true
  | .fault => true
  | _ => false

/-- CLEAR at one bay sequencer (R50). -/
def State.clearBay (s : State) (b : BayNo) : State :=
  if (s.bay b).state.restarts then (s.modBay b fun y => { y with session := none }).reidentify b else s.redrive b

/-- The whole of CLEAR (R181; its order across the blocks is log entry 13). -/
def State.clearAll (s : State) : State :=
  let s1 := s.clearEdges.clearCharges.clearAlloc.clearLists.clearFaults
  let s2 := allBays.foldl State.clearBay s1
  ((allBays.foldl State.relevel s2).pass).closeEvent allClasses

/-- CLEAR at all blocks (R181). -/
def takeClear (s : State) : Answer :=
  let t := s.clearAll
  .taken t (t.flagBytes ++ t.faultSetBytes ++ [t.shortSetByte])

/-- CLEAR. -/
def execClear (s : State) : Host.Outcome State Fault Refusal := .next (s.command 0x3F takeClear)

end Sys2Proof.Machine
end

