-- ==== Sys2Proof/Machine/PowerEvents.lean ====
section
/-! DEFINITION. Power-on, loss of power, the RESET pin and the restore from the retained store (R21, R22, R25, R177,
R182, R184). -/

namespace Sys2Proof.Machine

/-- All working state is lost (R28, R178, R184); the retained store and the level of the RESET pin are not. Nothing
reads the working state before the restore has set it anew (log entry 6). -/
def State.blank (s : State) : State :=
  { State.bootFrom Store.delivery with
      store := s.store, resetLow := s.resetLow, freeDraw := s.freeDraw, pending := s.pending }

/-- The supply reaches its operating range: the restore begins (R22, R182). -/
def State.powerOn (s : State) : State :=
  if s.powered then s.settle else { s.blank with powered := true, restoring := true }

/-- POWER_ON. -/
def execPowerOn (s : State) : Host.Outcome State Fault Refusal := .next s.powerOn

/-- The supply is lost: of the writes then on their way the first `n` are completed (R21, R184). -/
def State.powerLoss (s : State) (n : Nat) : State :=
  if s.powered then { (s.cutWrites n).blank with powered := false, restoring := false } else s

/-- POWER_LOSS. -/
def execPowerLoss (n : Nat) (s : State) : Host.Outcome State Fault Refusal := .next (s.powerLoss n)

/-- RESET is pulled low: as at a loss of power, the first `n` writes on their way are completed, and the part waits
for the release (R177, R182, R184). -/
def State.resetAssert (s : State) (n : Nat) : State :=
  if s.resetLow then s.settle
  else if s.powered then { (s.cutWrites n).blank with resetLow := true, restoring := true }
  else { s with resetLow := true }

/-- RESET_PIN_ASSERT. -/
def execResetPinAssert (n : Nat) (s : State) : Host.Outcome State Fault Refusal := .next (s.resetAssert n)

/-- RESET is released: the restore begins, where the part is powered (R182). -/
def State.resetRelease (s : State) : State := { s.settle with resetLow := false }

/-- RESET_PIN_RELEASE. -/
def execResetPinRelease (s : State) : Host.Outcome State Fault Refusal := .next s.resetRelease

/-! ## The restore (R22, R25) -/

/-- A restored pack record: no issue mark, and charge known NO where its place is a bay (R22). The stored charge is that of
the image, also where it is above the capacity (log entry 43). -/
def PackRec.restored (r : PackRec) : PackRec :=
  { r with mark := none, known := if r.place.isBay then false else r.known }

/-- A restored rotation list: a tag with no record of the class is dropped, and a record of the class whose tag is in
no list is appended at the tail (R10, R25). -/
def repairRotation (ps : List PackRec) (c : ClassNo) (l : List Nat) : List Nat :=
  (l.filter fun t => ps.any fun r => decide (r.tag = t ∧ r.cls = c)) ++
    ((ps.filter fun r => decide (r.cls = c ∧ r.tag ∉ l)).map (·.tag))

/-- The pack register as restored from an image (R22, R25). -/
def Store.register (img : Store) : Register where
  classes := img.classes
  packs := img.packs.map PackRec.restored
  rotation := Vector.ofFn fun c => repairRotation img.packs c img.rotation[c]

/-- The restored records that R22 changes and the lists that R25 repairs, written: the records in rising tag order, then
the lists in ascending class code (log entry 35). -/
def Store.restoreWrites (img : Store) : List StoreWrite :=
  ((img.register.packs.filter fun r => r.place.isBay).map .pack) ++
    ((allClasses.filter fun c => decide (img.register.rotation[c] ≠ img.rotation[c])).map fun c =>
      .rotation c img.register.rotation[c])

/-- The part at the end of a restore from its store, before the first computations. -/
def State.restored (s : State) : State :=
  { State.bootFrom s.store with
      register := s.store.register, inFlight := s.store.restoreWrites, freeDraw := s.freeDraw, pending := s.pending }

/-- A restore is in progress: the part is powered and RESET released (R182). -/
def State.restores (s : State) : Bool := s.powered && !s.resetLow && s.restoring

/-- The restore ends (R182): the working state is set from the store, the ready counts of 0 are handed to the
dispatcher, which computes every shortage (R22, R117; log entry 32), and the first round begins (R168). -/
def State.endRestore (s : State) : State :=
  if s.restores then s.settle.restored.checkRound.computeAllShort else s.settle

/-- RESTORE_END. -/
def execRestoreEnd (s : State) : Host.Outcome State Fault Refusal := .next s.endRestore

end Sys2Proof.Machine
end

