-- ==== Sys2Proof/Machine/TimerEvents.lean ====
section
/-! DEFINITION. The events of the part clock: the end of the startup hold, the depot minute, and the expiries of
reservations, issue entries, turns, the shed, cooling and lost power stages. Each happens only once its time has come
(log entry 3). -/

namespace Sys2Proof.Machine

/-- A time that is kept has come. -/
def State.reached (s : State) (t : Option Nat) : Bool := (t.map fun n => decide (n ≤ s.now)).getD false

/-! ## Startup hold (R110) -/

/-- The startup hold has run out. -/
def State.holdDue (s : State) : Bool := s.reached s.alloc.hold

/-- The startup hold ends, and a pass runs (R110). -/
def State.endHold (s : State) : State := ({ s with alloc := { s.alloc with hold := none } } : State).pass

/-- STARTUP_HOLD_END. -/
def execStartupHoldEnd (s : State) : Host.Outcome State Fault Refusal := .next (s.eventIf State.holdDue State.endHold)

/-! ## The depot minute and reservations (R135, R183) -/

/-- A reservation is 30 minutes overdue (R135). -/
def State.overdue (s : State) (v : Reservation) : Bool := decide (v.due + Config.grace ≤ s.minute)

/-- The overdue entries at the head of the list are removed, each with attention MISSED (R135). -/
def State.dropOverdue (s : State) : State :=
  let n := (s.disp.reservations.takeWhile s.overdue).length
  let s1 := s.setReservations (s.disp.reservations.drop n)
  if n = 0 then s1 else s1.raise .missed

/-- The next depot minute has come (R183). -/
def State.minuteDue (s : State) : Bool := decide ((s.minute + 1) * Config.minute ≤ s.now)

/-- The depot minute counter advances, the overdue reservations go, and every shortage is computed (R135, R183). -/
def State.nextMinute (s : State) : State := (({ s with minute := s.minute + 1 } : State).dropOverdue).computeAllShort

/-- DEPOT_MINUTE_ADVANCE. -/
def execDepotMinuteAdvance (s : State) : Host.Outcome State Fault Refusal :=
  .next (s.eventIf State.minuteDue State.nextMinute)

/-- Some reservation is overdue. -/
def State.graceDue (s : State) : Bool := ((s.disp.reservations.head?).map s.overdue).getD false

/-- RESERVATION_GRACE_EXPIRY (R135; log entry 7). -/
def execReservationGraceExpiry (s : State) : Host.Outcome State Fault Refusal :=
  .next (s.eventIf State.graceDue fun t => t.dropOverdue.computeAllShort)

/-! ## Issue lapse (R129) -/

/-- The entry of a machine whose lapse time has come. -/
def State.lapsing (s : State) (m : Nat) : Option Issue :=
  s.disp.issues.find? fun i => decide (i.machine = m ∧ i.lapse ≤ s.now)

/-- The entry of a machine lapses (R129). -/
def State.lapse (s : State) (m : Nat) : State :=
  match s.lapsing m with
  | none => s
  | some i => ((s.endIssue i).raise .lapsed).closeEvent []

/-- ISSUE_LAPSE. -/
def execIssueLapse (m : Nat) (s : State) : Host.Outcome State Fault Refusal := .next (s.event fun t => t.lapse m)

/-! ## Turns and the shed (R95, R108) -/

/-- The turn of a bay has run out. -/
def State.turnDue (s : State) (b : BayNo) : Bool := s.reached (s.grant b).turnExpiry

/-- Another bay of an equal or higher level, with a feeder, is WAITING (R108). -/
def State.rivalWaits (s : State) (b : BayNo) : Bool :=
  allBays.any fun x => decide (x ≠ b ∧ (s.grant b).level ≤ (s.grant x).level) && (s.feeder x).isSome &&
    (s.grant x).waiting

/-- A bay is released at the end of its turn (R108). It is told its grant of 0 before the pass, and so joins the prompt list
ahead of the bays that the pass changes, also where the pass grants it again: R102 and R108 leave the moment open (DESIGN
CHOICE, log entry 51). -/
def State.releaseTurn (s : State) (b : BayNo) : State :=
  let l := (s.grant b).level
  let s1 := s.modGrant b fun e => { e with granted := 0, turnExpiry := none, yielded := true }
  ((s1.requeue l b).redrive b).pass

/-- A turn is renewed (R108). -/
def Grant.renewed (e : Grant) : Grant :=
  { e with turnExpiry := e.turnExpiry.map fun t => t + e.turnLength.getD 0 * Config.minute }

/-- The turn of a bay expires (R108). -/
def State.expireTurn (s : State) (b : BayNo) : State :=
  if s.rivalWaits b then s.releaseTurn b else s.modGrant b Grant.renewed

/-- TURN_EXPIRY. -/
def execTurnExpiry (b : BayNo) (s : State) : Host.Outcome State Fault Refusal :=
  .next (s.eventIf (fun t => t.turnDue b) fun t => t.expireTurn b)

/-- The shed has run out. -/
def State.shedDue (s : State) : Bool := s.reached (s.alloc.shed.map (·.expiry))

/-- The shed ends, and a pass runs (R95). -/
def State.endShed (s : State) : State := (s.setShed none).pass

/-- SHED_EXPIRY. -/
def execShedExpiry (s : State) : Host.Outcome State Fault Refusal := .next (s.eventIf State.shedDue State.endShed)

/-! ## Cool expiry and lost-stage expiry (R34, R165) -/

/-- The cool expiry of a COOLING bay has come (R34). -/
def State.coolDue (s : State) (b : BayNo) : Bool :=
  decide ((s.bay b).state = .cooling) && s.reached (s.bay b).coolExpiry

/-- COOL_EXPIRY. -/
def execCoolExpiry (b : BayNo) (s : State) : Host.Outcome State Fault Refusal :=
  .next (s.eventIf (fun t => t.coolDue b) fun t => (t.coolEnds b).handAllReady)

/-- The lost-stage expiry of a bay has come (R165). -/
def State.lostDue (s : State) (b : BayNo) : Bool := s.reached (s.line b).lostExpiry

/-- A power stage is lost: its bay's carried value becomes 0 (R100, R165). -/
def State.loseStage (s : State) (b : BayNo) : State := (s.modLine b fun l => { l with lostExpiry := none }).setCarried b 0

/-- LOST_STAGE_EXPIRY. -/
def execLostStageExpiry (b : BayNo) (s : State) : Host.Outcome State Fault Refusal :=
  .next (s.eventIf (fun t => t.lostDue b) fun t => t.loseStage b)

end Sys2Proof.Machine
end

