-- ==== Sys2Proof/Machine/LineEvents.lean ====
section
/-! DEFINITION. The events of the bay line: the start of a round, regular and prompt polls, a report, and a slot that
times out (chapter 8). Each happens only where its condition holds (log entry 3). -/

namespace Sys2Proof.Machine

/-- ROUND_START (R160). -/
def execRoundStart (s : State) : Host.Outcome State Fault Refusal := .next (s.eventIf State.roundDue State.beginRound)

/-- No poll slot is in progress. -/
def State.lineFree (s : State) : Bool := s.scanner.slot.isNone

/-- The bay that is to get its regular poll now: the prompt list is served first (R162). -/
def State.regularDue (s : State) : Option BayNo :=
  if s.lineFree && s.scanner.prompt.isEmpty then s.nextRegular else none

/-- The walk of the round in progress goes on past a bay. -/
def State.walkPast (s : State) (b : BayNo) : State := { s with scanner := { s.scanner with walk := some (b.val + 1) } }

/-- The regular poll that the round has reached (R160). -/
def State.pollRegular (s : State) : State :=
  match s.regularDue with
  | some b => (s.walkPast b).sendPoll b true
  | none => s

/-- REGULAR_POLL. -/
def execRegularPoll (s : State) : Host.Outcome State Fault Refusal := .next (s.event State.pollRegular)

/-- The bay that is to get a prompt poll now: the head of the prompt list (R162). -/
def State.promptDue (s : State) : Option BayNo := if s.lineFree then s.scanner.prompt.head? else none

/-- A prompt poll (R162). -/
def State.pollPrompt (s : State) : State :=
  match s.promptDue with
  | some b => s.sendPoll b false
  | none => s

/-- PROMPT_POLL. -/
def execPromptPoll (s : State) : Host.Outcome State Fault Refusal := .next (s.event State.pollPrompt)

/-- The bay that bytes received now answer: they are complete, and came within the slot (R157, R187). -/
def State.answering (s : State) (bytes : List Byte) : Option BayNo :=
  s.scanner.slot.bind fun x =>
    if 11 ≤ bytes.length ∧ s.now ≤ x.sentAt + Config.slotTime then some x.bay else none

/-- A report is received; bytes after the eleventh are discarded (R157, R187). -/
def State.receive (s : State) (bytes : List Byte) : State :=
  match s.answering bytes with
  | some b => s.answerSlot b (bytes.take 11)
  | none => s

/-- REPORT_RECEIVED. -/
def execReportReceived (bytes : List Byte) (s : State) : Host.Outcome State Fault Refusal :=
  .next (s.event fun t => t.receive bytes)

/-- The slot times out in a miss (R157, R159). -/
def State.timeoutSlot (s : State) : State :=
  match s.slotOver with
  | some b => s.missSlot b
  | none => s

/-- POLL_SLOT_TIMEOUT. -/
def execPollSlotTimeout (s : State) : Host.Outcome State Fault Refusal := .next (s.event State.timeoutSlot)

/-- The miss of a slot that times out now would be its bay's third in a row (R164). -/
def State.thirdMiss (s : State) (b : BayNo) : Bool :=
  decide ((s.bay b).state ≠ .masked ∧ (s.line b).misses = 2)

/-- The slot that times out is the bay's third miss in a row (R164; log entry 8). -/
def State.timeoutThird (s : State) : State :=
  match s.slotOver with
  | some b => if s.thirdMiss b then s.missSlot b else s
  | none => s

/-- THIRD_CONSECUTIVE_MISS. -/
def execThirdConsecutiveMiss (s : State) : Host.Outcome State Fault Refusal := .next (s.event State.timeoutThird)

end Sys2Proof.Machine
end

