-- ==== Sys2Proof/Machine/Frames.lean ====
section
/-! DEFINITION. Command frames (R170, R172, R185): the layouts of Table 10-2 read from a body and written into one,
and the owner of each command (Table 9-3). -/

namespace Sys2Proof.Machine

/-! ## Reading a body (Table 10-2) -/

/-- What a kind and a body spell (R172, items 2 and 3). -/
inductive Parsed where
  | unknownKind
  | wrongLength
  | command (c : Instr)
  deriving DecidableEq, Repr

/-- A command, or the wrong length. -/
def Parsed.ofBody : Option Instr → Parsed
  | none => .wrongLength
  | some c => .command c

/-- The body of a command without arguments. -/
def parseEmpty (c : Instr) : List Byte → Option Instr
  | [] => some c
  | _ => none

/-- A body of one byte. -/
def parseOne (f : Nat → Instr) : List Byte → Option Instr
  | [a] => some (f a.toNat)
  | _ => none

/-- A body of one two-byte number. -/
def parseTwo (f : Nat → Instr) : List Byte → Option Instr
  | [a, b] => some (f (ofU2 a b))
  | _ => none

/-- Kind 0x01. -/
def parseSetSite : List Byte → Option Instr
  | [c1, c0, sch, la, w1, w0, i1, i0] =>
    some (.setSite ⟨ofU2 c1 c0, sch.toNat, la.toNat, ofU2 w1 w0, ofU2 i1 i0⟩)
  | _ => none

/-- Kind 0x02. -/
def parseSetFeeder : List Byte → Option Instr
  | [f, c1, c0] => some (.setFeeder f.toNat (ofU2 c1 c0))
  | _ => none

/-- Kind 0x03. -/
def parseSetClass : List Byte → Option Instr
  | [c, n, ch, q1, q0, tw, l1, l0, h1, h0, st, hot, ab, cool, rest, low, mw, eq, p, fl] =>
    some (.setClass c.toNat
      ⟨n.toNat, ch.toNat, ofU2 q1 q0, tw.toNat, ofU2 l1 l0, ofU2 h1 h0, st.toInt, hot.toInt, ab.toInt, cool.toNat,
        rest.toNat, low.toNat, mw.toNat, eq.toNat, p.toNat, fl.toNat⟩)
  | _ => none

/-- Kind 0x04. -/
def parseSetOcv : List Byte → Option Instr
  | [c, a1, a0, b1, b0, c1, c0, d1, d0, e1, e0] =>
    some (.setOcv c.toNat ⟨ofU2 a1 a0, ofU2 b1 b0, ofU2 c1 c0, ofU2 d1 d0, ofU2 e1 e0⟩)
  | _ => none

/-- Kind 0x05. -/
def parseSetProfile : List Byte → Option Instr
  | [p, n, m, t, k, s1, s0] => some (.setProfile p.toNat ⟨n.toNat, m.toNat, t.toNat, k.toNat, ofU2 s1 s0⟩)
  | _ => none

/-- Exits of four bytes each. -/
def parseExits : List Byte → Option (List ExitArgs)
  | [] => some []
  | t :: s :: a :: g :: rest => (parseExits rest).map fun es => ⟨t.toNat, s.toNat, a.toNat, g.toNat⟩ :: es
  | _ => none

/-- One, two or three exits (R172). -/
def parseStageExits (bs : List Byte) : Option (List ExitArgs) :=
  (parseExits bs).bind fun es => if between 1 es.length 3 then some es else none

/-- Kind 0x06. -/
def parseSetStage : List Byte → Option Instr
  | p :: k :: kd :: i1 :: i0 :: v1 :: v0 :: co :: ac :: cl :: t1 :: t0 :: ta1 :: ta0 :: se1 :: se0 :: pl :: eq :: xs =>
    (parseStageExits xs).map fun es =>
      .setStage p.toNat k.toNat
        ⟨kd.toNat, ofU2 i1 i0, ofU2 v1 v0, co.toInt, ac.toNat, cl.toNat, ofU2 t1 t0, ofU2 ta1 ta0, ofU2 se1 se0,
          pl.toNat, eq.toNat, es⟩
  | _ => none

/-- Kind 0x07. -/
def parseSetBay : List Byte → Option Instr
  | [b, f, l, c, m, k] => some (.setBay b.toNat ⟨f.toNat, l.toNat, c.toNat, m.toNat, k.toNat⟩)
  | _ => none

/-- Kind 0x18. -/
def parseIssueClass : List Byte → Option Instr
  | [m1, m0, c] => some (.issueClass (ofU2 m1 m0) c.toNat)
  | _ => none

/-- Kind 0x19: one bay or two. -/
def parseIssueBay : List Byte → Option Instr
  | [m1, m0, b] => some (.issueBay (ofU2 m1 m0) b.toNat none)
  | [m1, m0, b, b'] => some (.issueBay (ofU2 m1 m0) b.toNat (some b'.toNat))
  | _ => none

/-- Kind 0x1D. -/
def parseReserve : List Byte → Option Instr
  | [c, m, d1, d0] => some (.reserve c.toNat m.toNat (ofU2 d1 d0))
  | _ => none

/-- Kind 0x20. -/
def parseShed : List Byte → Option Instr
  | [c1, c0, d] => some (.shed (ofU2 c1 c0) d.toNat)
  | _ => none

/-- Kind 0x24. -/
def parseRegisterPack : List Byte → Option Instr
  | [t1, t0, c, m1, m0] => some (.registerPack (ofU2 t1 t0) c.toNat (ofU2 m1 m0))
  | _ => none

/-- Kind 0x27. -/
def parseAssignPack : List Byte → Option Instr
  | [t1, t0, m1, m0] => some (.assignPack (ofU2 t1 t0) (ofU2 m1 m0))
  | _ => none

/-- Kind 0x33. -/
def parseReadGrants : List Byte → Option Instr
  | [f, n] => some (.readGrants f.toNat n.toNat)
  | _ => none

/-- Kind 0x38. -/
def parseSetMask : List Byte → Option Instr
  | [a, b, c, d, e, f, g, h] =>
    some (.setAttentionMask #v[a.toNat, b.toNat, c.toNat, d.toNat, e.toNat, f.toNat, g.toNat, h.toNat])
  | _ => none

/-- The body layout of a kind of Table 9-3; `none` is a kind that names no command (R172, item 2). -/
def layoutOf : Nat → Option (List Byte → Option Instr)
  | 0x01 => some parseSetSite
  | 0x02 => some parseSetFeeder
  | 0x03 => some parseSetClass
  | 0x04 => some parseSetOcv
  | 0x05 => some parseSetProfile
  | 0x06 => some parseSetStage
  | 0x07 => some parseSetBay
  | 0x10 => some (parseOne .maskBay)
  | 0x11 => some (parseOne .unmaskBay)
  | 0x12 => some (parseOne .stopBay)
  | 0x13 => some (parseOne .startBay)
  | 0x14 => some (parseOne .clearFault)
  | 0x18 => some parseIssueClass
  | 0x19 => some parseIssueBay
  | 0x1A => some (parseTwo .confirm)
  | 0x1B => some (parseEmpty .confirmNext)
  | 0x1C => some (parseTwo .cancelIssue)
  | 0x1D => some parseReserve
  | 0x1E => some (parseOne .dropReservations)
  | 0x20 => some parseShed
  | 0x24 => some parseRegisterPack
  | 0x25 => some (parseTwo .removePack)
  | 0x26 => some (parseTwo .releasePack)
  | 0x27 => some parseAssignPack
  | 0x30 => some (parseOne .readBay)
  | 0x31 => some (parseTwo .readPack)
  | 0x32 => some (parseOne .readClass)
  | 0x33 => some parseReadGrants
  | 0x34 => some (parseEmpty .readIssues)
  | 0x35 => some (parseEmpty .readReservations)
  | 0x36 => some (parseOne .readFault)
  | 0x37 => some (parseEmpty .readAttention)
  | 0x38 => some parseSetMask
  | 0x3F => some (parseEmpty .clear)
  | _ => none

/-- The command that a kind and a body spell (R172, R185). -/
def parseCommand (kind : Byte) (body : List Byte) : Parsed :=
  match layoutOf kind.toNat with
  | none => .unknownKind
  | some p => Parsed.ofBody (p body)

/-! ## Writing a body -/

/-- The four bytes of an exit (Table 10-1). -/
def ExitArgs.bytes (e : ExitArgs) : List Byte := [u1 e.test, u1 e.sense, u1 e.action, u1 e.argument]

/-- The body of SET CLASS (Table 10-2). -/
def classBody (code : Nat) (a : ClassArgs) : List Byte :=
  [u1 code, u1 a.cells, u1 a.chemistry] ++ u2 a.capacity ++ [u1 a.twin] ++ u2 a.minCell ++ u2 a.maxCell ++
    [i1 a.startLimit, i1 a.hotLimit, i1 a.abortLimit, u1 a.coolTimeout, u1 a.restTime, u1 a.lowWater,
      u1 a.matchWindow, u1 a.equalizeInterval, u1 a.profile, u1 a.floor]

/-- The body of SET STAGE (Table 10-2). -/
def stageBody (p k : Nat) (a : StageArgs) : List Byte :=
  [u1 p, u1 k, u1 a.kind] ++ u2 a.iset ++ u2 a.cellTarget ++ [i1 a.coefficient, u1 a.acceptance, u1 a.chargeLimit] ++
    u2 a.timeLimit ++ u2 a.taper ++ u2 a.settle ++ [u1 a.plateau, u1 a.equalizeMark] ++ a.exits.flatMap ExitArgs.bytes

/-- The kind and the body of a command's frame (Tables 9-3 and 10-2); `none` for an event, which no frame carries. -/
def frameOf : Instr → Option (Byte × List Byte)
  | .setSite a => some (0x01, u2 a.siteCap ++ [u1 a.scheme, u1 a.lookahead] ++ u2 a.window ++ u2 a.scanInterval)
  | .setFeeder f cap => some (0x02, u1 f :: u2 cap)
  | .setClass c a => some (0x03, classBody c a)
  | .setOcv c a => some (0x04, u1 c :: (u2 a.p0 ++ u2 a.p1 ++ u2 a.p2 ++ u2 a.p3 ++ u2 a.p4))
  | .setProfile p a =>
    some (0x05, [u1 p, u1 a.stageCount, u1 a.grantMode, u1 a.turnLength, u1 a.maintainStage] ++ u2 a.sessionLimit)
  | .setStage p k a => some (0x06, stageBody p k a)
  | .setBay b a => some (0x07, [u1 b, u1 a.feeder, u1 a.baseLevel, u1 a.defaultClass, u1 a.confirmMode, u1 a.masked])
  | .maskBay b => some (0x10, [u1 b])
  | .unmaskBay b => some (0x11, [u1 b])
  | .stopBay b => some (0x12, [u1 b])
  | .startBay b => some (0x13, [u1 b])
  | .clearFault b => some (0x14, [u1 b])
  | .issueClass m c => some (0x18, u2 m ++ [u1 c])
  | .issueBay m b none => some (0x19, u2 m ++ [u1 b])
  | .issueBay m b (some b') => some (0x19, u2 m ++ [u1 b, u1 b'])
  | .confirm m => some (0x1A, u2 m)
  | .confirmNext => some (0x1B, [])
  | .cancelIssue m => some (0x1C, u2 m)
  | .reserve c m d => some (0x1D, [u1 c, u1 m] ++ u2 d)
  | .dropReservations c => some (0x1E, [u1 c])
  | .shed cap d => some (0x20, u2 cap ++ [u1 d])
  | .registerPack t c m => some (0x24, u2 t ++ [u1 c] ++ u2 m)
  | .removePack t => some (0x25, u2 t)
  | .releasePack t => some (0x26, u2 t)
  | .assignPack t m => some (0x27, u2 t ++ u2 m)
  | .readBay b => some (0x30, [u1 b])
  | .readPack t => some (0x31, u2 t)
  | .readClass c => some (0x32, [u1 c])
  | .readGrants f n => some (0x33, [u1 f, u1 n])
  | .readIssues => some (0x34, [])
  | .readReservations => some (0x35, [])
  | .readFault b => some (0x36, [u1 b])
  | .readAttention => some (0x37, [])
  | .setAttentionMask m => some (0x38, m.toList.map u1)
  | .clear => some (0x3F, [])
  | .powerOn => none
  | .powerLoss _ => none
  | .resetPinAssert _ => none
  | .resetPinRelease => none
  | .restoreEnd => none
  | .startupHoldEnd => none
  | .depotMinuteAdvance => none
  | .reservationGraceExpiry => none
  | .issueLapse _ => none
  | .turnExpiry _ => none
  | .shedExpiry => none
  | .coolExpiry _ => none
  | .lostStageExpiry _ => none
  | .roundStart => none
  | .regularPoll => none
  | .promptPoll => none
  | .reportReceived _ => none
  | .pollSlotTimeout => none
  | .thirdConsecutiveMiss => none
  | .frameComplete _ _ _ => none
  | .frameDiscardedBusy => none
  | .byteGapTimeout => none
  | .lengthOutOfRange _ => none
  | .replySent => none
  | .startMarkerReceived => none

/-! ## Owners (Table 9-3) -/

/-- What the owner of a command does with it; `none` for an event. -/
def ownerOf : Instr → Option (State → Answer)
  | .setSite a => some (takeSetSite a)
  | .setFeeder f cap => some (takeSetFeeder f cap)
  | .setClass c a => some (takeSetClass c a)
  | .setOcv c a => some (takeSetOcv c a)
  | .setProfile p a => some (takeSetProfile p a)
  | .setStage p k a => some (takeSetStage p k a)
  | .setBay b a => some (takeSetBay b a)
  | .maskBay b => some (takeMaskBay b)
  | .unmaskBay b => some (takeUnmaskBay b)
  | .stopBay b => some (takeStopBay b)
  | .startBay b => some (takeStartBay b)
  | .clearFault b => some (takeClearFault b)
  | .issueClass m c => some (takeIssueClass m c)
  | .issueBay m b b' => some (takeIssueBay m b b')
  | .confirm m => some (takeConfirm m)
  | .confirmNext => some takeConfirmNext
  | .cancelIssue m => some (takeCancelIssue m)
  | .reserve c m d => some (takeReserve c m d)
  | .dropReservations c => some (takeDropReservations c)
  | .shed cap d => some (takeShed cap d)
  | .registerPack t c m => some (takeRegisterPack t c m)
  | .removePack t => some (takeRemovePack t)
  | .releasePack t => some (takeReleasePack t)
  | .assignPack t m => some (takeAssignPack t m)
  | .readBay b => some (takeReadBay b)
  | .readPack t => some (takeReadPack t)
  | .readClass c => some (takeReadClass c)
  | .readGrants f n => some (takeReadGrants f n)
  | .readIssues => some takeReadIssues
  | .readReservations => some takeReadReservations
  | .readFault b => some (takeReadFault b)
  | .readAttention => some takeReadAttention
  | .setAttentionMask m => some (takeSetAttentionMask m)
  | .clear => some takeClear
  | .powerOn => none
  | .powerLoss _ => none
  | .resetPinAssert _ => none
  | .resetPinRelease => none
  | .restoreEnd => none
  | .startupHoldEnd => none
  | .depotMinuteAdvance => none
  | .reservationGraceExpiry => none
  | .issueLapse _ => none
  | .turnExpiry _ => none
  | .shedExpiry => none
  | .coolExpiry _ => none
  | .lostStageExpiry _ => none
  | .roundStart => none
  | .regularPoll => none
  | .promptPoll => none
  | .reportReceived _ => none
  | .pollSlotTimeout => none
  | .thirdConsecutiveMiss => none
  | .frameComplete _ _ _ => none
  | .frameDiscardedBusy => none
  | .byteGapTimeout => none
  | .lengthOutOfRange _ => none
  | .replySent => none
  | .startMarkerReceived => none

end Sys2Proof.Machine
end

