-- ==== Sys2Proof/Machine/LinkEvents.lean ====
section
/-! DEFINITION. The events of the depot link: a start marker, a frame abandoned, a frame complete, and the end of a
reply (R170 to R174). -/

namespace Sys2Proof.Machine

/-- The receiver is in HUNT. -/
def State.hunting (s : State) : Bool := decide (s.link.receiver = .hunt)

/-- The receiver is in FRAME. -/
def State.framing (s : State) : Bool := decide (s.link.receiver = .frame)

/-- START_MARKER_RECEIVED (R171). -/
def execStartMarkerReceived (s : State) : Host.Outcome State Fault Refusal :=
  .next (s.eventIf State.hunting fun t => t.setReceiver .frame)

/-- BYTE_GAP_TIMEOUT: the frame is abandoned, and no attention is set (R171). -/
def execByteGapTimeout (s : State) : Host.Outcome State Fault Refusal :=
  .next (s.eventIf State.framing fun t => t.setReceiver .hunt)

/-- A length byte is out of range (R171). -/
def badLength (l : Byte) : Bool := !between 1 l.toNat 62

/-- LENGTH_OUT_OF_RANGE: the frame is abandoned, and no attention is set (R171). -/
def execLengthOutOfRange (l : Byte) (s : State) : Host.Outcome State Fault Refusal :=
  .next (s.eventIf (fun t => t.framing && badLength l) fun t => t.setReceiver .hunt)

/-- REPLY_SENT: the link unit is no longer busy (R173). -/
def execReplySent (s : State) : Host.Outcome State Fault Refusal :=
  .next (s.event fun t => { t with link := { t.link with reply := none } })

/-- FRAME_DISCARDED_BUSY (R173). -/
def execFrameDiscardedBusy (s : State) : Host.Outcome State Fault Refusal :=
  .next (s.eventIf (fun t => t.framing && t.busy) State.discardFrame)

/-- The 8-bit sum of length, kind, body and check is 0 (R170, R172). -/
def frameChecks (kind : Byte) (body : List Byte) (check : Byte) : Bool :=
  decide (sumBytes (u1 (body.length + 1) :: kind :: body ++ [check]) = 0)

/-- A complete frame is judged (R172): CHECK, KIND, LENGTH, or its owner's result. -/
def State.judge (s : State) (kind : Byte) (body : List Byte) (check : Byte) : State :=
  if frameChecks kind body check = false then s.reply kind .check []
  else
    match parseCommand kind body with
    | .unknownKind => s.reply kind .kind []
    | .wrongLength => s.reply kind .length []
    | .command c =>
      match ownerOf c with
      | some f => s.answerWith kind (f s)
      | none => s.reply kind .kind []

/-- A frame completes in FRAME: a body longer than 61 bytes has a length byte out of range, which abandoned it (R171);
while the unit is busy it is discarded (R173), and otherwise it is judged (R172). -/
def State.completeFrame (s : State) (kind : Byte) (body : List Byte) (check : Byte) : State :=
  if 61 < body.length then s.setReceiver .hunt
  else if s.busy then s.discardFrame
  else s.judge kind body check

/-- FRAME_COMPLETE (R171 to R173). -/
def execFrameComplete (kind : Byte) (body : List Byte) (check : Byte) (s : State) : Host.Outcome State Fault Refusal :=
  .next (s.eventIf State.framing fun t => t.completeFrame kind body check)

end Sys2Proof.Machine
end

