-- ==== Sys2Proof/Machine/Clock.lean ====
section
/-! DEFINITION. What the part does when no command waits (log entry 2): the events whose time has come are put in the
queue of commands, and when there is none the part clock goes on by 1 ms (R183). -/

namespace Sys2Proof.Machine

/-- An event where its condition holds. -/
def dueIf (c : Bool) (e : Instr) : List Instr := if c then [e] else []

/-- The event that ends the poll slot, where its time has come. -/
def State.slotEvent (s : State) : List Instr :=
  match s.slotOver with
  | some b => [if s.thirdMiss b then .thirdConsecutiveMiss else .pollSlotTimeout]
  | none => []

/-- The expiries of the bays that are due. -/
def State.bayEvents (s : State) : List Instr :=
  (allBays.flatMap fun b => dueIf (s.turnDue b) (.turnExpiry b)) ++
    (allBays.flatMap fun b => dueIf (s.coolDue b) (.coolExpiry b)) ++
    (allBays.flatMap fun b => dueIf (s.lostDue b) (.lostStageExpiry b))

/-- The events of the scanner that are due. -/
def State.lineEvents (s : State) : List Instr :=
  s.slotEvent ++ dueIf s.roundDue .roundStart ++ dueIf s.promptDue.isSome .promptPoll ++
    dueIf s.regularDue.isSome .regularPoll

/-- The events that are due at this moment, in the order in which the model takes them (log entry 2). -/
def State.due (s : State) : List Instr :=
  dueIf s.holdDue .startupHoldEnd ++ dueIf s.shedDue .shedExpiry ++ s.bayEvents ++
    ((s.disp.issues.filter fun i => decide (i.lapse ≤ s.now)).map fun i => .issueLapse i.machine) ++
    dueIf s.minuteDue .depotMinuteAdvance ++ dueIf s.graceDue .reservationGraceExpiry ++ s.lineEvents

/-- The part clock goes on by 1 ms (R183). -/
def State.advance (s : State) : State := { s.settle with now := s.now + 1 }

/-- The part with an empty queue (log entry 2): the first event that is due goes into the queue; where none is due
the clock goes on. A part that is not running waits (R182). -/
def State.tick (s : State) : State :=
  if s.running = false then s
  else
    match s.due with
    | [] => s.advance
    | e :: _ => { s with pending := [e] }

end Sys2Proof.Machine
end

