-- ==== Sys2Proof/Machine/Dispatch.lean ====
section
/-! DEFINITION. The meaning of every command: one arm for each row of spec/opcode_table.json. -/

namespace Sys2Proof.Machine

def exec (i : Instr) (s : State) : Host.Outcome State Fault Refusal :=
  match i with
  | .powerOn => Sys2Proof.Machine.execPowerOn s
  | .powerLoss completed => Sys2Proof.Machine.execPowerLoss completed s
  | .resetPinAssert completed => Sys2Proof.Machine.execResetPinAssert completed s
  | .resetPinRelease => Sys2Proof.Machine.execResetPinRelease s
  | .restoreEnd => Sys2Proof.Machine.execRestoreEnd s
  | .startupHoldEnd => Sys2Proof.Machine.execStartupHoldEnd s
  | .depotMinuteAdvance => Sys2Proof.Machine.execDepotMinuteAdvance s
  | .reservationGraceExpiry => Sys2Proof.Machine.execReservationGraceExpiry s
  | .issueLapse machine => Sys2Proof.Machine.execIssueLapse machine s
  | .turnExpiry bay => Sys2Proof.Machine.execTurnExpiry bay s
  | .shedExpiry => Sys2Proof.Machine.execShedExpiry s
  | .coolExpiry bay => Sys2Proof.Machine.execCoolExpiry bay s
  | .lostStageExpiry bay => Sys2Proof.Machine.execLostStageExpiry bay s
  | .roundStart => Sys2Proof.Machine.execRoundStart s
  | .regularPoll => Sys2Proof.Machine.execRegularPoll s
  | .promptPoll => Sys2Proof.Machine.execPromptPoll s
  | .reportReceived bytes => Sys2Proof.Machine.execReportReceived bytes s
  | .pollSlotTimeout => Sys2Proof.Machine.execPollSlotTimeout s
  | .thirdConsecutiveMiss => Sys2Proof.Machine.execThirdConsecutiveMiss s
  | .frameComplete kind body check => Sys2Proof.Machine.execFrameComplete kind body check s
  | .frameDiscardedBusy => Sys2Proof.Machine.execFrameDiscardedBusy s
  | .byteGapTimeout => Sys2Proof.Machine.execByteGapTimeout s
  | .lengthOutOfRange length => Sys2Proof.Machine.execLengthOutOfRange length s
  | .replySent => Sys2Proof.Machine.execReplySent s
  | .setSite args => Sys2Proof.Machine.execSetSite args s
  | .setFeeder feeder cap => Sys2Proof.Machine.execSetFeeder feeder cap s
  | .setClass code args => Sys2Proof.Machine.execSetClass code args s
  | .setOcv code args => Sys2Proof.Machine.execSetOcv code args s
  | .setProfile profile args => Sys2Proof.Machine.execSetProfile profile args s
  | .setStage profile stage args => Sys2Proof.Machine.execSetStage profile stage args s
  | .setBay bay args => Sys2Proof.Machine.execSetBay bay args s
  | .maskBay bay => Sys2Proof.Machine.execMaskBay bay s
  | .unmaskBay bay => Sys2Proof.Machine.execUnmaskBay bay s
  | .stopBay bay => Sys2Proof.Machine.execStopBay bay s
  | .startBay bay => Sys2Proof.Machine.execStartBay bay s
  | .clearFault bay => Sys2Proof.Machine.execClearFault bay s
  | .issueClass machine code => Sys2Proof.Machine.execIssueClass machine code s
  | .issueBay machine bay second => Sys2Proof.Machine.execIssueBay machine bay second s
  | .confirm machine => Sys2Proof.Machine.execConfirm machine s
  | .confirmNext => Sys2Proof.Machine.execConfirmNext s
  | .cancelIssue machine => Sys2Proof.Machine.execCancelIssue machine s
  | .reserve code machines dueIn => Sys2Proof.Machine.execReserve code machines dueIn s
  | .dropReservations code => Sys2Proof.Machine.execDropReservations code s
  | .shed cap duration => Sys2Proof.Machine.execShed cap duration s
  | .registerPack tag code machine => Sys2Proof.Machine.execRegisterPack tag code machine s
  | .removePack tag => Sys2Proof.Machine.execRemovePack tag s
  | .releasePack tag => Sys2Proof.Machine.execReleasePack tag s
  | .assignPack tag machine => Sys2Proof.Machine.execAssignPack tag machine s
  | .readBay bay => Sys2Proof.Machine.execReadBay bay s
  | .readPack tag => Sys2Proof.Machine.execReadPack tag s
  | .readClass code => Sys2Proof.Machine.execReadClass code s
  | .readGrants first count => Sys2Proof.Machine.execReadGrants first count s
  | .readIssues => Sys2Proof.Machine.execReadIssues s
  | .readReservations => Sys2Proof.Machine.execReadReservations s
  | .readFault bay => Sys2Proof.Machine.execReadFault bay s
  | .readAttention => Sys2Proof.Machine.execReadAttention s
  | .setAttentionMask marks => Sys2Proof.Machine.execSetAttentionMask marks s
  | .clear => Sys2Proof.Machine.execClear s
  | .startMarkerReceived => Sys2Proof.Machine.execStartMarkerReceived s

end Sys2Proof.Machine
end

