-- ==== Sys2Proof/WellFormed.lean ====
section
/-! DEFINITION. Which commands can arrive at all: an operand fits the bytes that carry it (Table 10-2, R185). A field
that fits its bytes and lies outside its range is well formed: its owner judges it (R175). -/

namespace Sys2Proof

/-- A number that one byte carries. -/
def fits1 (n : Nat) : Bool := decide (n < 256)

/-- A number that two bytes carry. -/
def fits2 (n : Nat) : Bool := decide (n < 65536)

/-- A signed number that one byte carries. -/
def fitsSigned (x : Int) : Bool := decide (-128 ≤ x ∧ x ≤ 127)

/-- Every number of a list is carried by one byte. -/
def allFit1 (l : List Nat) : Bool := l.all fits1

/-- Every number of a list is carried by two bytes. -/
def allFit2 (l : List Nat) : Bool := l.all fits2

/-- Each field of SET SITE fits. -/
def SiteArgs.wf (a : SiteArgs) : Bool :=
  allFit1 [a.scheme, a.lookahead] && allFit2 [a.siteCap, a.window, a.scanInterval]

/-- Each field of SET CLASS fits. -/
def ClassArgs.wf (a : ClassArgs) : Bool :=
  allFit1 [a.cells, a.chemistry, a.twin, a.coolTimeout, a.restTime, a.lowWater, a.matchWindow, a.equalizeInterval,
    a.profile, a.floor] &&
  allFit2 [a.capacity, a.minCell, a.maxCell] && fitsSigned a.startLimit && fitsSigned a.hotLimit &&
  fitsSigned a.abortLimit

/-- Each field of SET OCV fits. -/
def OcvArgs.wf (a : OcvArgs) : Bool := allFit2 [a.p0, a.p1, a.p2, a.p3, a.p4]

/-- Each field of SET PROFILE fits. -/
def ProfileArgs.wf (a : ProfileArgs) : Bool :=
  allFit1 [a.stageCount, a.grantMode, a.turnLength, a.maintainStage] && fits2 a.sessionLimit

/-- Each byte of an exit fits. -/
def ExitArgs.wf (e : ExitArgs) : Bool := allFit1 [e.test, e.sense, e.action, e.argument]

/-- Each field of SET STAGE fits, and there are one to three exits (R172). -/
def StageArgs.wf (a : StageArgs) : Bool :=
  allFit1 [a.kind, a.acceptance, a.chargeLimit, a.plateau, a.equalizeMark] &&
  allFit2 [a.iset, a.cellTarget, a.timeLimit, a.taper, a.settle] && fitsSigned a.coefficient &&
  decide (1 ≤ a.exits.length ∧ a.exits.length ≤ 3) && a.exits.all ExitArgs.wf

/-- Each field of SET BAY fits. -/
def BayArgs.wf (a : BayArgs) : Bool := allFit1 [a.feeder, a.baseLevel, a.defaultClass, a.confirmMode, a.masked]

/-- The command can arrive: its operands fit their bytes, a report has its eleven bytes (R187), and a frame its body
of at most 61 (R170). -/
def Instr.wf : Instr → Bool
  | .powerOn => true
  | .powerLoss _ => true
  | .resetPinAssert _ => true
  | .resetPinRelease => true
  | .restoreEnd => true
  | .startupHoldEnd => true
  | .depotMinuteAdvance => true
  | .reservationGraceExpiry => true
  | .issueLapse m => decide (1 ≤ m ∧ m ≤ 999)
  | .turnExpiry _ => true
  | .shedExpiry => true
  | .coolExpiry _ => true
  | .lostStageExpiry _ => true
  | .roundStart => true
  | .regularPoll => true
  | .promptPoll => true
  | .reportReceived bs => decide (11 ≤ bs.length)
  | .pollSlotTimeout => true
  | .thirdConsecutiveMiss => true
  | .frameComplete _ body _ => decide (body.length ≤ 61)
  | .frameDiscardedBusy => true
  | .byteGapTimeout => true
  | .lengthOutOfRange l => decide (l = 0 ∨ 62 < l.toNat)
  | .replySent => true
  | .setSite a => a.wf
  | .setFeeder f cap => fits1 f && fits2 cap
  | .setClass c a => fits1 c && a.wf
  | .setOcv c a => fits1 c && a.wf
  | .setProfile p a => fits1 p && a.wf
  | .setStage p k a => fits1 p && fits1 k && a.wf
  | .setBay b a => fits1 b && a.wf
  | .maskBay b => fits1 b
  | .unmaskBay b => fits1 b
  | .stopBay b => fits1 b
  | .startBay b => fits1 b
  | .clearFault b => fits1 b
  | .issueClass m c => fits2 m && fits1 c
  | .issueBay m b b' => fits2 m && fits1 b && (b'.map fits1).getD true
  | .confirm m => fits2 m
  | .confirmNext => true
  | .cancelIssue m => fits2 m
  | .reserve c m d => fits1 c && fits1 m && fits2 d
  | .dropReservations c => fits1 c
  | .shed cap d => fits2 cap && fits1 d
  | .registerPack t c m => fits2 t && fits1 c && fits2 m
  | .removePack t => fits2 t
  | .releasePack t => fits2 t
  | .assignPack t m => fits2 t && fits2 m
  | .readBay b => fits1 b
  | .readPack t => fits2 t
  | .readClass c => fits1 c
  | .readGrants f n => fits1 f && fits1 n
  | .readIssues => true
  | .readReservations => true
  | .readFault b => fits1 b
  | .readAttention => true
  | .setAttentionMask m => m.toList.all fits1
  | .clear => true
  | .startMarkerReceived => true

end Sys2Proof
end

