-- ==== Sys2Proof/Safety.lean ====
section
/-! DEFINITION. The words in which statements about the PR-24 are made: when it takes a command, what an event leaves
alone, and the invariants of its tables and lists. -/

namespace Sys2Proof.Machine

/-! ## Taking a command -/

/-- The part runs and its link unit is not busy, so that a command that arrives is judged (R172, R182). -/
abbrev State.accepts (s : State) : Prop := s.running = true ∧ s.busy = false

/-- A row of the opcode table that the supply, the RESET pin or the restore raises (R182, R184). -/
def powerRow : Instr → Bool
  | .powerOn => true
  | .powerLoss _ => true
  | .resetPinAssert _ => true
  | .resetPinRelease => true
  | .restoreEnd => true
  | _ => false

/-! ## What an event leaves alone

Many events end in allocation passes, level changes and shortage computations. What those can change is set aside by
the two outlines below: two states with one outline agree in everything else. -/

/-- A sequencer without its drive, which follows from the rest and the grant (Table 2-5). -/
def Bay.outline (y : Bay) : Bay := { y with drive := Drive.reset }

/-- A grant-table entry without what passes and level changes set. -/
def Grant.outline (e : Grant) : Grant := { e with granted := 0, level := 0, turnExpiry := none, yielded := false }

/-- The state without drives, granted units, turn expiries, yield marks, levels, level queues, the prompt list, and
the shortage states, ready counts and class set of SHORT that follow from the records. -/
def State.outline (s : State) : State :=
  { s with
      bays := Vector.ofFn fun b => (s.bay b).outline
      alloc := { s.alloc with grants := Vector.ofFn fun b => (s.grant b).outline, queues := Vector.replicate 4 [] }
      scanner := { s.scanner with prompt := [] }
      disp := { s.disp with short := Vector.replicate 8 false, ready := Vector.replicate 8 0 }
      link := { s.link with shortSet := Vector.replicate 8 false } }

/-- A grant-table entry without what a pass sets: granted units, turn expiry and yield mark. -/
def Grant.passOutline (e : Grant) : Grant := { e with granted := 0, turnExpiry := none, yielded := false }

/-- The state without what a pass can change: drives, granted units, turn expiries, yield marks and the prompt list
(R102). -/
def State.passOutline (s : State) : State :=
  { s with
      bays := Vector.ofFn fun b => (s.bay b).outline
      alloc := { s.alloc with grants := Vector.ofFn fun b => (s.grant b).passOutline }
      scanner := { s.scanner with prompt := [] } }

/-! ## Invariants -/

/-- Every level queue holds exactly the bays of its level whose request is above 0, none of them twice (R98). -/
abbrev State.QueuesAgree (s : State) : Prop :=
  ∀ l : LevelNo, (s.alloc.queues[l]).Nodup ∧
    ∀ b : BayNo, b ∈ s.alloc.queues[l] ↔ ((s.grant b).level = l ∧ (s.grant b).request ≠ 0)

/-- The granted sums lie within the caps, and no grant is above its request or given to a bay without a feeder (R106,
laws 1 and 3). -/
abbrev State.GrantsLawful (s : State) : Prop :=
  grantedSum allBays s.grantedUnits ≤ s.effectiveCap ∧
  (∀ f : FeederNo, grantedSum (s.feederBays f) s.grantedUnits ≤ s.feederCap f) ∧
  ∀ b : BayNo, (s.grant b).granted ≤ (s.grant b).request ∧ (s.feeder b = none → (s.grant b).granted = 0)

/-- A bay under TURN has a turn length, and a turn runs only under TURN at a grant above 0 (R107). -/
abbrev State.TurnsOk (s : State) : Prop :=
  ∀ b : BayNo, ((s.grant b).mode = .turn → (s.grant b).turnLength.isSome = true) ∧
    ((s.grant b).turnExpiry.isSome = true → (s.grant b).mode = .turn ∧ (s.grant b).granted ≠ 0)

/-- The grant table's invariant: its queues agree with its entries, its grants are lawful, and so are its turns. -/
abbrev State.GrantTableOk (s : State) : Prop := s.QueuesAgree ∧ s.GrantsLawful ∧ s.TurnsOk

/-- Every request and every grant above 0 reaches the floor of its bay (R86, R106). -/
abbrev State.FloorsMet (s : State) : Prop :=
  ∀ b : BayNo, ((s.grant b).request = 0 ∨ s.floorAt b ≤ (s.grant b).request) ∧
    ((s.grant b).granted = 0 ∨ s.floorAt b ≤ (s.grant b).granted)

/-- Pack records stand in strictly rising tags, and each class's rotation list holds the tag of each record of the
class once and no other tag (R5, R10). -/
abbrev Register.Agrees (g : Register) : Prop :=
  packsSorted g.packs = true ∧
  ∀ c : ClassNo, (g.rotation[c]).Nodup ∧ (∀ t ∈ g.rotation[c], ∃ r ∈ g.packs, r.tag = t ∧ r.cls = c) ∧
    ∀ r ∈ g.packs, r.cls = c → r.tag ∈ g.rotation[c]

/-- The images of the retained store stand in rising tags, and no stored rotation list holds a tag twice. -/
abbrev Store.Sound (st : Store) : Prop := packsSorted st.packs = true ∧ ∀ c : ClassNo, (st.rotation[c]).Nodup

/-- A write leaves a sound store sound: a rotation list on its way holds no tag twice. -/
def StoreWrite.sound : StoreWrite → Bool
  | .rotation _ l => decide l.Nodup
  | _ => true

/-- The pack register's invariant (R10, R25), with what a restore needs of the store to set it up again. -/
abbrev State.RegisterOk (s : State) : Prop :=
  s.register.Agrees ∧ s.store.Sound ∧ ∀ w ∈ s.inFlight, w.sound = true

/-- Every drive is that of Table 2-5 for the bay's state and grant (R48, R49). -/
abbrev State.DrivesOk (s : State) : Prop := ∀ b : BayNo, (s.bay b).drive = driveOf (s.bay b) (s.grant b).granted

/-- Every bay whose drive lowers power against the last drive sent to it is on the prompt list: its output goes off, its
grant is below the units sent, or its latch differs (R49, R161). -/
abbrev State.LowersListed (s : State) : Prop :=
  ∀ b : BayNo,
    ((s.line b).sent.drive.on = true ∧ (s.bay b).drive.on = false) ∨
    ((s.line b).sent.drive.on = true ∧ (s.bay b).drive.on = true ∧ (s.grant b).granted < (s.line b).sent.units) ∨
    (s.line b).sent.drive.latchOpen ≠ (s.bay b).drive.latchOpen → b ∈ s.scanner.prompt

/-- A bay is in FAULT exactly while its record is latched (R140) and holds a session exactly in ASSESS, CHARGE and
MAINTAIN (R35); a pre-issue state is kept in RELEASE only (R45), and only CHARGE and MAINTAIN ask for power (R37). -/
abbrev State.BaysOk (s : State) : Prop :=
  ∀ b : BayNo, ((s.bay b).state = .fault ↔ (s.faultRec b).isSome = true) ∧
    ((s.bay b).session.isSome = (s.bay b).inSession) ∧
    ((s.bay b).preIssue.isSome = true → (s.bay b).state = .release) ∧
    ((s.grant b).request ≠ 0 → (s.bay b).state = .charge ∨ (s.bay b).state = .maintain)

/-- The dispatcher's lists keep their bounds and orders, and the prompt list holds no bay twice (R118, R133, R161). -/
abbrev State.ListsOk (s : State) : Prop :=
  s.disp.issues.length ≤ Config.maxIssues ∧ (s.disp.issues.map (·.machine)).Nodup ∧
  s.disp.reservations.length ≤ Config.maxReservations ∧
  s.disp.reservations.Pairwise (fun v w => v.due ≤ w.due) ∧ s.scanner.prompt.Nodup

/-- Every class's shortage state is the one its ready count, its reservations and the depot minute give (R117). -/
abbrev State.ShortagesOk (s : State) : Prop := ∀ c : ClassNo, s.disp.short[c] = s.isShort c

/-- Every bay's level is the one R96 gives it. -/
abbrev State.LevelsOk (s : State) : Prop := ∀ b : BayNo, (s.grant b).level = s.levelOf b

/-- Every class's ready count is handed to the dispatcher as it is (R11). -/
abbrev State.ReadyHanded (s : State) : Prop := ∀ c : ClassNo, s.disp.ready[c] = s.readyCount c

/-- The registered pack a bay runs has a record, and it names the bay as its place. -/
def State.identityPlaced (s : State) (b : BayNo) : Bool :=
  match (s.bay b).identity with
  | .registered t => decide ((s.pack t).map (·.place) = some (.bay b))
  | _ => true

/-- Every registered pack's own record names the bay that runs it (R28). The rules themselves leave it in one corner (log
entry 42), so it is a premise and no step keeps it. -/
abbrev State.IdentitiesPlaced (s : State) : Prop := ∀ b : BayNo, s.identityPlaced b = true

/-- A pack of a TAKEN part is not ready (R126; log entry 42). -/
abbrev State.TakenNotReady (s : State) : Prop :=
  ∀ i ∈ s.disp.issues, ∀ p ∈ i.parts, p.state = .taken → ((p.pack.bind s.pack).map s.packReady).getD false = false

/-- A class record's floor lies within Table 1-1, where there is a record. -/
def floorInRange (r : Option ClassRec) : Bool := (r.map fun r => between 1 r.floor 20).getD true

/-- A write on its way carries a floor within Table 1-1, where it carries one. -/
def StoreWrite.floorInRange : StoreWrite → Bool
  | .cls _ r => Machine.floorInRange (some r)
  | _ => true

/-- Requests and grants reach their floors (R106, law 3), and every floor lies within Table 1-1. -/
abbrev State.FloorsOk (s : State) : Prop :=
  s.FloorsMet ∧ (∀ c : ClassNo, floorInRange (s.classRec c) = true ∧ floorInRange s.store.classes[c] = true) ∧
  ∀ w ∈ s.inFlight, w.floorInRange = true

/-- The register and every image that a loss of power can leave hold at most 96 records, and the store with its writes
completed holds those of the working register (R5, R21). -/
abbrev State.RecordsFit (s : State) : Prop :=
  s.register.packs.length ≤ Config.maxPacks ∧
  (∀ n ≤ s.inFlight.length, (s.store.applyAll (s.inFlight.take n)).packs.length ≤ Config.maxPacks) ∧
  (s.powered = true → s.restoring = false →
    (s.store.applyAll s.inFlight).packs.map (·.tag) = s.register.packs.map (·.tag))

/-! ## Expected results -/

/-- A bay whose session starts for a pack of class `cr` (R35, R60): CHARGE at stage 0 where its charge is known, else
ASSESS with no stage. -/
def State.startedAt (u : State) (b : BayNo) (cr : ClassRec) (warm : Bool) : State :=
  let pr := u.profile cr.profile
  let base := (pr.stage 0).bind fun st => chargeBase cr.capacity st.chargeLimit
  let opened := Session.fresh cr.profile warm .none
  let se := if u.knownAt b then opened.entered 0 u.now base true else opened
  (u.modBay b fun y =>
      { y with state := if u.knownAt b then .charge else .assess, session := some se, outcome := .none,
               coolExpiry := none, preIssue := none }).modGrant b fun e =>
    { e with mode := pr.header.mode, turnLength := some pr.header.turnLength }

/-- A bay without its session, and its grant entry without what the session gave it (R40, R107). -/
def State.withoutSession (u : State) (b : BayNo) : State :=
  if (u.bay b).session.isSome then
    (u.modBay b fun y => { y with session := none }).modGrant b fun e =>
      { e with mode := .hold, turnLength := none, request := 0 }
  else u

/-- Two states with the same configuration: class records, profiles, bay configurations, caps, scheme, the dispatcher's and
the scanner's settings, and the attention mask. -/
def State.SameConfig (s t : State) : Prop :=
  t.register.classes = s.register.classes ∧ t.profiles = s.profiles ∧ (∀ b, (t.bay b).cfg = (s.bay b).cfg) ∧
  t.alloc.siteCap = s.alloc.siteCap ∧ t.alloc.scheme = s.alloc.scheme ∧ t.alloc.feederCaps = s.alloc.feederCaps ∧
  t.disp.lookahead = s.disp.lookahead ∧ t.disp.window = s.disp.window ∧
  t.scanner.scanInterval = s.scanner.scanInterval ∧ t.link.mask = s.link.mask

/-- What the end of entry `i` by lapse or cancel leaves (R46, R129, R130): no entry of its machine; no mark on a pack of
a part that was not DONE; a TAKEN pack UNACCOUNTED with attention; an OPEN part's bay back in STANDBY with its outcome,
or in MAINTAIN at the maintain stage of a new session, with its latch locked, in STANDBY with COMPLETE where the profile
names no such stage, or in FAULT where it is undefined or invalid; and the rotation lists, the reservations,
the configuration, the clocks, the line records, every other pack's record but for its mark, and every bay the entry does
not name as they were. -/
def State.EntryEnded (s : State) (i : Issue) (t : State) : Prop :=
  (∀ x ∈ t.disp.issues, x.machine ≠ i.machine) ∧ t.disp.reservations = s.disp.reservations ∧
  t.register.rotation = s.register.rotation ∧ s.SameConfig t ∧ t.scanner.lines = s.scanner.lines ∧
  t.now = s.now ∧ t.minute = s.minute ∧
  (∀ p ∈ i.parts, ∀ g r, p.pack = some g → p.state ≠ .done → t.pack g = some r → r.mark = none) ∧
  (∀ p ∈ i.parts, ∀ g r, p = ⟨some g, .taken⟩ → t.pack g = some r →
    r.place = .unaccounted ∧ t.link.edges.unaccounted = true) ∧
  (∀ p ∈ i.parts, ∀ b e, p.state = .openAt b → (s.bay b).preIssue = some (.standby e) →
    (t.bay b).state = .standby ∧ (t.bay b).outcome = e ∧ (t.bay b).drive.latchOpen = false) ∧
  (∀ p ∈ i.parts, ∀ b cr k, p.state = .openAt b → (s.bay b).preIssue = some .maintain → s.classAt b = some cr →
    (s.profile cr.profile).valid = true → (s.profile cr.profile).header.maintain = some k →
    (t.bay b).state = .maintain ∧ (t.bay b).drive.latchOpen = false ∧
    (t.bay b).session.map (fun se => (se.stage, se.outcome, se.warm, se.sessionServed)) =
      some (some k, .complete, false, 0)) ∧
  (∀ p ∈ i.parts, ∀ b cr, p.state = .openAt b → (s.bay b).preIssue = some .maintain → s.classAt b = some cr →
    (s.profile cr.profile).valid = true → (s.profile cr.profile).header.maintain = none →
    (t.bay b).state = .standby ∧ (t.bay b).outcome = .complete ∧ (t.bay b).drive.latchOpen = false) ∧
  (∀ p ∈ i.parts, ∀ b, p.state = .openAt b → (s.bay b).preIssue = some .maintain →
    (∀ cr, s.classAt b = some cr → (s.profile cr.profile).valid = false) →
    (t.bay b).state = .fault ∧ (t.bay b).session = none ∧ ∃ f, t.faultRec b = some f ∧ f.first = .profile) ∧
  (∀ g, (∀ p ∈ i.parts, p.pack ≠ some g) →
    (t.pack g).map (fun r => { r with mark := none }) = (s.pack g).map fun r => { r with mark := none }) ∧
  ∀ b, (∀ p ∈ i.parts, p.state ≠ .openAt b) →
    (t.bay b).outline = (s.bay b).outline ∧ (t.grant b).outline = (s.grant b).outline ∧ t.faultRec b = s.faultRec b

/-- What a taken issue to machine `m` leaves (R45, R122): the entry at the tail with an OPEN part for each picked bay and
its lapse time; each registered pack marked; each picked bay in RELEASE with its latch open, its pre-issue state
recorded and no session; no write; and the configuration and every other bay, mark and list as it was. -/
def State.IssuedTo (t s : State) (m : Nat) (c : Option ClassNo) (ps : List Pick) : Prop :=
  t.disp.issues = s.disp.issues ++
    [⟨m, c, ps.map fun p => ⟨p.tag, .openAt p.bay⟩, s.now, s.now + s.disp.window * 1000⟩] ∧
  (∀ p ∈ ps, (t.bay p.bay).state = .release ∧ (t.bay p.bay).session = none ∧
    (t.bay p.bay).drive = ⟨false, 0, 0, true, .release⟩ ∧ (t.grant p.bay).request = 0 ∧
    (t.bay p.bay).identity = (s.bay p.bay).identity ∧ t.faultRec p.bay = s.faultRec p.bay ∧
    ((ps.map Pick.bay).Nodup → (t.bay p.bay).preIssue =
      some (if (s.bay p.bay).state = .maintain then .maintain else .standby (s.bay p.bay).outcome))) ∧
  (∀ p ∈ ps, ∀ g r, p.tag = some g → s.pack g = some r → t.pack g = some { r with mark := some m }) ∧
  (∀ g, (∀ p ∈ ps, p.tag ≠ some g) → t.pack g = s.pack g) ∧
  t.register.rotation = s.register.rotation ∧ t.inFlight = [] ∧ s.SameConfig t ∧
  t.scanner.lines = s.scanner.lines ∧ t.now = s.now ∧ t.minute = s.minute ∧ t.link.edges = s.link.edges ∧
  ∀ b, (∀ p ∈ ps, p.bay ≠ b) → (t.bay b).outline = (s.bay b).outline ∧
    (t.grant b).outline = (s.grant b).outline ∧ t.faultRec b = s.faultRec b

/-- What confirming entry `i` leaves (R124, R127, R128): its TAKEN packs at its machine, unmarked, with that machine as
their last, at the tails of their lists in part order, and with record and charge written; the entry gone, and every
other entry that has a part not DONE kept; every other record as it was; and nothing changed outside the register, the
issue list, the writes and the link unit. -/
def State.Confirmed (t s : State) (i : Issue) (kind : Byte) : Prop :=
  let tags := (i.parts.filter Part.isTaken).filterMap (·.pack)
  (∀ x ∈ t.disp.issues, x.machine ≠ i.machine) ∧
  (∀ x ∈ s.disp.issues, x.machine ≠ i.machine → (∃ p ∈ x.parts, p.state ≠ .done) → x ∈ t.disp.issues) ∧
  (∀ g ∈ tags, ∀ r, s.pack g = some r →
    t.pack g = some { r with place := .machine i.machine, mark := none, lastMachine := some i.machine } ∧
    StoreWrite.pack { r with place := .machine i.machine, mark := none, lastMachine := some i.machine } ∈ t.inFlight ∧
    StoreWrite.charge g r.charge ∈ t.inFlight) ∧
  (∀ g, g ∉ tags → t.pack g = s.pack g) ∧
  (∀ c : ClassNo,
    let mine := tags.filter fun g => decide ((s.pack g).map (·.cls) = some c)
    t.rotation c = (s.rotation c).filter (fun g => decide (g ∉ mine)) ++ mine.dedup) ∧
  t.link = { s.link with receiver := .hunt, reply := some ⟨kind + 0x80, .ok, u2 i.machine ++
    [u1 (i.parts.filter Part.isTaken).length] ++
    (i.parts.filter Part.isTaken).flatMap fun p => u2 (p.pack.getD 0)⟩ } ∧
  t.register.classes = s.register.classes ∧
  ({ t with register := s.register, inFlight := [], link := s.link
            disp := { t.disp with issues := s.disp.issues } } : State) = s.settle

/-! ## Good reports -/

/-- The bytes come in during the slot `x` of a running part and make the good report `rep` of its bay (R159). -/
abbrev State.Hears (s : State) (x : Slot) (bytes : List Byte) (rep : Report) : Prop :=
  s.running = true ∧ s.scanner.slot = some x ∧ 11 ≤ bytes.length ∧ s.now ≤ x.sentAt + 30 ∧
  judgeReport x.bay (bytes.take 11) = some rep

/-- A report that raises neither STAGE_ALARM nor INTERLOCK as the answer of a bay (R141). -/
abbrev State.Calm (s : State) (b : BayNo) (rep : Report) : Prop :=
  rep.alarm = false ∧ (rep.latchEngaged = true ∨ (s.line b).sent.drive.on = false)

/-- A report that raises neither OVERTEMP nor OVERVOLT under a class (R141). -/
abbrev ClassRec.Bears (cr : ClassRec) (rep : Report) : Prop :=
  rep.tm < cr.abortLimit ∧ rep.vm * 10 ≤ (cr.maxCell + 50) * cr.cells

/-- A calm report shows a pack in a bay that runs none yet: VACANT or IDENTIFY, with nothing to reconcile (R30, R31). -/
abbrev State.Identifies (s : State) (x : Slot) (bytes : List Byte) (rep : Report) : Prop :=
  s.Hears x bytes rep ∧ s.BaysOk ∧ ((s.bay x.bay).state = .vacant ∨ (s.bay x.bay).state = .identify) ∧
  (s.bay x.bay).identity = .empty ∧ (s.bay x.bay).reconcile = .no ∧ rep.present = true ∧ s.Calm x.bay rep

/-- A bay in FAULT with a record of kind `k` that names no session and no registered pack: an identification that failed
(R13, R15, R16, R143). -/
def State.NotIdentified (t : State) (b : BayNo) (k : FaultKind) (c : Option ClassNo) (tag : Option Nat) : Prop :=
  (t.bay b).state = .fault ∧ (t.bay b).session = none ∧ (t.bay b).identity = .empty ∧
  ∃ f, t.faultRec b = some f ∧ f.first = k ∧ f.secondary = [] ∧ f.cls = c ∧ f.pack = .unidentified tag ∧ f.held = true ∧
    f.stage = none ∧ f.latchTime = t.now

/-- A known tag's record after it is accepted in bay `b` (R9, R14). -/
def PackRec.accepted (r : PackRec) (b : BayNo) (flooded : Prop) [Decidable flooded] : PackRec :=
  match r.place, r.mark with
  | .machine _, none =>
    { r with place := .bay b, known := false, returns := min 65535 (r.returns + 1)
             equalize := if flooded then min 255 (r.equalize + 1) else r.equalize }
  | .bay b', _ => { r with place := .bay b, mark := none, known := if b' = b then r.known else false }
  | _, _ => { r with place := .bay b, mark := none, known := false }

/-- The issue list after the pack `g` of machine `m` is docked: its part is out, OPEN or TAKEN, and complete entries are gone
(R14, R118, R132; log entry 23). -/
def withoutDocked (m g : Nat) (l : List Issue) : List Issue :=
  (l.map fun i => if i.machine = m then
      { i with parts := i.parts.filter fun p => decide (¬ (p.pack = some g ∧ p.state ≠ .done)) }
    else i).filter fun i => !i.parts.all fun p => decide (p.state = .done)

/-- The issue list after the pack of bay `b` is removed from RELEASE: its OPEN part is in state `st`, and complete entries
are gone (R118, R125). -/
def withRemoved (b : BayNo) (st : PartState) (l : List Issue) : List Issue :=
  (l.map fun i => { i with parts := i.parts.map fun p => if p.state = .openAt b then { p with state := st } else p }).filter
    fun i => !i.parts.all fun p => decide (p.state = .done)

/-- Every record that names bay `b` is UNACCOUNTED, and every other is as it was. -/
def State.LostAt (t s : State) (b : BayNo) : Prop :=
  ∀ g, t.pack g = (s.pack g).map fun r => if r.place = .bay b then { r with place := .unaccounted } else r

/-- What a report that shows no pack leaves of bay `b` (R32, R46, R47, R125, R149): the bay VACANT with its latch open;
the record UNACCOUNTED with TAKEN and without a write of the charge from a latched state, with TAKEN from IDENTIFY only
where a record names the bay, and with no attention from FAULT, where the bay stays; from RELEASE the part DONE and
confirmed under AUTO, TAKEN under MANUAL. -/
def State.PackLeft (t s : State) (b : BayNo) : Prop :=
  let y := s.bay b
  (y.state ≠ .vacant → y.state ≠ .fault → y.state ≠ .masked →
    (t.bay b).state = .vacant ∧ (t.bay b).session = none ∧ (t.bay b).identity = .empty ∧ (t.bay b).outcome = .none ∧
    (t.bay b).dockTime = none ∧ (t.bay b).coolExpiry = none ∧ (t.bay b).drive = ⟨false, 0, 0, true, .off⟩ ∧
    (t.grant b).request = 0) ∧
  (y.state = .identify → t.LostAt s b ∧
    t.link.edges = if (s.packsAt b).isEmpty then s.link.edges else { s.link.edges with taken := true }) ∧
  (y.state = .cooling ∨ y.state = .standby ∨ y.inSession = true →
    t.link.edges = { s.link.edges with taken := true } ∧ t.disp.issues = s.disp.issues ∧
    (∀ g r, y.identity = .registered g → s.pack g = some r →
      t.pack g = some { r with place := .unaccounted } ∧ t.inFlight = [.pack { r with place := .unaccounted }]) ∧
    ∀ g, y.identity ≠ .registered g → t.pack g = s.pack g) ∧
  (y.state = .release → t.link.edges = s.link.edges ∧
    t.disp.issues = withRemoved b (if y.cfg.manual then .taken else .done) s.disp.issues ∧
    ∀ i g r, s.disp.issues.find? (fun i => i.parts.any (Part.openIn b)) = some i →
      i.parts.filter (Part.openIn b) = [⟨some g, .openAt b⟩] → s.pack g = some r →
      (∀ x, x ≠ g → t.pack x = s.pack x) ∧
      (y.cfg.manual = false →
        t.pack g = some { r with place := .machine i.machine, mark := none, lastMachine := some i.machine } ∧
        t.rotation r.cls = (s.rotation r.cls).filter (fun x => decide (x ≠ g)) ++ [g] ∧
        .charge g r.charge ∈ t.inFlight) ∧
      (y.cfg.manual = true → t.pack g = some { r with place := .machine i.machine } ∧
        t.register.rotation = s.register.rotation ∧ t.inFlight = [.pack { r with place := .machine i.machine }])) ∧
  ∀ f, y.state = .fault → s.faultRec b = some f →
    (t.bay b).state = .fault ∧ t.link.edges = s.link.edges ∧
    (if f.held then t.LostAt s b else ∀ g, t.pack g = s.pack g) ∧
    (t.faultRec b).map (fun r => (r.first, r.latchTime, r.stage, r.pack, r.cls, r.held)) =
      some (f.first, f.latchTime, f.stage, f.pack, f.cls, false)

/-- What the first report after a restart or UNMASK BAY leaves of the records that name bay `b` (R23, R44, R148): a record
of another tag than the shown one UNACCOUNTED and written, with UNACCOUNTED after a restart and TAKEN after UNMASK BAY; a
VACANT bay reconciled; and a bay in FAULT reconciled unless the report shows the tag of such a record. -/
def State.Reconciled (t s : State) (b : BayNo) (rep : Report) : Prop :=
  (∀ g r, s.pack g = some r → r.place = .bay b → (if rep.present then some rep.tag else none) ≠ some g →
    t.pack g = some { r with place := .unaccounted } ∧ .pack { r with place := .unaccounted } ∈ t.inFlight ∧
    ((s.bay b).reconcile = .restore → t.link.edges.unaccounted = true) ∧
    ((s.bay b).reconcile = .unmask → t.link.edges.taken = true)) ∧
  ((s.bay b).state = .vacant → (t.bay b).reconcile = .no) ∧
  ((s.bay b).state = .fault →
    ((t.bay b).reconcile = .no ↔ ∀ r, s.pack rep.tag = some r → r.place = .bay b → rep.present = false))

/-- What a miss of slot `x` leaves (R159, R164, R167): the slot over, the miss counted, the third in a row latched or joined
as STAGE_LOST, and no report delivered. -/
def State.MissTaken (t s : State) (x : Slot) : Prop :=
  t.scanner.slot = none ∧ s.SameConfig t ∧ t.link.reply = s.link.reply ∧
  (∀ b, (t.bay b).latest = (s.bay b).latest) ∧
  (∀ b, b ≠ x.bay → (t.bay b).outline = (s.bay b).outline ∧ t.line b = s.line b ∧ t.faultRec b = s.faultRec b ∧
    (t.grant b).outline = (s.grant b).outline) ∧
  ((s.bay x.bay).state = .masked → t.scanner.lines = s.scanner.lines ∧ t.bays = s.bays ∧ t.faults = s.faults) ∧
  ((s.bay x.bay).state ≠ .masked → (t.line x.bay).misses = min 3 ((s.line x.bay).misses + 1) ∧
    ((s.line x.bay).misses ≠ 2 → t.bays = s.bays ∧ t.faults = s.faults ∧ t.alloc = s.alloc ∧ t.register = s.register) ∧
    ((s.line x.bay).misses = 2 → s.BaysOk → s.DrivesOk →
      (t.bay x.bay).state = .fault ∧ (t.bay x.bay).drive = ⟨false, 0, 0, true, .fault⟩ ∧
      ∃ r, t.faultRec x.bay = some r ∧ .stageLost ∈ r.kinds ∧ s.kindPresent x.bay r .stageLost = false ∧
        t.kindPresent x.bay r .stageLost = true))

/-! ## Who writes the configuration (Table 9-4) -/

/-- The rows that write class records. -/
def writesClasses : Instr → Bool
  | .setClass _ _ => true
  | .setOcv _ _ => true
  | .frameComplete _ _ _ => true
  | _ => false

/-- The rows that write profiles and stages. -/
def writesProfiles : Instr → Bool
  | .setProfile _ _ => true
  | .setStage _ _ _ => true
  | .frameComplete _ _ _ => true
  | _ => false

/-- The rows that write bay configurations. -/
def writesBayCfgs : Instr → Bool
  | .setBay _ _ => true
  | .maskBay _ => true
  | .unmaskBay _ => true
  | .frameComplete _ _ _ => true
  | _ => false

/-- The rows that write the site settings. -/
def writesSite : Instr → Bool
  | .setSite _ => true
  | .frameComplete _ _ _ => true
  | _ => false

/-- The rows that write feeder caps. -/
def writesFeeders : Instr → Bool
  | .setFeeder _ _ => true
  | .frameComplete _ _ _ => true
  | _ => false

/-- The rows that write the attention mask. -/
def writesMask : Instr → Bool
  | .setAttentionMask _ => true
  | .frameComplete _ _ _ => true
  | _ => false

end Sys2Proof.Machine
end

