-- ==== Sys2Proof/Certificates/Slice0/Obligations.lean ====
section
/-! DEFINITION. The statements about the PR-24 for the provers. In each, `s.settle` is the state in which the event is
taken: the same part with the writes of earlier events completed (log entry 5). -/

section

open Sys2Proof Sys2Proof.Machine

/-! ## The step, reset and the depot link -/

/-- A step takes the command at the front of the queue and leaves the rest waiting (the model's queue, log entry 1). -/
def Obligations.StepTakesFrontCommand : Prop :=
  ∀ (s : State) (c : Instr) (cs : List Instr), s.pending = c :: cs → step s = exec c { s with pending := cs }

/-- With an empty queue a running part with nothing due counts one millisecond, and a part that is not running waits
(the model's choice, log entry 2). -/
def Obligations.IdleStepRunsClock : Prop :=
  ∀ s : State, s.pending = [] →
    (s.running = true → s.due = [] → step s = .next { s.settle with now := s.now + 1 }) ∧
    (s.running = true → ∀ e es, s.due = e :: es → step s = .next { s with pending := [e] }) ∧
    (s.running = false → step s = .next s)

/-- What reset leaves: Table 2-2's last column at every bay, Table 5-1's at every grant entry, the scanner's record of every
bay unused, empty tables, queues and lists, clear flags, every setting, class, profile and bay configuration as delivered,
and a store that holds just that. Reset is taken to be the end of the restore after the first power-on (the model's
choice, log entry 4); the kept target and setpoint are left open here (log entry 17). -/
def Obligations.ResetIsAsDelivered : Prop :=
  let s := State.reset
  let header : Header := ⟨0, .hold, 10, none, 720⟩
  let cfg : BayCfg := ⟨none, 0, 0, false, false⟩
  (∀ b, ∃ target iset, s.bay b =
    { cfg := cfg, state := .vacant, identity := .empty, outcome := .none, preIssue := none, dockTime := none
      attempts := 0, coolExpiry := none, coolEntry := none, latest := none, reconcile := .restore, session := none
      drive := ⟨false, 0, 0, true, .off⟩, keptTarget := target, keptIset := iset, gapCount := 0 }) ∧
    (∀ b, s.grant b = ⟨0, 0, 0, 0, .hold, none, none, false⟩ ∧ s.faultRec b = none ∧
      s.line b = ⟨0, ⟨⟨false, 0, 0, true, .off⟩, 0, none⟩, none, false, false⟩) ∧
    (∀ c, s.classRec c = none ∧ s.rotation c = [] ∧ s.disp.short[c] = false ∧ s.disp.ready[c] = 0) ∧
    (∀ p, (s.profile p).header = header ∧ ∀ k, (s.profile p).stage k = none) ∧
    s.register.packs = [] ∧ s.disp.issues = [] ∧ s.disp.reservations = [] ∧ s.scanner.prompt = [] ∧
    (∀ l : LevelNo, s.alloc.queues[l] = []) ∧ s.alloc.shed = none ∧ (∀ f, s.feederCap f = 0) ∧
    s.alloc.hold = some 3000 ∧ s.now = 0 ∧ s.minute = 0 ∧ s.running = true ∧ s.link.receiver = .hunt ∧
    s.link.reply = none ∧ s.txBytes = [] ∧ s.attnLow = false ∧ (∀ k, s.flagSet k = false) ∧
    (∀ k : Fin 8, s.link.mask[k] = false) ∧ s.alloc.siteCap = 0 ∧ s.alloc.scheme = .fixed ∧ s.disp.lookahead = 60 ∧
    s.disp.window = 120 ∧ s.scanner.scanInterval = 1000 ∧ s.inFlight = [] ∧ s.pending = [] ∧
    s.store.site = ⟨0, .fixed, 60, 120, 1000⟩ ∧ s.store.feederCaps = s.alloc.feederCaps ∧
    s.store.classes = s.register.classes ∧ s.store.profiles = s.profiles ∧ (∀ b : BayNo, s.store.bayCfgs[b] = cfg) ∧
    s.store.mask = s.link.mask ∧ s.store.packs = [] ∧ s.store.rotation = s.register.rotation

/-- The state after reset meets every invariant that the steps keep, and every premise that a step's statement asks of the
register, the identities and the issue list. -/
def Obligations.ResetMeetsInvariants : Prop :=
  (State.reset.GrantTableOk ∧ State.reset.RegisterOk ∧ State.reset.DrivesOk ∧ State.reset.BaysOk ∧
    State.reset.ListsOk ∧ State.reset.ShortagesOk) ∧
  State.reset.LevelsOk ∧ State.reset.FloorsOk ∧ State.reset.RecordsFit ∧ State.reset.ReadyHanded ∧
    State.reset.IdentitiesPlaced ∧ State.reset.TakenNotReady ∧ State.reset.LowersListed

/-- The receiver's two states and the end of a reply: a start marker takes the receiver from HUNT to FRAME, a gap or a
length byte of 0 or above 62 abandons a frame without reply or attention, and once the reply's last byte has left the
unit is not busy. -/
def Obligations.LinkEventsMoveTheReceiver : Prop :=
  ∀ s : State, s.running = true →
    (s.link.receiver = .hunt →
      exec .startMarkerReceived s = .next { s.settle with link := { s.link with receiver := .frame } }) ∧
    (s.link.receiver = .frame →
      exec .byteGapTimeout s = .next { s.settle with link := { s.link with receiver := .hunt } } ∧
      ∀ l : Byte, (l.toNat = 0 ∨ 62 < l.toNat) →
        exec (.lengthOutOfRange l) s = .next { s.settle with link := { s.link with receiver := .hunt } }) ∧
    ∃ t, exec .replySent s = .next t ∧ t.busy = false ∧ t = { s.settle with link := { s.link with reply := none } }

/-- The first three results of judging a frame: CHECK, KIND and LENGTH, each answered by one reply and nothing else. -/
def Obligations.FrameRefusedByLinkUnit : Prop :=
  ∀ (s : State) (kind check : Byte) (body : List Byte), s.accepts → s.link.receiver = .frame → body.length ≤ 61 →
    let sum := u1 (body.length + 1) + (kind + (sumBytes body + check))
    let answer := fun st : Status =>
      { s.settle with link := { s.link with receiver := .hunt, reply := some ⟨kind + 0x80, st, []⟩ } }
    (sum ≠ 0 → exec (.frameComplete kind body check) s = .next (answer .check)) ∧
    (sum = 0 → layoutOf kind.toNat = none → exec (.frameComplete kind body check) s = .next (answer .kind)) ∧
    (sum = 0 → ∀ p, layoutOf kind.toNat = some p → p body = none →
      exec (.frameComplete kind body check) s = .next (answer .length))

/-- A complete, correctly framed command frame acts exactly as the command it spells: no bit of a body is dropped, and
the frame's event has the command's own next state (a command row stands for its whole frame: log entry 1). -/
def Obligations.FrameActsAsItsCommand : Prop :=
  ∀ (s : State) (c : Instr) (kind : Byte) (body : List Byte), c.wf = true → frameOf c = some (kind, body) →
    s.link.receiver = .frame →
    parseCommand kind body = .command c ∧
    ∃ t, exec (.frameComplete kind body (checkByte kind body)) s = .next t ∧ exec c s = .next t

/-- While the link unit is busy a frame that completes is discarded with attention LINK, and gets no reply
(a command row stands for its whole frame: log entry 1). -/
def Obligations.BusyUnitDiscardsFrames : Prop :=
  ∀ s : State, s.running = true → s.busy = true →
    let t := { s.settle with
      link := { s.link with receiver := .hunt, edges := { s.link.edges with link := true } } }
    (s.link.receiver = .frame → exec .frameDiscardedBusy s = .next t ∧
      ∀ (kind check : Byte) (body : List Byte), body.length ≤ 61 →
        exec (.frameComplete kind body check) s = .next t) ∧
    ∀ c : Instr, (frameOf c).isSome = true → exec c s = .next t

/-- A command that its owner refuses is answered with the status and leaves the state as it was. -/
def Obligations.RefusedCommandChangesNothing : Prop :=
  ∀ (s : State) (c : Instr) (kind : Byte) (body : List Byte) (owner : State → Answer) (st : Status), s.accepts →
    frameOf c = some (kind, body) → ownerOf c = some owner → owner s.settle = .refused st →
    exec c s =
      .next { s.settle with link := { s.link with receiver := .hunt, reply := some ⟨kind + 0x80, st, []⟩ } }

/-! ## Power, RESET and restore -/

/-- POWER_ON starts the restore with all working state at its power-on values; POWER_LOSS and RESET low complete a first
part of the writes on their way and lose everything that is not in the store; the release of RESET lets the restore
begin; and until the restore ends the part does not run, and no other event changes anything. How many writes are
completed, and that a part without its working state holds power-on values, is the model's choice (log entries 5, 6). -/
def Obligations.SupplyAndResetPin : Prop :=
  ∀ s : State,
    (s.powered = false → exec .powerOn s = .next
      { State.bootFrom Store.delivery with
          powered := true, resetLow := s.resetLow, restoring := true, store := s.store, freeDraw := s.freeDraw
          pending := s.pending }) ∧
    (s.powered = true → ∀ n, exec (.powerLoss n) s = .next
      { State.bootFrom Store.delivery with
          powered := false, resetLow := s.resetLow, restoring := false
          store := s.store.applyAll (s.inFlight.take n), freeDraw := s.freeDraw, pending := s.pending }) ∧
    (s.powered = true → s.resetLow = false → ∀ n, exec (.resetPinAssert n) s = .next
      { State.bootFrom Store.delivery with
          resetLow := true, restoring := true, store := s.store.applyAll (s.inFlight.take n)
          freeDraw := s.freeDraw, pending := s.pending }) ∧
    (s.powered = true → s.resetLow = true → s.restoring = true → ∃ t, exec .resetPinRelease s = .next t ∧
      t.running = false ∧ t.restores = true ∧ t = { s.settle with resetLow := false }) ∧
    ∀ c : Instr, s.running = false → powerRow c = false → exec c s = .next s.settle

/-- The retained store and the end of the restore. A completed write replaces one image and leaves every other: a pack
record's keeps the image's stored charge and stores no mark, a charge's changes the charge alone. The end of the restore:
site settings, feeder caps, class records, profiles, bay configurations, mask, pack records and rotation lists come from
the store, every mark is none, a pack in a bay has charge known NO with that written, the clocks stand at 0, the startup
hold runs, every bay is VACANT or MASKED with nothing requested or carried, the lists and queues are empty, and every
shortage is computed. A rotation list is repaired: a tag without a record of its class is dropped, a record's tag that
stands in no list is appended at the tail, and the rest keeps its stored order. That shortages are computed at this event,
and that the repair looks at the class, is the model's reading (log entries 27 and 32). -/
def Obligations.RestoreSetsUpTheRack : Prop :=
  (∀ (st : Store) (r : PackRec) (g q : Nat) (l : List Nat) (c : ClassNo),
    (∃ ps, st.apply (.pack r) = { st with packs := ps } ∧ (∀ x, x ≠ r.tag → findPack ps x = findPack st.packs x) ∧
      findPack ps r.tag = some { r with
        mark := none, charge := ((findPack st.packs r.tag).map (·.charge)).getD r.charge }) ∧
    (∃ ps, st.apply (.charge g q) = { st with packs := ps } ∧
      ∀ x, findPack ps x = (findPack st.packs x).map fun p => if x = g then { p with charge := q } else p) ∧
    (∃ ps, st.apply (.packGone g) = { st with packs := ps } ∧
      ∀ x, findPack ps x = if x = g then none else findPack st.packs x) ∧
    st.apply (.rotation c l) = { st with rotation := st.rotation.set c l }) ∧
  (∀ (st : Store) (v : SiteSettings) (f : FeederNo) (cap : Nat) (c : ClassNo) (r : ClassRec) (p : ProfileNo)
    (h : Header) (k : StageNo) (g : Stage) (b : BayNo) (cfg : BayCfg) (m : Vector Bool 8),
    st.apply (.site v) = { st with site := v } ∧
    st.apply (.feederCap f cap) = { st with feederCaps := st.feederCaps.set f cap } ∧
    st.apply (.cls c r) = { st with classes := st.classes.set c (some r) } ∧
    st.apply (.header p h) = { st with profiles := st.profiles.set p ⟨h, st.profiles[p].stages⟩ } ∧
    st.apply (.stage p k g) =
      { st with profiles := st.profiles.set p ⟨st.profiles[p].header, st.profiles[p].stages.set k (some g)⟩ } ∧
    st.apply (.bayCfg b cfg) = { st with bayCfgs := st.bayCfgs.set b cfg } ∧ st.apply (.mask m) = { st with mask := m }) ∧
  ∀ s : State, s.restores = true → ∃ t, exec .restoreEnd s = .next t ∧ t.running = true ∧ t.now = 0 ∧ t.minute = 0 ∧
    t.alloc.hold = some 3000 ∧ t.register.classes = s.settle.store.classes ∧ t.profiles = s.settle.store.profiles ∧
    t.link.mask = s.settle.store.mask ∧ t.link.receiver = .hunt ∧ t.busy = false ∧ t.scanner.roundStart = 0 ∧
    (t.alloc.siteCap = s.settle.store.site.siteCap ∧ t.alloc.scheme = s.settle.store.site.scheme ∧
      t.disp.lookahead = s.settle.store.site.lookahead ∧ t.disp.window = s.settle.store.site.window ∧
      t.scanner.scanInterval = s.settle.store.site.scanInterval ∧ t.alloc.feederCaps = s.settle.store.feederCaps) ∧
    t.store = s.settle.store ∧ t.alloc.shed = none ∧ (∀ l : LevelNo, t.alloc.queues[l] = []) ∧
    t.disp.issues = [] ∧ t.disp.reservations = [] ∧ t.scanner.prompt = [] ∧ t.link.edges = Edges.clear ∧
    t.register.packs = s.settle.store.packs.map (fun r =>
      { r with mark := none, known := if r.place.isBay then false else r.known }) ∧
    (∀ r ∈ t.register.packs, r.place.isBay = true → .pack r ∈ t.inFlight) ∧
    (∀ b, (t.bay b).cfg = s.settle.store.bayCfgs[b] ∧ (t.bay b).reconcile = .restore ∧ t.faultRec b = none ∧
      (t.bay b).state = (if (t.bay b).cfg.masked then .masked else .vacant) ∧ (t.bay b).identity = .empty ∧
      (t.bay b).session = none ∧ (t.bay b).latest = none ∧ (t.line b).misses = 0 ∧
      t.grant b = ⟨0, 0, 0, (t.bay b).cfg.baseLevel, .hold, none, none, false⟩) ∧
    (∀ c, t.disp.ready[c] = 0 ∧ t.disp.short[c] = t.isShort c) ∧
    (s.settle.store.Sound → ∀ c, (t.rotation c).Nodup ∧
      ∃ kept added, t.rotation c = kept ++ added ∧ kept.Sublist s.settle.store.rotation[c] ∧
        (∀ g ∈ s.settle.store.rotation[c], g ∈ kept ↔ ∃ r ∈ t.register.packs, r.tag = g ∧ r.cls = c) ∧
        ∀ g, g ∈ added ↔ (g ∉ s.settle.store.rotation[c] ∧ ∃ r ∈ t.register.packs, r.tag = g ∧ r.cls = c))

/-! ## Attention -/

/-- Flag FAULT is SET while a bay's record is latched: a latch adds the bay, an emptied record takes it out, a secondary
kind changes neither the set nor the flag, and READ ATTENTION reports both and leaves both. -/
def Obligations.FaultFlagFollowsRecords : Prop :=
  ∀ s : State,
    (s.flagSet .fault = true ↔ ∃ b, b ∈ s.faultBays) ∧ (∀ b, b ∈ s.faultBays ↔ (s.faultRec b).isSome = true) ∧
    (∀ b k ks n f own x, x ∈ (s.latch b k ks n f own).faultBays ↔ (x = b ∨ x ∈ s.faultBays)) ∧
    (∀ b x, x ∈ (s.setFault b none).faultBays ↔ (x ≠ b ∧ x ∈ s.faultBays)) ∧
    (∀ b k, (s.joinFault b k).faultBays = s.faultBays ∧ (s.joinFault b k).flagSet .fault = s.flagSet .fault) ∧
    (s.accepts → ∃ t cs, exec .readAttention s = .next t ∧ t.link.reply = some ⟨0xB7, .ok, cs⟩ ∧
      cs.head? = some (yes (s.flagSet .fault)) ∧
      (∀ b : BayNo, ((cs.drop 8)[b.val / 8]?.map fun y => y.getLsbD (b.val % 8)) = some (s.faultRec b).isSome) ∧
      t.faultBays = s.faultBays ∧ t.flagSet .fault = s.flagSet .fault)

/-- READ ATTENTION shows every flag, both sets and the mask, clears every edge-type flag and the class set of SHORT, and
changes nothing else: flag FAULT and its set stay. -/
def Obligations.ReadAttentionClearsEdges : Prop :=
  ∀ s : State, s.accepts → ∃ t cs, exec .readAttention s = .next t ∧ cs.length = 20 ∧
    cs.take 8 = allCauses.map (fun k => yes (s.flagSet k)) ∧ cs.drop 12 = s.link.mask.toList.map yes ∧
    (∀ b : BayNo, ((cs.drop 8)[b.val / 8]?.map fun y => y.getLsbD (b.val % 8)) = some (s.faultRec b).isSome) ∧
    (∀ c : ClassNo, (cs[11]?.map fun y => y.getLsbD c.val) = some s.link.shortSet[c]) ∧
    (∀ k, k ≠ .fault → t.flagSet k = false) ∧ t.flagSet .fault = s.flagSet .fault ∧ t.faultBays = s.faultBays ∧
    t = { s.settle with link := { s.link with
            receiver := .hunt, reply := some ⟨0xB7, .ok, cs⟩, edges := Edges.clear
            shortSet := Vector.replicate 8 false } }

/-- SET ATTENTION MASK replaces and writes the mask and sets no flag; with a mark that is neither code it is refused
RANGE. -/
def Obligations.AttentionMaskIsSet : Prop :=
  ∀ (s : State) (m : Vector Nat 8), s.accepts →
    ((∀ i : Fin 8, m[i] ≤ 1) →
      let v : Vector Bool 8 := Vector.ofFn fun i => decide (m[i] = 1)
      exec (.setAttentionMask m) s = .next { s.settle with
        link := { s.link with receiver := .hunt, mask := v, reply := some ⟨0xB8, .ok, v.toList.map yes⟩ }
        inFlight := [.mask v] }) ∧
    ((∃ i : Fin 8, 1 < m[i]) →
      exec (.setAttentionMask m) s = .next { s.settle with
        link := { s.link with receiver := .hunt, reply := some ⟨0xB8, .range, []⟩ } })

/-! ## Clock events -/

/-- The startup hold ends at its time, and then a pass runs, which leaves lawful grants. A lost-stage expiry sets its bay's
carried value to 0; where that is a fall and a bay is WAITING or PARTIAL, a pass runs with it, and otherwise nothing else
changes. -/
def Obligations.HoldAndLostStageEnd : Prop :=
  ∀ s : State, s.running = true →
    (∀ e, s.alloc.hold = some e → e ≤ s.now →
      let u : State := { s.settle with alloc := { s.alloc with hold := none } }
      ∃ t, exec .startupHoldEnd s = .next t ∧ t = u.pass ∧ t.alloc.hold = none ∧
        (s.GrantTableOk → t.GrantTableOk ∧ t.passOutline = u.passOutline)) ∧
    (∀ b e, (s.line b).lostExpiry = some e → e ≤ s.now →
      let u : State := (s.settle.modLine b fun l => { l with lostExpiry := none }).modGrant b fun g =>
        { g with carried := 0 }
      let passes := 0 < (s.grant b).carried ∧ ∃ x : BayNo, (s.grant x).granted < (s.grant x).request
      ∃ t, exec (.lostStageExpiry b) s = .next t ∧ (passes → t = u.pass) ∧ (¬ passes → t = u) ∧
        (t.grant b).carried = 0 ∧ (t.line b).lostExpiry = none ∧
        (s.GrantTableOk → t.GrantTableOk ∧ t.passOutline = u.passOutline))

/-- The depot minute advances by 1: reservations 30 minutes overdue leave with MISSED, and every class's shortage is
computed with the new minute. RESERVATION_GRACE_EXPIRY does the same without advancing (log entry 7). -/
def Obligations.MinuteDropsOverdueReservations : Prop :=
  ∀ s : State, s.running = true →
    ((s.minute + 1) * 60000 ≤ s.now → ∃ t, exec .depotMinuteAdvance s = .next t ∧
      (∀ c, t.disp.short[c] = t.isShort c) ∧
      t.disp.reservations = s.disp.reservations.dropWhile (fun v => decide (v.due + 30 ≤ s.minute + 1)) ∧
      t.link.edges.missed = (s.link.edges.missed || decide (t.disp.reservations ≠ s.disp.reservations)) ∧
      t.outline = ({ s.settle with
        minute := s.minute + 1, disp := { s.disp with reservations := t.disp.reservations }
        link := { s.link with edges := { s.link.edges with missed := t.link.edges.missed } } } : State).outline) ∧
    (∀ v, s.disp.reservations.head? = some v → v.due + 30 ≤ s.minute →
      ∃ t, exec .reservationGraceExpiry s = .next t ∧ (∀ c, t.disp.short[c] = t.isShort c) ∧
      t.disp.reservations = s.disp.reservations.dropWhile (fun w => decide (w.due + 30 ≤ s.minute)) ∧
      t.outline = ({ s.settle with
        disp := { s.disp with reservations := t.disp.reservations }
        link := { s.link with edges := { s.link.edges with missed := true } } } : State).outline)

/-- A turn that runs out is renewed for its length when nobody of its level or above waits, and nothing else changes.
Otherwise the bay is released: its grant is 0 with its output off, its turn expiry none and its yield mark YES, it stands at
the tail of its queue, every other entry and queue is as it was, and then a pass runs, which leaves lawful grants; a bay
that this pass grants power again has lost its yield mark and starts a new turn. That the released bay's output goes off
before the pass, not with the grants handed on at its end, is the model's choice (log entry 51). -/
def Obligations.TurnIsRenewedOrReleased : Prop :=
  ∀ (s : State) (b : BayNo) (e : Nat), s.running = true → s.GrantTableOk → (s.grant b).turnExpiry = some e →
    e ≤ s.now →
    (s.rivalWaits b = false → exec (.turnExpiry b) s = .next
      (s.settle.modGrant b fun g => { g with turnExpiry := some (e + g.turnLength.getD 0 * 60000) })) ∧
    (s.rivalWaits b = true → ∃ u t : State, exec (.turnExpiry b) s = .next t ∧ t = u.pass ∧
      u.grant b = { s.grant b with granted := 0, turnExpiry := none, yielded := true } ∧
      (∀ x, x ≠ b → u.grant x = s.grant x) ∧ (u.bay b).drive.on = false ∧ u.outline = s.settle.outline ∧
      u.alloc.queues[(s.grant b).level] =
        (s.alloc.queues[(s.grant b).level]).filter (fun x => decide (x ≠ b)) ++ [b] ∧
      ((t.grant b).granted ≠ 0 → (t.grant b).yielded = false ∧
        (t.grant b).turnExpiry = some (s.now + (s.grant b).turnLength.getD 0 * 60000)) ∧
      ((t.grant b).granted = 0 → (t.grant b).turnExpiry = none) ∧
      (t.alloc.queues[(s.grant b).level]).getLast? = some b ∧ t.GrantTableOk ∧
      (∀ l, l ≠ (s.grant b).level → t.alloc.queues[l] = s.alloc.queues[l]) ∧
      (∀ x, (t.grant x).passOutline = (s.grant x).passOutline) ∧ t.outline = s.settle.outline)

/-- An entry whose lapse time is reached ends with LAPSED, and a taken CANCEL ISSUE ends it without: each part is treated
by its state, an OPEN part's bay returns to its pre-issue state or latches PROFILE, and the reply of the cancel names the
parts as it found them. That a profile counts as undefined where the record of the bay's pack is gone is the model's
reading (log entry 44). -/
def Obligations.LapseAndCancelEndAnEntry : Prop :=
  ∀ (s : State) (i : Issue), s.running = true → s.issueOf i.machine = some i →
    (i.lapse ≤ s.now → ∃ t, exec (.issueLapse i.machine) s = .next t ∧ s.EntryEnded i t ∧
      t.link.edges.lapsed = true ∧ t.link.reply = s.link.reply) ∧
    (s.busy = false → 1 ≤ i.machine → i.machine ≤ 999 → ∃ t, exec (.cancelIssue i.machine) s = .next t ∧
      s.EntryEnded i t ∧ t.link.edges.lapsed = s.link.edges.lapsed ∧
      t.link.reply = some ⟨0x9C, .ok, u2 i.machine ++ [u1 i.parts.length] ++
        i.parts.flatMap fun p => u2 (p.pack.getD 0) ++ [u1 p.state.code]⟩)

/-! ## The power allocator -/

/-- The order of a pass: every bay with a request above 0 once, level 3 first; within a level ascending bay numbers under
FIXED, the level's queue under ROTATING. -/
def Obligations.PassOrder : Prop :=
  ∀ s : State, s.QueuesAgree →
    (∀ b, b ∈ s.order ↔ 0 < (s.grant b).request) ∧ s.order.Nodup ∧
    s.order.Pairwise (fun x y => (s.grant y).level ≤ (s.grant x).level) ∧
    (s.alloc.scheme = .fixed →
      s.order.Pairwise (fun x y => (s.grant x).level = (s.grant y).level → x < y)) ∧
    (s.alloc.scheme = .rotating →
      ∀ l, s.order.filter (fun b => decide ((s.grant b).level = l)) = s.alloc.queues[l])

/-- A pass leaves the granted sums within the effective cap and the feeder caps, no grant above its request, and none at
a bay without a feeder; it keeps turns lawful; and it changes nothing but grants, turns, yield marks, drives and the
prompt list. -/
def Obligations.PassObeysTheCaps : Prop :=
  ∀ s : State, s.QueuesAgree → s.pass.GrantsLawful ∧ (s.TurnsOk → s.pass.TurnsOk) ∧
    s.pass.passOutline = s.passOutline

/-- A pass keeps every grant at 0 or at least at its bay's floor. It raises a grant only where the commitment totals,
counted with the raise, stay within the effective cap and the bay's feeder cap, and none while the startup hold runs. With
the hold over, and where all that is requested and carried fits the caps together, it grants every bay on a feeder its whole
request. And where no cap is exceeded and no URGENT bay on a feeder is left WAITING, it lowers no grant of a bay on a feeder
below the smaller of grant and request. -/
def Obligations.PassKeepsFloorsAndCommitment : Prop :=
  ∀ s : State,
    let wanted := fun b : BayNo => (s.grant b).request + (s.grant b).carried
    (s.FloorsMet → s.pass.FloorsMet) ∧
    (∀ b : BayNo, (s.grant b).granted < (s.pass.grant b).granted →
      s.alloc.hold = none ∧ s.pass.committed s.pass.grantedUnits allBays ≤ s.effectiveCap ∧
      ∃ f, s.feeder b = some f ∧ s.pass.committed s.pass.grantedUnits (s.feederBays f) ≤ s.feederCap f) ∧
    (s.alloc.hold = none → s.FloorsMet → s.QueuesAgree → sumOver allBays wanted ≤ s.effectiveCap →
      (∀ f, sumOver (s.feederBays f) wanted ≤ s.feederCap f) →
      ∀ b : BayNo, (s.feeder b).isSome = true → (s.pass.grant b).granted = (s.grant b).request) ∧
    (grantedSum allBays s.grantedUnits ≤ s.effectiveCap →
      (∀ f, grantedSum (s.feederBays f) s.grantedUnits ≤ s.feederCap f) →
      (∀ b : BayNo, (s.grant b).level = 3 → (s.feeder b).isSome = true → (s.grant b).request ≠ 0 →
        (s.pass.grant b).granted ≠ 0) →
      ∀ b : BayNo, (s.feeder b).isSome = true →
        min (s.grant b).granted (s.grant b).request ≤ (s.pass.grant b).granted)

/-- SHED starts, replaces or ends a shed with its clamped values and answers the effective cap that results; at the shed's
expiry the effective cap is the site cap again. Each pass leaves lawful grants. -/
def Obligations.ShedStartsAndEnds : Prop :=
  ∀ s : State, s.GrantTableOk →
    (∀ cap d : Nat, s.accepts →
      let c := min cap s.alloc.siteCap
      let v : Option ShedRec := if d = 0 then none else some ⟨c, s.now + min d 240 * 60000⟩
      ∃ t, exec (.shed cap d) s = .next t ∧ t.alloc.shed = v ∧ t.GrantTableOk ∧
        t.effectiveCap = (if d = 0 then s.alloc.siteCap else c) ∧
        t.passOutline = (({ s.settle with alloc := { s.alloc with shed := v } } : State).reply 0x20 .ok
          (u2 c ++ [u1 (min d 240)] ++ u2 t.effectiveCap)).passOutline) ∧
    (∀ v : ShedRec, s.running = true → s.alloc.shed = some v → v.expiry ≤ s.now →
      ∃ t, exec .shedExpiry s = .next t ∧ t.effectiveCap = s.alloc.siteCap ∧ t.GrantTableOk ∧
        t.passOutline = ({ s.settle with alloc := { s.alloc with shed := none } } : State).passOutline)

/-- SET FEEDER replaces, writes and echoes the clamped cap, and the grants stay lawful under it; a feeder number above 3
is refused RANGE. -/
def Obligations.SetFeederReplacesItsCap : Prop :=
  ∀ (s : State) (n cap : Nat), s.accepts → s.GrantTableOk →
    (∀ f : FeederNo, f.val = n → ∃ t, exec (.setFeeder n cap) s = .next t ∧ t.GrantTableOk ∧
      t.passOutline = (({ s.settle with
        alloc := { s.alloc with feederCaps := s.alloc.feederCaps.set f (min cap 600) }
        inFlight := [.feederCap f (min cap 600)] } : State).reply 0x02 .ok (u2 (min cap 600))).passOutline) ∧
    (3 < n → exec (.setFeeder n cap) s = .next (s.settle.reply 0x02 .range []))

/-- SET SITE replaces, writes and echoes the five settings with four of them clamped, lowers a running shed to the new
site cap, and leaves lawful grants and computed shortages. A new scan interval ends the wait that an overrun of the old
one asked for; that the value in force is no new one is the model's reading (log entry 38). -/
def Obligations.SetSiteReplacesItsSettings : Prop :=
  ∀ (s : State) (a : SiteArgs), s.accepts →
    (1 < a.scheme → exec (.setSite a) s = .next (s.settle.reply 0x01 .range [])) ∧
    (a.scheme ≤ 1 → s.GrantTableOk → s.ShortagesOk →
    let sch : Scheme := if a.scheme = 0 then .fixed else .rotating
    let v : SiteSettings := ⟨min a.siteCap 1200, sch, min a.lookahead 240, min 600 (max 30 a.window),
      min 2000 (max 250 a.scanInterval)⟩
    ∃ t, exec (.setSite a) s = .next t ∧ t.GrantTableOk ∧ t.ShortagesOk ∧
      t.outline = (({ s.settle with
        alloc := { s.alloc with siteCap := v.siteCap, scheme := sch, shed := s.alloc.shed.map fun x =>
          { x with cap := min x.cap v.siteCap } }
        disp := { s.disp with lookahead := v.lookahead, window := v.window }
        scanner := { s.scanner with
          scanInterval := v.scanInterval
          overrun := s.scanner.overrun && decide (v.scanInterval = s.scanner.scanInterval) }
        inFlight := [.site v] } : State).reply 0x01 .ok (u2 v.siteCap ++ [u1 a.scheme, u1 v.lookahead] ++
          u2 v.window ++ u2 v.scanInterval ++ u2 t.effectiveCap)).outline)

/-! ## Classes and profiles -/

/-- SET CLASS with fields in range and no session of the class: the record is replaced and written with the fields as
they are given, but for the clamped and cleared ones, and with its kept OCV table, no stored charge of the class exceeds
the new capacity, and no other class record, no rotation list, no pack's class, place or mark changes. -/
def Obligations.SetClassReplacesItsRecord : Prop :=
  ∀ (s : State) (c : ClassNo) (a : ClassArgs) (r : ClassRec), s.accepts → s.RegisterOk →
    readClass a ((s.classRec c).bind (·.ocv)) = some r → s.classBusy c = false →
    r.lowWater = min a.lowWater 32 ∧ r.matchWindow = (if a.twin = 0 then 0 else a.matchWindow) ∧
    r.equalizeInterval = (if a.chemistry = 0 then a.equalizeInterval else 0) ∧
    r.ocv = (s.classRec c).bind (·.ocv) ∧
    (r.cells, r.capacity, r.minCell, r.maxCell, r.startLimit, r.hotLimit, r.abortLimit, r.coolTimeout, r.restTime,
      r.floor) = (a.cells, a.capacity, a.minCell, a.maxCell, a.startLimit, a.hotLimit, a.abortLimit, a.coolTimeout,
      a.restTime, a.floor) ∧
    r.chemistry.code = a.chemistry ∧ r.twin = decide (a.twin = 1) ∧ r.profile.val = a.profile ∧
    ∃ t, exec (.setClass c.val a) s = .next t ∧ t.classRec c = some r ∧ t.inFlight.head? = some (.cls c r) ∧
      t.link.reply = some ⟨0x83, .ok, r.bytes⟩ ∧ (∀ k, k ≠ c → t.classRec k = s.classRec k) ∧
      t.register.rotation = s.register.rotation ∧
      t.register.packs.map (fun p => (p.tag, p.cls, p.place, p.mark)) =
        s.register.packs.map (fun p => (p.tag, p.cls, p.place, p.mark)) ∧
      (∀ p ∈ t.register.packs, p.cls = c → p.charge ≤ a.capacity * 1000) ∧
      (∀ p ∈ s.register.packs, p.cls ≠ c → (t.pack p.tag).map (·.charge) = some p.charge) ∧
      (∀ b k q known, (t.bay b).identity = .anonymous k q known → k = c → q ≤ a.capacity * 1000) ∧
      t.profiles = s.profiles ∧ t.disp.issues = s.disp.issues ∧ t.disp.reservations = s.disp.reservations

/-- SET OCV replaces the table of a defined class that no session uses, and nothing else but the write and the reply,
which is the status byte alone (the model's reading, log entry 10). -/
def Obligations.SetOcvReplacesItsTable : Prop :=
  ∀ (s : State) (c : ClassNo) (a : OcvArgs) (r : ClassRec), s.accepts → s.classRec c = some r →
    s.classBusy c = false → 1500 ≤ a.p0 → a.p0 < a.p1 → a.p1 < a.p2 → a.p2 < a.p3 → a.p3 < a.p4 → a.p4 ≤ 4300 →
    let r' : ClassRec := { r with ocv := some ⟨a.p0, a.p1, a.p2, a.p3, a.p4⟩ }
    exec (.setOcv c.val a) s = .next (({ s.settle with
      register := { s.register with classes := s.register.classes.set c (some r') }
      inFlight := [.cls c r'] } : State).reply 0x04 .ok [])

/-- SET PROFILE with fields in range replaces and writes the header of a profile that no bay uses; its stage positions
and every other profile keep their contents. While a bay holds a session on the profile it is refused IN_USE. -/
def Obligations.SetProfileReplacesItsHeader : Prop :=
  ∀ (s : State) (p : ProfileNo) (a : ProfileArgs), s.accepts →
    a.stageCount ≤ 12 → a.grantMode ≤ 1 → 1 ≤ a.turnLength → a.turnLength ≤ 60 →
    (a.maintainStage ≤ 11 ∨ a.maintainStage = 255) → 30 ≤ a.sessionLimit → a.sessionLimit ≤ 1440 →
    (∀ b se, (s.bay b).session = some se → se.profile = p →
      exec (.setProfile p.val a) s = .next (s.settle.reply 0x05 .inUse [])) ∧
    (s.profileInUse p = false →
      ∃ h : Header, h.stageCount = a.stageCount ∧ h.mode.code = a.grantMode ∧ h.turnLength = a.turnLength ∧
        (h.maintain.map (·.val)).getD 255 = a.maintainStage ∧ h.sessionLimit = a.sessionLimit ∧
        exec (.setProfile p.val a) s = .next (({ s.settle with
          profiles := s.profiles.set p ⟨h, (s.profile p).stages⟩
          inFlight := [.header p h] } : State).reply 0x05 .ok ([u1 a.stageCount, u1 a.grantMode, u1 a.turnLength,
            u1 a.maintainStage] ++ u2 a.sessionLimit)))

/-- SET STAGE with fields in range replaces and writes one stage position of a profile that no bay uses, with the fields
and the exits in the order given; its header, its other positions and every other profile keep their contents. While a
bay holds a session on the profile it is refused IN_USE. Of the reply only the length is stated, and the
model's own draw of free bytes rises by 1: the argument bytes of RETURN and COMPLETE are free (log entry 9). -/
def Obligations.SetStageReplacesItsPosition : Prop :=
  ∀ (s : State) (p : ProfileNo) (k : StageNo) (a : StageArgs) (st : Stage), s.accepts → readStage a = some st →
    st.kind.code = a.kind ∧ st.exits.length = a.exits.length ∧
    (st.iset, st.cellTarget, st.coefficient, st.acceptance, st.chargeLimit, st.timeLimit, st.taper, st.settle,
      st.plateau, st.equalizeMark) = (a.iset, a.cellTarget, a.coefficient, a.acceptance, a.chargeLimit, a.timeLimit,
      a.taper, a.settle, a.plateau, decide (a.equalizeMark = 1)) ∧
    (∀ x ∈ a.exits.zip st.exits, x.2.test.code = x.1.test ∧ x.2.senseSet = decide (x.1.sense = 0) ∧
      x.2.action.code = x.1.action ∧ (∀ n, x.2.action.argument? = some n → n = x.1.argument)) ∧
    (∀ b se, (s.bay b).session = some se → se.profile = p →
      exec (.setStage p.val k.val a) s = .next (s.settle.reply 0x06 .inUse [])) ∧
    (s.profileInUse p = false → ∃ cs, cs.length = 16 + 4 * a.exits.length ∧
      exec (.setStage p.val k.val a) s = .next (({ s.settle with
        profiles := s.profiles.set p ⟨(s.profile p).header, (s.profile p).stages.set k (some st)⟩
        inFlight := [.stage p k st], freeDraw := s.freeDraw + 1 } : State).reply 0x06 .ok cs))

/-! ## Bays -/

/-- SET BAY with fields in range and none of its refusals replaces, writes and echoes the configuration. Without a change
of masked, a changed feeder or base level goes to the allocator, which gives the bay the level of R96 and leaves lawful
grants. With masked set to YES the bay goes out of service as by MASK BAY, and with masked set to NO a MASKED bay comes
back as by UNMASK BAY. -/
def Obligations.SetBayReplacesItsConfiguration : Prop :=
  ∀ (s : State) (b : BayNo) (a : BayArgs) (cfg : BayCfg), s.accepts → readBayCfg a = some cfg →
    ((s.bay b).holdsAnonymous = true → cfg.defaultClass = (s.bay b).cfg.defaultClass) →
    let echo := [u1 a.feeder, u1 a.baseLevel, u1 a.defaultClass, u1 a.confirmMode, u1 a.masked]
    (s.GrantTableOk → cfg.masked = (s.bay b).cfg.masked →
      ((s.bay b).inSession = true → cfg.feeder = (s.bay b).cfg.feeder) →
      ∃ t, exec (.setBay b.val a) s = .next t ∧ t.GrantTableOk ∧
        (cfg.baseLevel ≠ (s.bay b).cfg.baseLevel → (t.grant b).level = t.levelOf b) ∧
        ((s.grant b).level = s.levelOf b → (t.grant b).level = t.levelOf b) ∧
        (∀ x, x ≠ b → (t.grant x).level = (s.grant x).level) ∧
        t.outline = ((({ s.settle with inFlight := [.bayCfg b cfg] } : State).modBay b fun y =>
          { y with cfg := cfg }).reply 0x07 .ok echo).outline) ∧
    (s.BaysOk → (s.bay b).inSession = false → (s.bay b).state ≠ .release → cfg.masked = true →
      (s.bay b).cfg.masked = false →
      ∃ t, exec (.setBay b.val a) s = .next t ∧ (t.bay b).state = .masked ∧ (t.bay b).cfg = cfg ∧
        (t.bay b).session = none ∧ (t.bay b).identity = .empty ∧ (t.bay b).drive = ⟨false, 0, 0, true, .off⟩ ∧
        (t.grant b).request = 0 ∧ t.faultRec b = none ∧ b ∈ t.scanner.prompt ∧ (t.line b).finalPending = true ∧
        t.link.reply = some ⟨0x87, .ok, echo⟩ ∧ t.inFlight = [.bayCfg b cfg] ∧ t.register = s.register ∧
        t.disp.issues = s.disp.issues ∧ t.disp.reservations = s.disp.reservations ∧
        ∀ x, x ≠ b → (t.bay x).outline = (s.bay x).outline ∧ t.faultRec x = s.faultRec x ∧ t.line x = s.line x ∧
          (t.grant x).outline = (s.grant x).outline) ∧
    ((s.bay b).state = .masked → cfg.masked = false → (s.bay b).cfg.masked = true →
      ∃ t, exec (.setBay b.val a) s = .next t ∧
        t.outline = (((({ s.settle with inFlight := [.bayCfg b cfg] } : State).modLine b fun l =>
            { l with misses := 0, finalPending := false }).modBay b fun y =>
          { y with state := .vacant, cfg := cfg
                   reconcile := if y.reconcile = .restore then .restore else .unmask
            }).reply 0x07 .ok echo).outline)

/-- MASK BAY ends the session, empties the fault record and takes the bay out of service with its final poll pending; the
pack records, the other bays and the dispatcher's lists stay. UNMASK BAY brings a MASKED bay back as VACANT with its
miss count at 0 and its reconciliation pending. -/
def Obligations.MaskAndUnmaskBay : Prop :=
  ∀ (s : State) (b : BayNo), s.accepts →
    (s.BaysOk → (s.bay b).state ≠ .release → (s.bay b).state ≠ .masked →
      ∃ t, exec (.maskBay b.val) s = .next t ∧ (t.bay b).state = .masked ∧ (t.bay b).session = none ∧
        (t.bay b).identity = .empty ∧ (t.bay b).cfg = { (s.bay b).cfg with masked := true } ∧
        (t.bay b).drive = ⟨false, 0, 0, true, .off⟩ ∧ (t.grant b).request = 0 ∧ t.faultRec b = none ∧
        b ∈ t.scanner.prompt ∧ (t.line b).finalPending = true ∧ t.link.reply = some ⟨0x90, .ok, [9]⟩ ∧
        t.inFlight = [.bayCfg b { (s.bay b).cfg with masked := true }] ∧ t.register = s.register ∧
        t.disp.issues = s.disp.issues ∧ t.disp.reservations = s.disp.reservations ∧
        ∀ x, x ≠ b → (t.bay x).outline = (s.bay x).outline ∧ t.faultRec x = s.faultRec x ∧ t.line x = s.line x ∧
          (t.grant x).outline = (s.grant x).outline) ∧
    ((s.bay b).state = .masked →
      ∃ t, exec (.unmaskBay b.val) s = .next t ∧ (t.bay b).reconcile ≠ .no ∧
        t.passOutline = (((({ s.settle with
            inFlight := [.bayCfg b { (s.bay b).cfg with masked := false }] } : State).modLine b fun l =>
              { l with misses := 0, finalPending := false }).modBay b fun y =>
            { y with state := .vacant, cfg := { y.cfg with masked := false }
                     reconcile := if y.reconcile = .restore then .restore else .unmask
              }).reply 0x11 .ok [0]).passOutline)

/-- STOP BAY ends the session of a COOLING, ASSESS, CHARGE or MAINTAIN bay with its charge written, and the bay stands in
STANDBY: COMPLETE from MAINTAIN, STOPPED from the others. -/
def Obligations.StopBayGoesToStandby : Prop :=
  ∀ (s : State) (b : BayNo), s.accepts → s.BaysOk → (s.bay b).state = .cooling ∨ (s.bay b).inSession = true →
    let e : Ending := if (s.bay b).state = .maintain then .complete else .stopped
    ∃ t, exec (.stopBay b.val) s = .next t ∧ (t.grant b).request = 0 ∧
      t.inFlight = (match (s.bay b).identity with
        | .registered g => ((s.pack g).map fun r => StoreWrite.charge g r.charge).toList
        | _ => []) ∧
      t.outline = (((({ s.settle with inFlight := t.inFlight } : State).withoutSession b).modBay b fun y =>
        { y with state := .standby, outcome := e, coolExpiry := none, preIssue := none
          }).reply 0x12 .ok [6]).outline

/-- START BAY starts a cold session in a STANDBY bay whose pack is not quarantined, and the cool expiry a warm one in a
COOLING bay: CHARGE at stage 0 for a known charge, else ASSESS. With an invalid profile fault PROFILE latches instead. At a good report of a COOLING bay at or below the
start limit − 3 °C a cold session starts in the same way, and above it the bay stays; at a good report of an ASSESS bay
whose rest time since docking has run the estimate sets the charge, charge known becomes YES and is written, and the bay
enters CHARGE at stage 0 of its session, and before that it stays. The fields of a session in ASSESS before any stage
entry, and the bay's outcome NONE, are the model's (log entries 40 and 16). -/
def Obligations.SessionsStartColdAndWarm : Prop :=
  (∀ (s : State) (b : BayNo) (cr : ClassRec), s.BaysOk → s.classAt b = some cr →
      let failed := fun t : State => (t.bay b).state = .fault ∧ (t.bay b).session = none ∧ (t.grant b).request = 0 ∧
        ∃ r, t.faultRec b = some r ∧ r.first = .profile ∧ r.latchTime = s.now ∧ r.stage = none
      (s.accepts → (s.bay b).state = .standby → s.quarantinedAt b = false →
        ((s.profile cr.profile).valid = true → ∃ t, exec (.startBay b.val) s = .next t ∧
          t.outline = ((s.settle.startedAt b cr false).reply 0x13 .ok [if s.knownAt b then 4 else 3]).outline) ∧
        ((s.profile cr.profile).valid = false → ∃ t, exec (.startBay b.val) s = .next t ∧ failed t ∧
          t.link.reply = some ⟨0x93, .ok, [8]⟩)) ∧
      (∀ e, s.running = true → (s.bay b).state = .cooling → (s.bay b).coolExpiry = some e → e ≤ s.now →
        ((s.profile cr.profile).valid = true → ∃ t, exec (.coolExpiry b) s = .next t ∧
          t.outline = (s.settle.startedAt b cr true).outline) ∧
        ((s.profile cr.profile).valid = false → ∃ t, exec (.coolExpiry b) s = .next t ∧ failed t))) ∧
  ∀ (s : State) (x : Slot) (bytes : List Byte) (rep : Report) (cr : ClassRec), s.Hears x bytes rep → s.BaysOk →
    (s.bay x.bay).reconcile = .no → rep.present = true → s.Calm x.bay rep → s.classAt x.bay = some cr → cr.Bears rep →
    let b := x.bay
    ((s.bay b).state = .cooling → rep.tm ≤ cr.startLimit - 3 → (s.profile cr.profile).valid = true →
      ∃ t, exec (.reportReceived bytes) s = .next t ∧ (t.bay b).coolExpiry = none ∧
        (t.bay b).state = ((s.startedAt b cr false).bay b).state ∧
        (t.bay b).session = ((s.startedAt b cr false).bay b).session) ∧
    ((s.bay b).state = .cooling → cr.startLimit - 3 < rep.tm →
      ∃ t, exec (.reportReceived bytes) s = .next t ∧ (t.bay b).state = .cooling ∧
        (t.bay b).coolExpiry = (s.bay b).coolExpiry ∧ (t.bay b).session = none) ∧
    ∀ se d, (s.bay b).state = .assess → (s.bay b).session = some se → (s.bay b).dockTime = some d →
      ∃ t, exec (.reportReceived bytes) s = .next t ∧
        (s.now < d + cr.restTime * 60000 → (t.bay b).state = .assess ∧ (t.bay b).session = some se ∧
          t.register = s.register) ∧
        (d + cr.restTime * 60000 ≤ s.now → (t.bay b).state = .charge ∧
          (t.bay b).session = some (({ se with deliveredResidue := 0, storedResidue := 0 } : Session).entered 0 s.now
            (s.baseAt b 0) true) ∧
          t.chargeAt b = estimateCharge cr rep.vm ∧ t.knownAt b = true ∧
          ∀ g r, (s.bay b).identity = .registered g → s.pack g = some r →
            let p : PackRec := { r with charge := estimateCharge cr rep.vm, known := true }
            t.pack g = some p ∧ .pack p ∈ t.inFlight)

/-- CLEAR FAULT empties the record of a FAULT bay no level-type kind of which is present; the bay enters a fresh IDENTIFY
where its latest report shows a pack, and VACANT otherwise. With such a kind present it is refused PRESENT. That docking
time and attempt count are discarded with the rest, and that STAGE_LOST is present while the miss count is 3, is the
model's reading (log entries 16 and 18). -/
def Obligations.ClearFaultLeavesFault : Prop :=
  ∀ (s : State) (b : BayNo) (r : FaultRec), s.accepts → (s.bay b).state = .fault → s.faultRec b = some r →
    let has := fun k => k = r.first ∨ k ∈ r.secondary
    let shows := fun p : Report → Prop => ∃ l, (s.bay b).latest = some l ∧ p l.report
    (s.faultPresent b r = true ↔
      (has .overtemp ∧ r.held = true ∧
        ∃ c cr, r.cls = some c ∧ s.classRec c = some cr ∧ shows fun rep => cr.abortLimit ≤ rep.tm) ∨
      (has .stageAlarm ∧ shows fun rep => rep.alarm = true) ∨
      (has .interlock ∧ r.held = true ∧ shows fun rep => rep.latchEngaged = false) ∨
      (has .stageLost ∧ (s.line b).misses = 3)) ∧
    (s.faultPresent b r = true → exec (.clearFault b.val) s = .next (s.settle.reply 0x14 .present [])) ∧
    (s.faultPresent b r = false → ∃ t, exec (.clearFault b.val) s = .next t ∧
      t.passOutline = (((s.settle.setFault b none).modBay b fun y =>
        { y with
            state := if y.showsPack then .identify else .vacant
            reconcile := if y.showsPack then .no else y.reconcile
            identity := .empty, outcome := .none, preIssue := none, dockTime := none, attempts := 0
            coolExpiry := none }).reply 0x14 .ok [if (s.bay b).showsPack then 1 else 0]).passOutline)

/-! ## Issues, reservations and packs -/

/-- The candidates of ISSUE CLASS are the ready packs of the class, each once, by falling band and within a band by rising
rotation position. A class that is not twin gives the first of them; a twin class the first candidate that has a later
candidate within the match window, with the first such later candidate. -/
def Obligations.SelectionFollowsBandAndRotation : Prop :=
  ∀ (s : State) (c : ClassNo) (cr : ClassRec), s.register.Agrees → s.classRec c = some cr →
    let l := s.candidates c
    let near := fun x y => within cr.matchWindow (s.socOf x) (s.socOf y) = true
    l.Nodup ∧ (∀ r, r ∈ l ↔ (r ∈ s.register.packs ∧ r.cls = c ∧ s.packReady r = true)) ∧
    l.Pairwise (fun x y => band (s.socOf y) < band (s.socOf x) ∨
      (band (s.socOf y) = band (s.socOf x) ∧ s.rotationPosition x < s.rotationPosition y)) ∧
    (cr.twin = false → s.selection c = l.head?.toList) ∧
    (cr.twin = true →
      (s.selection c = [] ↔ l.Pairwise (fun x y => ¬ near x y)) ∧
      (s.selection c ≠ [] → ∃ pre a mid b post, l = pre ++ a :: mid ++ b :: post ∧ s.selection c = [a, b] ∧
        near a b ∧ (∀ y ∈ mid, ¬ near a y) ∧
        ∀ x xs ys, pre = xs ++ x :: ys → ∀ y ∈ ys ++ a :: mid ++ b :: post, ¬ near x y))

/-- A taken ISSUE CLASS: its packs are marked, their bays are in RELEASE with the latch open and no session, the entry is
appended with its lapse time, the first counting reservation of the class loses one machine, and the class's shortage is
computed. -/
def Obligations.IssueClassReleasesItsPacks : Prop :=
  ∀ (s : State) (m : Nat) (c : ClassNo), s.accepts → s.BaysOk → s.register.Agrees → 1 ≤ m → m ≤ 999 →
    s.hasIssue m = false → s.disp.issues.length < 8 → s.selection c ≠ [] →
    let ps := (s.selection c).filterMap PackRec.pick?
    ∃ t, exec (.issueClass m c.val) s = .next t ∧ t.IssuedTo s m (some c) ps ∧
      t.disp.reservations = (consumeFirst (fun v => decide (v.cls = c ∧ v.due ≤ s.minute + s.disp.lookahead))
        s.disp.reservations).1 ∧
      t.disp.short[c] = t.isShort c ∧ (s.ShortagesOk → t.ShortagesOk) ∧
      ∃ cs, t.link.reply = some ⟨0x98, .ok, u2 m ++ [u1 ps.length] ++ cs⟩ ∧ cs.length = 4 * ps.length + 4

/-- A taken ISSUE BAY releases the named bays in the order given; it consumes no reservation. -/
def Obligations.IssueBayReleasesItsBays : Prop :=
  ∀ (s : State) (m : Nat) (b : BayNo) (o : Option BayNo), s.accepts → s.BaysOk → s.register.Agrees → 1 ≤ m →
    m ≤ 999 → s.hasIssue m = false → s.disp.issues.length < 8 → o ≠ some b →
    (∀ x ∈ b :: o.toList, ((s.bay x).state = .maintain ∨ (s.bay x).state = .standby) ∧ s.quarantinedAt x = false) →
    let ps := (b :: o.toList).map s.pickBay
    ∃ t, exec (.issueBay m b.val (o.map (·.val))) s = .next t ∧ t.IssuedTo s m none ps ∧
      t.disp.reservations = s.disp.reservations ∧
      ∃ cs, t.link.reply = some ⟨0x99, .ok, u2 m ++ [u1 ps.length] ++ cs⟩ ∧ cs.length = 4 * ps.length

/-- ISSUE CLASS is refused in the order RANGE, OPEN, FULL, NONE (an undefined class gives NONE), and a refused one changes
no state. -/
def Obligations.IssueClassRefusals : Prop :=
  ∀ (s : State) (m code : Nat), s.accepts →
    let refused := fun st => exec (.issueClass m code) s = .next (s.settle.reply 0x18 st [])
    let inRange := 1 ≤ m ∧ m ≤ 999 ∧ code ≤ 7
    (¬ inRange → refused .range) ∧
    (inRange → (∃ i ∈ s.disp.issues, i.machine = m) → refused .openIssue) ∧
    (inRange → (∀ i ∈ s.disp.issues, i.machine ≠ m) → 8 ≤ s.disp.issues.length → refused .full) ∧
    (inRange → (∀ i ∈ s.disp.issues, i.machine ≠ m) → s.disp.issues.length < 8 →
      (∀ c : ClassNo, c.val = code → s.classRec c = none ∨ s.selection c = []) → refused .none)

/-- CONFIRM of any machine's entry with no OPEN part, and CONFIRM NEXT of the oldest such entry, confirm its TAKEN packs to
its machine and end the entry; nothing outside the register, the issue list and the link unit changes. That record and
charge go to the store as two writes is the model's choice (log entry 35). -/
def Obligations.ConfirmSendsPacksToTheirMachine : Prop :=
  ∀ (s : State) (i : Issue), s.accepts → s.ListsOk →
    (s.disp.issues.find? (fun x => !x.parts.any Part.isOpen) = some i →
      ∃ t, exec .confirmNext s = .next t ∧ t.Confirmed s i 0x1B) ∧
    (1 ≤ i.machine → i.machine ≤ 999 → i ∈ s.disp.issues → (∀ p ∈ i.parts, ∀ b, p.state ≠ .openAt b) →
      ∃ t, exec (.confirm i.machine) s = .next t ∧ t.Confirmed s i 0x1A)

/-- RESERVE inserts its entry after every entry due no later, before every later one, and answers due minute and
position; the shortage of its class is computed. -/
def Obligations.ReserveInsertsByDueMinute : Prop :=
  ∀ (s : State) (c : ClassNo) (n d : Nat), s.accepts → (s.classRec c).isSome = true → 1 ≤ n → n ≤ 8 → 1 ≤ d → d ≤ 1440 →
    s.disp.reservations.length < 16 → s.disp.reservations.Pairwise (fun v w => v.due ≤ w.due) →
    ∃ t before after, exec (.reserve c.val n d) s = .next t ∧ s.disp.reservations = before ++ after ∧
      (∀ v ∈ before, v.due ≤ s.minute + d) ∧ (∀ v ∈ after, s.minute + d < v.due) ∧
      t.disp.short[c] = t.isShort c ∧
      t.outline = (({ s.settle with
        disp := { s.disp with reservations := before ++ ⟨c, n, s.minute + d⟩ :: after } } : State).reply 0x1D .ok
          (u4 (s.minute + d) ++ [u1 before.length])).outline

/-- DROP RESERVATIONS removes every entry of its class and keeps the others' order, computes the class's shortage, sets no
attention, and answers the number removed; a code above 7 is refused RANGE. -/
def Obligations.DropReservationsRemovesAClass : Prop :=
  ∀ (s : State) (code : Nat), s.accepts →
    (7 < code → exec (.dropReservations code) s = .next (s.settle.reply 0x1E .range [])) ∧
    ∀ c : ClassNo, c.val = code → s.ShortagesOk →
      let left := s.disp.reservations.filter fun v => decide (v.cls ≠ c)
      ∃ t, exec (.dropReservations code) s = .next t ∧ t.disp.short[c] = t.isShort c ∧
        (∀ k, t.flagSet k = s.flagSet k) ∧
        (left = s.disp.reservations → t = s.settle.reply 0x1E .ok [0]) ∧
        t.outline = (({ s.settle with disp := { s.disp with reservations := left } } : State).reply 0x1E .ok
          [u1 (s.disp.reservations.length - left.length)]).outline

/-- REGISTER PACK makes a fresh record at MACHINE m or UNACCOUNTED with its tag at the head of its class's list; REMOVE
PACK deletes a record that is in no bay and unmarked, with its tag. Both write record and list, and change nothing
else. That REMOVE PACK answers the status byte alone is the model's reading (log entry 10). -/
def Obligations.RegisterAndRemovePack : Prop :=
  ∀ (s : State) (g : Nat), s.accepts → s.register.Agrees → 1 ≤ g → g ≤ 65534 →
    (∀ (c : ClassNo) (m : Nat), m ≤ 999 → (s.classRec c).isSome = true → s.pack g = none → s.tagSeen g = false →
      s.register.packs.length < 96 →
      let r : PackRec := ⟨g, c, if m = 0 then .unaccounted else .machine m, .serviceable, 0, false, none, 0, 0, none⟩
      ∃ t, exec (.registerPack g c.val m) s = .next t ∧ t.pack g = some r ∧
        (∀ x, x ≠ g → t.pack x = s.pack x) ∧ t.rotation c = g :: s.rotation c ∧
        (∀ k, k ≠ c → t.rotation k = s.rotation k) ∧ t.register.classes = s.register.classes ∧
        ({ t with register := s.register } : State) = ({ s.settle with
          inFlight := [.pack r, .rotation c (g :: s.rotation c)] } : State).reply 0x24 .ok (u2 g ++ [0])) ∧
    (∀ r, s.pack g = some r → r.place.isBay = false → r.mark = none →
      ∃ t, exec (.removePack g) s = .next t ∧ t.pack g = none ∧ (∀ x, x ≠ g → t.pack x = s.pack x) ∧
        t.rotation r.cls = (s.rotation r.cls).filter (fun x => decide (x ≠ g)) ∧
        (∀ k, k ≠ r.cls → t.rotation k = s.rotation k) ∧ t.register.classes = s.register.classes ∧
        ({ t with register := s.register } : State) = ({ s.settle with
          inFlight := [.packGone g, .rotation r.cls (t.rotation r.cls)] } : State).reply 0x25 .ok [])

/-- ASSIGN PACK: RANGE, NONE and STATE in that order; when taken, the place alone changes, and it is written; the next
docking of an unmarked pack is then a return. RELEASE PACK makes a QUARANTINED pack SERVICEABLE, writes it, and answers
tag, place and the cause cleared; nothing else changes, but for a ready count that follows where an unreachable state makes
the pack ready (log entry 34). That ASSIGN PACK answers the status byte alone, and that the place UNACCOUNTED answers 0 for
bay or machine, are the model's readings (log entries 10 and 25). -/
def Obligations.AssignAndReleasePack : Prop :=
  ∀ (s : State) (g : Nat), s.accepts →
    (∀ m : Nat,
      let inRange := 1 ≤ g ∧ g ≤ 65534 ∧ 1 ≤ m ∧ m ≤ 999
      (¬ inRange → exec (.assignPack g m) s = .next (s.settle.reply 0x27 .range [])) ∧
      (inRange → s.pack g = none → exec (.assignPack g m) s = .next (s.settle.reply 0x27 .none [])) ∧
      (inRange → ∀ r, s.pack g = some r →
        (r.place ≠ .unaccounted → exec (.assignPack g m) s = .next (s.settle.reply 0x27 .state [])) ∧
        (r.place = .unaccounted → ∃ t, exec (.assignPack g m) s = .next t ∧
          t.pack g = some { r with place := .machine m } ∧ (∀ x, x ≠ g → t.pack x = s.pack x) ∧
          (∀ b ch, r.mark = none → ({ r with place := .machine m } : PackRec).docked b ch =
            { r with place := .bay b, known := false, returns := min 65535 (r.returns + 1)
                     equalize := if ch = some .flooded then min 255 (r.equalize + 1) else r.equalize }) ∧
          ({ t with register := s.register } : State) = ({ s.settle with
            inFlight := [.pack { r with place := .machine m }] } : State).reply 0x27 .ok [] ∧
          t.register.rotation = s.register.rotation ∧ t.register.classes = s.register.classes))) ∧
    (∀ r k, 1 ≤ g → g ≤ 65534 → s.pack g = some r → r.standing = .quarantined k →
      ∃ t, exec (.releasePack g) s = .next t ∧ t.pack g = some { r with standing := .serviceable } ∧
        (∀ x, x ≠ g → t.pack x = s.pack x) ∧ t.register.rotation = s.register.rotation ∧
        t.register.classes = s.register.classes ∧
        ({ t with register := s.register } : State).outline = (({ s.settle with
          inFlight := [.pack { r with standing := .serviceable }] } : State).reply 0x26 .ok
            (u2 g ++ r.place.bytes ++ [u1 k.code])).outline ∧
        (s.register.Agrees → s.readyPlace r.place = false → s.ReadyHanded →
          ({ t with register := s.register } : State) = ({ s.settle with
            inFlight := [.pack { r with standing := .serviceable }] } : State).reply 0x26 .ok
              (u2 g ++ r.place.bytes ++ [u1 k.code])))

/-! ## Reads and CLEAR -/

/-- Each read command answers a body of the length that its layout gives (R186), and changes no state: only the reply, and the
model's own draw of free bytes (log entry 9), differ. The READ BAY reply shows the charge of an anonymous pack and its
class, and the SoC seen through them is that of R82. That the reply has no byte of its own for this SoC is the model's
reading of two rules that disagree (log entry 22). -/
def Obligations.ReadsAnswerAndChangeNothing : Prop :=
  ∀ (s : State), s.accepts →
    let reads := fun (c : Instr) (kind : Byte) (ok : List Byte → Prop) => ∃ t cs n, exec c s = .next t ∧ ok cs ∧
      t = ({ s.settle with freeDraw := n } : State).reply kind .ok cs
    (∀ b : BayNo, reads (.readBay b.val) 0x30 fun cs => cs.length = 60 ∧
      cs.take 2 = [u1 b.val, u1 (s.bay b).state.code] ∧
      ∀ c q known, (s.bay b).identity = .anonymous c q known → (s.bay b).cfg.defaultClass = c → q < 4294967296 →
        (cs.drop 9).take 4 = u4 q ∧ cs[4]? = some (u1 c.val) ∧
        s.seenSoc cs = (s.classRec c).map fun cr => q * 100 / (cr.capacity * 1000)) ∧
    (∀ g r, 1 ≤ g → g ≤ 65534 → s.pack g = some r → reads (.readPack g) 0x31 fun cs => cs.length = 22 ∧
      cs.take 3 = u2 g ++ [u1 r.cls.val]) ∧
    (∀ c : ClassNo, reads (.readClass c.val) 0x32 fun cs =>
      cs.take 2 = [u1 c.val, yes (s.classRec c).isSome] ∧ cs.length = if (s.classRec c).isSome then 35 else 2) ∧
    (∀ f n, 1 ≤ n → n ≤ 2 → f + n ≤ 24 → reads (.readGrants f n) 0x33 fun cs => cs.length = 36 + 9 * n ∧
      cs.take 4 = u2 s.effectiveCap ++ u2 s.alloc.siteCap) ∧
    (reads .readIssues 0x34 fun cs => 5 ≤ cs.length ∧ cs.length ≤ 60 ∧
      cs.take 5 = u4 s.now ++ [u1 s.disp.issues.length]) ∧
    (reads .readReservations 0x35 fun cs => cs.length = 6 + 3 * s.disp.reservations.length ∧
      cs.take 6 = u4 s.minute ++ [u1 s.disp.lookahead, u1 s.disp.reservations.length]) ∧
    (∀ b : BayNo, reads (.readFault b.val) 0x36 fun cs => cs.length = 21 ∧
      cs.take 6 = [u1 b.val, u1 (s.bay b).state.code] ++ u4 s.now ∧
      (s.faultRec b = none → cs.drop 6 = List.replicate 15 0))

/-- CLEAR drops every session, entry, reservation, fault record, request, grant and queue, sends bays that were busy to
IDENTIFY or VACANT and leaves the others, empties the flags and sets of all but the classes that its own computation
finds newly short, writes the charge of every registered pack whose session it ends, clears every mark, makes every pack of
a TAKEN part UNACCOUNTED and writes it, and keeps configuration, every other field of every pack record, rotation lists,
clocks and carried values. Its reply leaves as one frame. The order of its effects across the blocks is the model's choice
(log entry 13), and that a bay taken to VACANT loses its docking time is the model's reading (log entry 16). -/
def Obligations.ClearDropsTheOperation : Prop :=
  ∀ s : State, s.accepts → s.BaysOk →
    let taken := fun r : PackRec =>
      s.disp.issues.any fun i => i.parts.any fun p => decide (p.pack = some r.tag ∧ p.state = .taken)
    ∃ t, exec .clear s = .next t ∧ t.disp.issues = [] ∧ t.disp.reservations = [] ∧
    t.alloc.shed = none ∧ (∀ l : LevelNo, t.alloc.queues[l] = []) ∧ t.link.edges = Edges.clear ∧
    (∀ c : ClassNo, t.disp.ready[c] = t.readyCount c ∧ t.disp.short[c] = t.isShort c ∧
      t.link.shortSet[c] = (t.disp.short[c] && !s.disp.short[c])) ∧
    (∀ b, (t.bay b).session = none ∧ t.faultRec b = none ∧ (t.bay b).cfg = (s.bay b).cfg ∧
      (t.bay b).drive.on = false ∧ (t.bay b).latest = (s.bay b).latest ∧
      (t.bay b).state = (if (s.bay b).state.restarts then (if (s.bay b).showsPack then .identify else .vacant)
        else (s.bay b).state) ∧
      ((s.bay b).state.restarts = true → (t.bay b).identity = .empty ∧ (t.bay b).preIssue = none ∧
        (t.bay b).dockTime = none) ∧
      ((s.bay b).state.restarts = false → (t.bay b).outline = (s.bay b).outline) ∧
      t.grant b = ⟨0, 0, (s.grant b).carried, (s.bay b).cfg.baseLevel, .hold, none, none, false⟩) ∧
    t.register.classes = s.register.classes ∧ t.register.rotation = s.register.rotation ∧
    t.register.packs = s.register.packs.map (fun r =>
      { r with mark := none, place := if taken r then .unaccounted else r.place }) ∧
    (∀ b g r, (s.bay b).session.isSome = true → (s.bay b).identity = .registered g → s.pack g = some r →
      .charge g r.charge ∈ t.inFlight) ∧
    (∀ g r, s.pack g = some r → taken r = true → .pack { r with mark := none, place := .unaccounted } ∈ t.inFlight) ∧
    t.profiles = s.profiles ∧ t.link.mask = s.link.mask ∧ t.now = s.now ∧ t.minute = s.minute ∧
    t.scanner.lines = s.scanner.lines ∧ t.scanner.walk = s.scanner.walk ∧
    ∃ cs check, t.link.reply = some ⟨0xBF, .ok, cs⟩ ∧ cs.length = 12 ∧
      cs.take 8 = allCauses.map (fun k => yes (t.flagSet k)) ∧ (cs.drop 8).take 3 = [0, 0, 0] ∧
      (∀ c : ClassNo, (cs[11]?.map fun y => y.getLsbD c.val) = some t.link.shortSet[c]) ∧
      t.txBytes = [0xA5, 14, 0xBF, 0x00] ++ cs ++ [check] ∧ sumBytes ([14, 0xBF, 0x00] ++ cs ++ [check]) = 0

/-! ## The bay line -/

/-- A round begins when it is due, at bay 0. The poll a bay gets, regular or prompt, carries its drive as it stands: drive
and units become the last drive sent, an output-enabled poll arms the lost-stage expiry, the bay leaves the prompt list,
and a slot begins. The prompt list is served first, and a regular poll is that of the next bay of the walk that is not
MASKED. A poll is eight bytes, with the address first, output enable and latch in the drive byte, and an exclusive-or of 0.
That the walk reads whether a bay is MASKED when its regular poll is sent, after the prompt slots before it (log entry 50),
and that a slot and the times in it start at the poll's event (log entry 19), are the model's choices. -/
def Obligations.RoundsAndPolls : Prop :=
  ∀ (s : State) (b : BayNo), s.running = true →
    let d := (s.bay b).drive
    let units := if d.on then (s.grant b).granted else 0
    let polled : Scanner := { s.scanner with
      lines := s.scanner.lines.set b { s.line b with
        sent := ⟨d, units, some s.now⟩, finalPending := false
        lostExpiry := if d.on then some (s.now + 3000) else (s.line b).lostExpiry }
      prompt := s.scanner.prompt.filter fun x => decide (x ≠ b) }
    (s.scanner.walk = none → s.scanner.roundStart + s.scanner.scanInterval ≤ s.now →
      (s.scanner.overrun = true → s.scanner.prompt = []) → (∃ x, (s.bay x).state ≠ .masked) →
      exec .roundStart s = .next { s.settle with
        scanner := { s.scanner with walk := some 0, roundStart := s.now, overrun := false } }) ∧
    (s.scanner.slot = none → s.scanner.prompt.head? = some b → exec .promptPoll s = .next { s.settle with
      scanner := { polled with slot := some ⟨b, s.now, false, pollBytes b d⟩ } }) ∧
    (s.scanner.slot = none → ∀ p, s.scanner.prompt = [] → s.scanner.walk = some p → p ≤ b.val →
      (s.bay b).state ≠ .masked → (∀ x : BayNo, p ≤ x.val → x < b → (s.bay x).state = .masked) →
      exec .regularPoll s = .next { s.settle with
        scanner := { polled with walk := some (b.val + 1), slot := some ⟨b, s.now, true, pollBytes b d⟩ } }) ∧
    (pollBytes b d).length = 8 ∧ xorBytes (pollBytes b d) = 0 ∧ (pollBytes b d).head? = some (u1 b.val) ∧
    ((pollBytes b d)[1]?.map fun y => (y.getLsbD 0, y.getLsbD 1, decide (y.toNat < 4))) =
      some (d.on, d.latchOpen, true)

/-- A good report in its slot: the slot ends, the miss count is 0, the lost-stage expiry is disarmed, the carried units are
those of the drive it answers, and a bay that is not MASKED keeps it as its latest report. No other bay's sequencer,
line record, fault record or request changes, no reservation, and no configuration. A report that shows no pack
is a removal, which each state takes in its own way; and the first report after a restart or UNMASK BAY settles the records
that name its bay. What is discarded on entry to VACANT is the model's reading (log entry 16), and so is that every record
that names a bay is treated (log entry 33). -/
def Obligations.GoodReportIsCredited : Prop :=
  (∀ (s : State) (x : Slot) (bytes : List Byte) (rep : Report), s.running = true → s.scanner.slot = some x →
      11 ≤ bytes.length → s.now ≤ x.sentAt + 30 → judgeReport x.bay (bytes.take 11) = some rep →
      ∃ t, exec (.reportReceived bytes) s = .next t ∧ t.scanner.slot = none ∧ (t.line x.bay).misses = 0 ∧
        (t.line x.bay).lostExpiry = none ∧ (t.grant x.bay).carried = (s.line x.bay).sent.units ∧
        (t.line x.bay).answeredOn = (s.line x.bay).sent.drive.on ∧
        ((s.bay x.bay).state ≠ .masked → (t.bay x.bay).latest = some ⟨rep, s.now⟩) ∧
        ((s.bay x.bay).state = .masked → (t.bay x.bay).outline = (s.bay x.bay).outline ∧ t.register = s.register) ∧
        (∀ b, b ≠ x.bay → (t.bay b).outline = (s.bay b).outline ∧ t.line b = s.line b ∧ t.faultRec b = s.faultRec b ∧
          (t.grant b).outline = (s.grant b).outline) ∧
        s.SameConfig t ∧ t.disp.reservations = s.disp.reservations ∧ t.link.reply = s.link.reply) ∧
  (∀ (s : State) (x : Slot) (bytes : List Byte) (rep : Report), s.Hears x bytes rep → s.BaysOk → s.register.Agrees →
    (s.bay x.bay).reconcile = .no → rep.present = false →
    ∃ t, exec (.reportReceived bytes) s = .next t ∧ t.PackLeft s x.bay) ∧
  ∀ (s : State) (x : Slot) (bytes : List Byte) (rep : Report), s.Hears x bytes rep → s.register.Agrees →
    (s.bay x.bay).reconcile ≠ .no →
    ((s.bay x.bay).state = .vacant ∨
      ((s.bay x.bay).state = .fault ∧ ((s.faultRec x.bay).bind (·.quarantineTag)) = none)) →
    ∃ t, exec (.reportReceived bytes) s = .next t ∧ t.Reconciled s x.bay rep

/-- A slot that passes its 30 ms is a miss: the count rises to at most 3, the third miss in a row raises STAGE_LOST, a
MASKED bay's miss changes nothing but the slot, and POLL_SLOT_TIMEOUT and THIRD_CONSECUTIVE_MISS agree on it. No other
bay's sequencer, line record, fault record or request changes, and no configuration. A complete report in its slot is such a
miss too unless its bytes check, carry the polled address and lie in range; bytes that are short or late change nothing of
themselves. What the two rows share, and that the kind is present from the count, is the model's reading (log entries 8 and
18), and so is that the report's own event has no effect before the slot is judged (log entry 19). -/
def Obligations.MissesAreCounted : Prop :=
  (∀ (s : State) (x : Slot), s.running = true → s.scanner.slot = some x → x.sentAt + 30 ≤ s.now →
    ∃ t, exec .pollSlotTimeout s = .next t ∧ t.MissTaken s x ∧
      ((s.bay x.bay).state ≠ .masked → (s.line x.bay).misses = 2 → exec .thirdConsecutiveMiss s = .next t)) ∧
  (∀ (s : State) (x : Slot) (bytes : List Byte), s.running = true → s.scanner.slot = some x →
    (11 ≤ bytes.length → s.now ≤ x.sentAt + 30 → judgeReport x.bay (bytes.take 11) = none →
      ∃ t, exec (.reportReceived bytes) s = .next t ∧ t.MissTaken s x) ∧
    (bytes.length < 11 ∨ x.sentAt + 30 < s.now → exec (.reportReceived bytes) s = .next s.settle)) ∧
  ∀ (b : BayNo) (bytes : List Byte) (rep : Report), judgeReport b bytes = some rep ↔
    (parseReport bytes = some rep ∧ xorBytes bytes = 0 ∧ rep.address = b.val ∧ rep.vm ≤ 9999 ∧ -40 ≤ rep.tm ∧
      rep.tm ≤ 125)

/-! ## Identification, faults and evaluation -/

/-- A good report of a VACANT bay in which a cool pack docks: an unknown tag is registered at the head of its class's
list, a known tag from a machine is a return, and either way the bay rests in ASSESS with a session and no request. In
general a known tag is refused by MISMATCH for another class and by DUPLICATE where another bay shows it, and is otherwise
accepted with its record moved to the bay, its mark cleared and its part, OPEN or TAKEN, out of its entry; a QUARANTINED
pack is held in STANDBY, a hot one enters COOLING with its cool expiry; an unknown tag of an undefined class is a MISMATCH
and one that meets a full register runs anonymous with REGFULL; and an unreadable tag is tried three times, then runs
anonymous under the default class, or is a MISMATCH where that is undefined. That an OPEN part leaves its entry so, the
class of the fault tests at a full register, and the fields of a session in ASSESS before any stage entry, are the model's
readings and choice (log entries 23, 30 and 40). -/
def Obligations.DockingIdentifiesThePack : Prop :=
  (∀ (s : State) (x : Slot) (bytes : List Byte) (rep : Report) (c : ClassNo) (cr : ClassRec), s.running = true →
      s.BaysOk → s.RegisterOk → s.scanner.slot = some x → 11 ≤ bytes.length → s.now ≤ x.sentAt + 30 →
      judgeReport x.bay (bytes.take 11) = some rep → (s.bay x.bay).state = .vacant → (s.bay x.bay).reconcile = .no →
      rep.present = true → rep.alarm = false → (rep.latchEngaged = true ∨ (s.line x.bay).sent.drive.on = false) →
      1 ≤ rep.tag → rep.tag ≤ 65534 → rep.classCode = c.val → s.classRec c = some cr → rep.tm < cr.abortLimit →
      rep.tm ≤ cr.startLimit → rep.vm * 10 ≤ (cr.maxCell + 50) * cr.cells → (s.profile cr.profile).valid = true →
      ∃ t, exec (.reportReceived bytes) s = .next t ∧
      ((s.pack rep.tag = none ∧ s.register.packs.length < 96 ∨ ∃ r m, s.pack rep.tag = some r ∧ r.cls = c ∧
          r.place = .machine m ∧ r.mark = none ∧ r.standing = .serviceable) →
        (t.bay x.bay).state = .assess ∧ (t.bay x.bay).identity = .registered rep.tag ∧
        (t.bay x.bay).dockTime = some s.now ∧ (t.grant x.bay).request = 0 ∧
        (t.bay x.bay).session = some (Session.fresh cr.profile false .none)) ∧
      (s.pack rep.tag = none → s.register.packs.length < 96 →
        t.pack rep.tag = some ⟨rep.tag, c, .bay x.bay, .serviceable, 0, false, none, 0, 0, none⟩ ∧
        t.rotation c = rep.tag :: s.rotation c) ∧
      (∀ r m, s.pack rep.tag = some r → r.cls = c → r.place = .machine m → r.mark = none →
        r.standing = .serviceable →
        t.pack rep.tag = some { r with
          place := .bay x.bay, known := false, returns := min 65535 (r.returns + 1)
          equalize := if cr.chemistry = .flooded then min 255 (r.equalize + 1) else r.equalize } ∧
        t.register.rotation = s.register.rotation)) ∧
  (∀ (s : State) (x : Slot) (bytes : List Byte) (rep : Report), s.Identifies x bytes rep → 1 ≤ rep.tag →
    rep.tag ≤ 65534 →
    let b := x.bay
    (∀ r, s.pack rep.tag = some r → rep.classCode ≠ r.cls.val →
      ∃ t, exec (.reportReceived bytes) s = .next t ∧ t.NotIdentified b .mismatch none (some rep.tag) ∧
        t.register = s.register) ∧
    (s.pack rep.tag = none → (∀ c : ClassNo, c.val = rep.classCode → s.classRec c = none) →
      ∃ t, exec (.reportReceived bytes) s = .next t ∧ t.NotIdentified b .mismatch none (some rep.tag) ∧
        t.register = s.register) ∧
    (∀ r cr b', s.pack rep.tag = some r → rep.classCode = r.cls.val → s.classRec r.cls = some cr → cr.Bears rep →
      r.place = .bay b' → b' ≠ b → (s.bay b').state ≠ .masked → (s.bay b').showsTag rep.tag = true →
      ∃ t, exec (.reportReceived bytes) s = .next t ∧ t.NotIdentified b .duplicate (some r.cls) (some rep.tag) ∧
        t.register = s.register ∧ (t.bay b').outline = (s.bay b').outline) ∧
    (∀ r cr, s.pack rep.tag = some r → rep.classCode = r.cls.val → s.classRec r.cls = some cr → cr.Bears rep →
      s.duplicateIn b r = false →
      ∃ t, exec (.reportReceived bytes) s = .next t ∧ t.pack rep.tag = some (r.accepted b (cr.chemistry = .flooded)) ∧
        (∀ g, g ≠ rep.tag → t.pack g = s.pack g) ∧ t.register.rotation = s.register.rotation ∧
        .pack (r.accepted b (cr.chemistry = .flooded)) ∈ t.inFlight ∧
        t.disp.issues = (match r.mark with
          | some m => withoutDocked m rep.tag s.disp.issues
          | none => s.disp.issues) ∧
        (∀ k, r.standing = .quarantined k → (t.bay b).state = .standby ∧ (t.bay b).outcome = .none ∧
          (t.bay b).identity = .registered rep.tag ∧ (t.bay b).session = none ∧
          (t.bay b).drive = ⟨false, 0, 0, false, .held⟩) ∧
        (r.standing = .serviceable → cr.startLimit < rep.tm → (t.bay b).state = .cooling ∧
          (t.bay b).identity = .registered rep.tag ∧ (t.bay b).session = none ∧ (t.bay b).coolEntry = some s.now ∧
          (t.bay b).coolExpiry = (if cr.coolTimeout = 0 then none else some (s.now + cr.coolTimeout * 60000)) ∧
          (t.bay b).drive = ⟨false, 0, 0, false, .charging⟩) ∧
        (r.standing = .serviceable → rep.tm ≤ cr.startLimit → (s.profile cr.profile).valid = true →
          (t.bay b).identity = .registered rep.tag ∧
          (t.bay b).state = (if (r.accepted b (cr.chemistry = .flooded)).known then .charge else .assess))) ∧
    ∀ c cr d crd, s.pack rep.tag = none → c.val = rep.classCode → s.classRec c = some cr →
      96 ≤ s.register.packs.length → (s.bay b).cfg.defaultClass = d → s.classRec d = some crd → crd.Bears rep →
      rep.tm ≤ crd.startLimit → (s.profile crd.profile).valid = true →
      ∃ t, exec (.reportReceived bytes) s = .next t ∧ t.link.edges.regfull = true ∧ t.register = s.register ∧
        (t.bay b).state = .assess ∧ (t.bay b).identity = .anonymous d 0 false ∧
        (t.bay b).session = some (Session.fresh crd.profile false .none)) ∧
  ∀ (s : State) (x : Slot) (bytes : List Byte) (rep : Report), s.Identifies x bytes rep →
    rep.tag = 0 ∨ rep.tag = 65535 →
    let b := x.bay
    let tries := if (s.bay b).state = .vacant then 0 else (s.bay b).attempts
    (tries < 2 → ∃ t, exec (.reportReceived bytes) s = .next t ∧ (t.bay b).state = .identify ∧
      (t.bay b).attempts = tries + 1 ∧ (t.bay b).identity = .empty ∧ t.register = s.register ∧
      t.faultRec b = s.faultRec b) ∧
    (tries = 2 → ∀ d, (s.bay b).cfg.defaultClass = d →
      (s.classRec d = none → ∃ t, exec (.reportReceived bytes) s = .next t ∧
        t.NotIdentified b .mismatch none none ∧ t.register = s.register) ∧
      ∀ crd, s.classRec d = some crd → crd.Bears rep → rep.tm ≤ crd.startLimit →
        (s.profile crd.profile).valid = true → ∃ t, exec (.reportReceived bytes) s = .next t ∧
          t.register = s.register ∧ (t.bay b).state = .assess ∧ (t.bay b).identity = .anonymous d 0 false ∧
          (t.bay b).session = some (Session.fresh crd.profile false .none))

/-- A good report at or above the abort limit of a registered pack's class latches OVERTEMP in a charging bay: the session is
gone, the request is 0, the latch is open, and the pack is QUARANTINED with that cause and its charge written (log entry
21). Every later test that holds at the report is a
secondary kind. At a good report in FAULT each kind found that the record does not hold joins its secondary kinds in the
order of the tests, made with the class at latch while the pack is held, and nothing else of the record changes; OVERTEMP
or OVERVOLT that joins quarantines the registered pack at latch. -/
def Obligations.OvertempLatchesAndQuarantines : Prop :=
  (∀ (s : State) (x : Slot) (bytes : List Byte) (rep : Report) (g : Nat) (r : PackRec) (cr : ClassRec),
      s.running = true → s.BaysOk → s.scanner.slot = some x → 11 ≤ bytes.length → s.now ≤ x.sentAt + 30 →
      judgeReport x.bay (bytes.take 11) = some rep → (s.bay x.bay).inSession = true → (s.bay x.bay).reconcile = .no →
      (s.bay x.bay).identity = .registered g → s.pack g = some r → s.classRec r.cls = some cr →
      r.standing = .serviceable → rep.present = true → cr.abortLimit ≤ rep.tm →
      ∃ t, exec (.reportReceived bytes) s = .next t ∧ (t.bay x.bay).state = .fault ∧ (t.bay x.bay).session = none ∧
        (t.grant x.bay).request = 0 ∧ (t.bay x.bay).drive = ⟨false, 0, 0, true, .fault⟩ ∧
        t.pack g = some { r with standing := .quarantined .overtemp } ∧
        StoreWrite.charge g r.charge ∈ t.inFlight ∧
        ∃ f, t.faultRec x.bay = some f ∧ f.first = .overtemp ∧ f.latchTime = s.now ∧ f.pack = .registered g ∧
          f.cls = some r.cls ∧ f.held = true ∧ f.stage = ((s.bay x.bay).session.bind (·.stage)) ∧
          f.secondary = kindIf .overvolt (decide ((cr.maxCell + 50) * cr.cells < rep.vm * 10)) ++
            kindIf .stageAlarm rep.alarm ++
            kindIf .interlock (!rep.latchEngaged && (s.line x.bay).sent.drive.on)) ∧
  ∀ (s : State) (x : Slot) (bytes : List Byte) (rep : Report) (f : FaultRec), s.Hears x bytes rep →
    (s.bay x.bay).state = .fault → s.faultRec x.bay = some f → (s.bay x.bay).reconcile = .no → rep.present = true →
    let cr := if f.held then f.cls.bind s.classRec else none
    let hot := (cr.map fun c => decide (c.abortLimit ≤ rep.tm)).getD false
    let high := (cr.map fun c => decide ((c.maxCell + 50) * c.cells < rep.vm * 10)).getD false
    let found := kindIf .overtemp hot ++ kindIf .overvolt high ++ kindIf .stageAlarm rep.alarm ++
      kindIf .interlock (!rep.latchEngaged && (s.line x.bay).sent.drive.on)
    let new := found.filter fun k => decide (k ≠ f.first ∧ k ∉ f.secondary)
    ∃ t, exec (.reportReceived bytes) s = .next t ∧ (t.bay x.bay).state = .fault ∧
      t.faultRec x.bay = some { f with secondary := f.secondary ++ new } ∧
      (∀ g r, f.pack = .registered g → s.pack g = some r → t.pack g =
        some (if r.standing = .serviceable ∧ f.held = true then
          (if .overtemp ∈ new then { r with standing := .quarantined .overtemp }
          else if .overvolt ∈ new then { r with standing := .quarantined .overvolt } else r) else r)) ∧
      ∀ g, f.pack ≠ .registered g → t.pack g = s.pack g

/-- An evaluation. The clocks grow by the time since the later of the previous report and the stage entry, while the
stage drove its pack or is REST; the peak follows the voltage; and the eight flags are those of Table 3-5. In CHARGE at
the session limit fault TIMEOUT latches at the current stage. With neither that nor an exit the clocks and the accounts
of the session go on, the stored charge grows by the stored mAh and stops at the capacity, the target and the setpoint
are kept for the drive, and a stage other than REST hands on its request: a request that rises from 0 joins the tail of
its level's queue, and the others keep their order. The exit taken is the first in list order whose test and sense hold,
and with one its action is taken. And a good report that raises no fault at a bay in CHARGE or MAINTAIN is evaluated:
after it is recorded and the carried units are credited, the event does what the evaluation does, and but for the ready
counts handed on nothing else. -/
def Obligations.EvaluationWithoutExit : Prop :=
  (∀ (s : State) (x : Slot) (bytes : List Byte) (rep : Report) (cr : ClassRec), s.Hears x bytes rep → s.BaysOk →
    (s.bay x.bay).state = .charge ∨ (s.bay x.bay).state = .maintain → (s.bay x.bay).reconcile = .no →
    rep.present = true → s.Calm x.bay rep → s.classAt x.bay = some cr → cr.Bears rep →
    let l := s.line x.bay
    let credited := (s.settle.endSlot.modLine x.bay fun y =>
      { y with misses := 0, lostExpiry := none, answeredOn := l.sent.drive.on }).setCarried x.bay l.sent.units
    let recorded := credited.modBay x.bay fun y => { y with latest := some ⟨rep, s.now⟩ }
    let prev := ((s.bay x.bay).latest.map (·.arrival)).getD s.now
    let u := recorded.evaluate x.bay rep prev l.answeredOn
    ∃ t, exec (.reportReceived bytes) s = .next t ∧ (t.bay x.bay).session = (u.bay x.bay).session ∧
      (t.bay x.bay).state = (u.bay x.bay).state ∧ t.chargeAt x.bay = u.chargeAt x.bay ∧
      (t.grant x.bay).request = (u.grant x.bay).request ∧ t.faultRec x.bay = u.faultRec x.bay ∧
      t.register = u.register ∧ t.inFlight = u.inFlight ∧ t.outline = u.outline) ∧
  ∀ (s : State) (b : BayNo) (rep : Report) (prev : Nat) (on : Bool) (se : Session) (k : StageNo) (st : Stage)
    (cr : ClassRec), (s.bay b).session = some se → s.stageOf se = some (k, st) → s.classAt b = some cr →
    let se' := s.evaluated se st rep prev on
    let fl := s.evaluationFlags b se' st cr rep
    let grown := if on = true ∨ st.kind = .rest then s.now - max prev se.entry else 0
    let settled := st.settle * 1000 ≤ se'.served
    let flags :=
      [(Flag.vt, fl.vt), (.it, fl.it), (.pl, fl.pl), (.th, fl.th), (.ah, fl.ah), (.tm, fl.tm), (.eq, fl.eq), (.gr, fl.gr)]
    let holds := fun x : Exit => x.test = .always ∨ ∃ g, x.test = .flag g ∧ (g, x.senseSet) ∈ flags
    let t := s.evaluate b rep prev on
    (se'.served = se.served + grown ∧ se'.sessionServed = se.sessionServed + grown ∧
      se'.peak = max se.peak rep.vm ∧ se'.sinceRise = (if se.peak < rep.vm then 0 else se.sinceRise + grown) ∧
      se'.stage = some k ∧ se'.entry = se.entry ∧ se'.frames = se.frames ∧ se'.outcome = se.outcome) ∧
    ((fl.vt = true ↔ packTarget cr st rep.tm ≤ rep.vm * 10) ∧
      (fl.it = true ↔ settled ∧ rep.im ≤ (st.taper : Int)) ∧
      (fl.pl = true ↔ 0 < st.plateau ∧ settled ∧ st.plateau * 60000 ≤ se'.sinceRise) ∧
      (fl.th = true ↔ cr.hotLimit ≤ rep.tm) ∧ (fl.ah = true ↔ 0 < st.chargeLimit ∧ se'.chargeLeft = some 0) ∧
      (fl.tm = true ↔ 0 < st.timeLimit ∧ st.timeLimit * 60000 ≤ se'.served) ∧
      (fl.eq = true ↔ ∃ g r, (s.bay b).identity = .registered g ∧ s.pack g = some r ∧ cr.chemistry = .flooded ∧
        0 < cr.equalizeInterval ∧ cr.equalizeInterval ≤ r.equalize) ∧
      (fl.gr = true ↔ st.kind ≠ .rest ∧ (s.grant b).granted < (s.grant b).request)) ∧
    (∀ e, st.exitTaken fl = some e ↔
      ∃ pre post, st.exits = pre ++ e :: post ∧ holds e ∧ ∀ x ∈ pre, ¬ holds x) ∧
    (s.limitReached b se' = true ↔
      (s.bay b).state = .charge ∧ (s.profile se.profile).header.sessionLimit * 60000 ≤ se'.sessionServed) ∧
    (s.limitReached b se' = true → (t.bay b).state = .fault ∧ (t.bay b).session = none ∧
      ∃ r, t.faultRec b = some r ∧ r.first = .timeout ∧ r.stage = some k ∧ r.secondary = []) ∧
    (s.limitReached b se' = false → ∀ e, st.exitTaken fl = some e →
      let v := (s.enterEvaluation b se se' st cr rep prev fl).takeAction b se' k st e.action
      (t.bay b).session = (v.bay b).session ∧ (t.bay b).state = (v.bay b).state ∧ t.faultRec b = v.faultRec b ∧
        t.register = v.register ∧ t.inFlight = v.inFlight) ∧
    (s.limitReached b se' = false → st.exitTaken fl = none →
      (t.bay b).session = some { se' with lastFlags := fl, firstEval := false } ∧
      t.chargeAt b = (match (s.bay b).identity with
        | .empty => 0
        | .registered g => ((s.pack g).map fun r => addCharge cr.capacity r.charge
            (se.storedNow (s.now - prev) rep.im st.acceptance)).getD 0
        | .anonymous _ q _ => addCharge cr.capacity q (se.storedNow (s.now - prev) rep.im st.acceptance)) ∧
      (t.bay b).keptTarget = packTarget cr st rep.tm ∧ (t.bay b).keptIset = effectiveSetpoint se.warm st.iset ∧
      (t.bay b).state = (s.bay b).state ∧ t.faultRec b = s.faultRec b ∧
      (t.grant b).request = (if st.kind = .rest then (s.grant b).request else evaluationRequest se st cr rep) ∧
      (∀ l : LevelNo, t.alloc.queues[l] =
        if l = (s.grant b).level ∧ (s.grant b).request = 0 ∧ (t.grant b).request ≠ 0 then s.alloc.queues[l] ++ [b]
        else if l = (s.grant b).level ∧ (s.grant b).request ≠ 0 ∧ (t.grant b).request = 0 then
          s.alloc.queues[l].filter fun x => decide (x ≠ b)
        else s.alloc.queues[l]) ∧
      (∀ x, x ≠ b → (t.bay x).outline = (s.bay x).outline ∧ (t.grant x).outline = (s.grant x).outline))

/-- What an exit's action does to the session of a CHARGE bay: GOTO enters a stage, CALL pushes a frame and enters one,
RETURN goes back to the frame's stage with or without its saved progress, COMPLETE goes to MAINTAIN at the maintain
stage or ends the session, and a third frame, a RETURN from an empty stack and FAULT latch a fault. In MAINTAIN COMPLETE and a
GOTO to the maintain stage enter it afresh and the bay stays, any other GOTO and a CALL move the bay back to CHARGE with
outcome NONE and the session served time 0, and RETURN and FAULT latch. A stage with an equalize mark that is left by GOTO,
CALL, RETURN or COMPLETE sets a registered pack's equalize count to 0 and writes it; FAULT leaves the count. -/
def Obligations.ExitActionsMoveTheSession : Prop :=
  (∀ (s : State) (b : BayNo) (se : Session) (k : StageNo) (st : Stage), (s.bay b).state = .charge →
      (s.bay b).session = some se →
      let after := fun a => ((s.takeAction b se k st a).bay b)
      let faulted := fun a kind n => (after a).state = .fault ∧ (after a).session = none ∧
        ∃ r, (s.takeAction b se k st a).faultRec b = some r ∧ r.first = kind ∧ r.number = n ∧ r.stage = se.stage
      (∀ j, (after (.goto j)).session = some (se.entered j s.now (s.baseAt b j) false) ∧
        (after (.goto j)).state = .charge) ∧
      (∀ j, se.frames.length < 2 →
        (after (.callResume j)).session = some (({ se with frames :=
          ⟨k, some ⟨se.served, se.chargeLeft, se.peak, se.sinceRise⟩⟩ :: se.frames } : Session).entered j s.now
            (s.baseAt b j) true) ∧
        (after (.callRestart j)).session = some (({ se with frames :=
          ⟨k, none⟩ :: se.frames } : Session).entered j s.now (s.baseAt b j) true)) ∧
      (∀ j, 2 ≤ se.frames.length → faulted (.callResume j) .profile none ∧ faulted (.callRestart j) .profile none) ∧
      (se.frames = [] → faulted .ret .profile none) ∧
      (∀ f fs, se.frames = f :: fs →
        (∀ v, f.saved = some v → (after .ret).session = some { se with
          frames := fs, stage := some f.stage, served := v.served, entry := s.now, chargeLeft := v.chargeLeft
          peak := v.peak, sinceRise := v.sinceRise, firstEval := true, restart := true }) ∧
        (f.saved = none → (after .ret).session = some (({ se with frames := fs } : Session).entered f.stage s.now
          (s.baseAt b f.stage) true))) ∧
      (∀ j, s.maintainStage b = some j → (after .complete).state = .maintain ∧
        (after .complete).session = some (({ se with outcome := .complete, frames := [], sessionServed := 0 } : Session
          ).entered j s.now (s.baseAt b j) false)) ∧
      (s.maintainStage b = none → (after .complete).state = .standby ∧ (after .complete).outcome = .complete ∧
        (after .complete).session = none) ∧
      ∀ n, faulted (.fault n) .profileStop (some n)) ∧
  (∀ (s : State) (b : BayNo) (se : Session) (k : StageNo) (st : Stage) (m : StageNo), (s.bay b).state = .maintain →
    (s.bay b).session = some se → se.frames = [] → s.maintainStage b = some m →
    let after := fun a => ((s.takeAction b se k st a).bay b)
    let back := fun (x : Session) => some { x with outcome := .none, sessionServed := 0 }
    let faulted := fun a kind n => (after a).state = .fault ∧ (after a).session = none ∧
      ∃ r, (s.takeAction b se k st a).faultRec b = some r ∧ r.first = kind ∧ r.number = n ∧ r.stage = se.stage
    (∀ a, a = .complete ∨ a = .goto m → (after a).state = .maintain ∧
      (after a).session = some (se.entered m s.now (s.baseAt b m) false) ∧
      (st.equalizeMark = false → (s.takeAction b se k st a).inFlight = s.inFlight)) ∧
    (∀ j, j ≠ m → (after (.goto j)).state = .charge ∧
      (after (.goto j)).session = back (se.entered j s.now (s.baseAt b j) false)) ∧
    (∀ j, (after (.callResume j)).state = .charge ∧ (after (.callRestart j)).state = .charge ∧
      (after (.callResume j)).session = back (({ se with frames :=
        [⟨k, some ⟨se.served, se.chargeLeft, se.peak, se.sinceRise⟩⟩] } : Session).entered j s.now (s.baseAt b j) true) ∧
      (after (.callRestart j)).session = back (({ se with frames := [⟨k, none⟩] } : Session).entered j s.now
        (s.baseAt b j) true)) ∧
    faulted .ret .profile none ∧ ∀ n, faulted (.fault n) .profileStop (some n)) ∧
  ∀ (s : State) (b : BayNo) (se : Session) (k : StageNo) (st : Stage) (a : Action) (g : Nat) (r : PackRec),
    (s.bay b).state = .charge ∨ (s.bay b).state = .maintain → (s.bay b).session = some se →
    (s.bay b).identity = .registered g → s.pack g = some r →
    let t := s.takeAction b se k st a
    ((∀ n, a ≠ .fault n) → (a = .ret → se.frames ≠ []) →
      (∀ j, a = .callResume j ∨ a = .callRestart j → se.frames.length < 2) →
      (st.equalizeMark = true → t.pack g = some { r with equalize := 0 } ∧ .pack { r with equalize := 0 } ∈ t.inFlight) ∧
      (st.equalizeMark = false → t.pack g = some r)) ∧
    ((∃ n, a = .fault n) ∨ (a = .ret ∧ se.frames = []) →
      (t.pack g).map (·.equalize) = some r.equalize)

/-! ## Arithmetic of chapter 4 -/

/-- Charge is conserved by the residues: delivered and stored whole mAh with the new residues are exactly what flowed in
with the old ones. State of charge and band of a charge within the capacity stay within 100 and 10; the open-circuit
estimate is 0 % at or below the first point and without a table, 100 % at or above the last, exact at the inner points,
never above 100 and rising with the voltage; and the estimated charge reads back as the estimate. -/
def Obligations.ChargeAccountsAndEstimates : Prop :=
  (∀ (se : Session) (real : Nat) (im : Int) (acceptance : Nat),
    let interval := if se.restart then 0 else min real 5000
    let current := min 2000 im.toNat
    let t := se.accounted real im acceptance
    se.deliveredNow real im * 36000 + t.deliveredResidue = current * interval + se.deliveredResidue ∧
    t.deliveredResidue < 36000 ∧
    se.storedNow real im acceptance * 100 + t.storedResidue = se.deliveredNow real im * acceptance + se.storedResidue ∧
    t.storedResidue < 100 ∧ t.restart = false ∧
    t.delivered = min 4294967295 (se.delivered + se.deliveredNow real im) ∧
    t.chargeLeft = se.chargeLeft.map fun n => n - se.deliveredNow real im) ∧
  (∀ capacity charge : Nat, charge ≤ capacity * 1000 → soc charge capacity ≤ 100 ∧ band (soc charge capacity) ≤ 10) ∧
  (∀ (cr : ClassRec) (vm : Nat), 1 ≤ cr.capacity →
    soc (estimateCharge cr vm) cr.capacity = ocvPercent cr.ocv (vm * 10 / cr.cells)) ∧
  (∀ v, ocvPercent none v = 0) ∧
  ∀ o : Ocv, o.p0 < o.p1 → o.p1 < o.p2 → o.p2 < o.p3 → o.p3 < o.p4 →
    (∀ v, v ≤ o.p0 → ocvPercent (some o) v = 0) ∧ (∀ v, o.p4 ≤ v → ocvPercent (some o) v = 100) ∧
    ocvPercent (some o) o.p1 = 25 ∧ ocvPercent (some o) o.p2 = 50 ∧ ocvPercent (some o) o.p3 = 75 ∧
    (∀ v, ocvPercent (some o) v ≤ 100) ∧ ∀ v w, v ≤ w → ocvPercent (some o) v ≤ ocvPercent (some o) w

/-- The pack target lies between min_cell and max_cell times the cells, and is exactly the stage's target with the
truncated compensation where that lies between them. A request is 0 exactly for a raw request of 0 and otherwise between
the floor and 200; a CURRENT or VOLTAGE stage's raw request is at least 1 and at most the power of the setpoint. The
commanded current stays within the setpoint and its power within the grant. -/
def Obligations.SetpointArithmeticStaysInBounds : Prop :=
  (∀ (cr : ClassRec) (st : Stage) (tm : Int), cr.minCell < cr.maxCell →
    let tc := min 50 (max 0 tm)
    let comp := Int.tdiv (st.coefficient * (tc - 25)) 10
    cr.minCell * cr.cells ≤ packTarget cr st tm ∧ packTarget cr st tm ≤ cr.maxCell * cr.cells ∧
    (∀ v : Nat, (v : Int) = st.cellTarget + comp → cr.minCell ≤ v → v ≤ cr.maxCell →
      packTarget cr st tm = v * cr.cells) ∧
    (-100 ≤ st.coefficient → st.coefficient ≤ 100 → -250 ≤ comp ∧ comp ≤ 250)) ∧
  (∀ floor raw : Nat, 1 ≤ floor → floor ≤ 200 → (requestOf floor raw = 0 ↔ raw = 0) ∧
    (raw ≠ 0 → floor ≤ requestOf floor raw ∧ requestOf floor raw ≤ 200)) ∧
  (∀ (kind : StageKind) (first : Bool) (target iset im : Nat), 0 < target → 0 < iset →
    (kind = .rest → rawRequest kind first target iset im = 0) ∧
    (kind = .current → rawRequest kind first target iset im = unitsOf target iset) ∧
    (kind ≠ .rest → 0 < rawRequest kind first target iset im ∧
      rawRequest kind first target iset im ≤ unitsOf target iset)) ∧
  ∀ iset granted target : Nat, 0 < target →
    commandedCurrent iset granted target ≤ iset ∧ commandedCurrent iset granted target * target ≤ granted * 1000000 ∧
    (unitsOf target iset ≤ granted → commandedCurrent iset granted target = iset) ∧
    (0 < granted → 0 < iset → target ≤ 1000000 → 0 < commandedCurrent iset granted target)

/-! ## Every step -/

/-- No command but those of Table 9-4 changes configuration. No command changes the queue, which is the model's own field,
and none but the supply and the restore changes the clock, which goes on with an empty queue only (the model's choices, log
entries 2 and 4). -/
def Obligations.OnlySettingsChangeConfiguration : Prop :=
  ∀ (s t : State) (c : Instr), exec c s = .next t → s.running = true → powerRow c = false →
    t.pending = s.pending ∧ t.now = s.now ∧ (c ≠ .depotMinuteAdvance → t.minute = s.minute) ∧
    (writesClasses c = false → t.register.classes = s.register.classes) ∧
    (writesProfiles c = false → t.profiles = s.profiles) ∧
    (writesBayCfgs c = false → ∀ b, (t.bay b).cfg = (s.bay b).cfg) ∧
    (writesSite c = false → t.alloc.siteCap = s.alloc.siteCap ∧ t.alloc.scheme = s.alloc.scheme ∧
      t.disp.lookahead = s.disp.lookahead ∧ t.disp.window = s.disp.window ∧
      t.scanner.scanInterval = s.scanner.scanInterval) ∧
    (writesFeeders c = false → t.alloc.feederCaps = s.alloc.feederCaps) ∧
    (writesMask c = false → t.link.mask = s.link.mask)

/-- Every step keeps the level queues in agreement with the grant table, the grants within the caps, and the turns lawful.
Where bays hold what their states allow and each registered pack's record names its bay, every step also keeps each bay's
level the one of R96, and every request and grant at 0 or at least at its bay's floor. A request that rises from 0 and a
level that changes put a bay at the tail of its queue, a request that falls to 0 takes it out, and the other bays of a queue
keep their order. -/
def Obligations.StepKeepsGrantsLawful : Prop :=
  (∀ s t : State, step s = .next t →
    (s.GrantTableOk → t.GrantTableOk) ∧
    (s.BaysOk → s.IdentitiesPlaced → s.LevelsOk → t.LevelsOk) ∧
    (s.GrantTableOk → s.BaysOk → s.IdentitiesPlaced → s.FloorsOk → t.FloorsOk)) ∧
  ∀ (s : State) (b : BayNo), s.QueuesAgree →
    let own := (s.grant b).level
    let others := fun l : LevelNo => s.alloc.queues[l].filter fun x => decide (x ≠ b)
    (∀ (r : Nat) (l : LevelNo), (s.handRequest b r).alloc.queues[l] =
      if l = own ∧ (s.grant b).request = 0 ∧ r ≠ 0 then s.alloc.queues[l] ++ [b]
      else if l = own ∧ r = 0 then others l else s.alloc.queues[l]) ∧
    (∀ l : LevelNo, (s.releaseRequest b).alloc.queues[l] = if l = own then others l else s.alloc.queues[l]) ∧
    ∀ l : LevelNo, (s.relevel b).alloc.queues[l] =
      if s.levelOf b = own ∨ (s.grant b).request = 0 then s.alloc.queues[l]
      else if l = s.levelOf b then s.alloc.queues[l] ++ [b]
      else if l = own then others l else s.alloc.queues[l]

/-- Every step keeps pack records and rotation lists in agreement, and the register and every image of it that a loss of
power can leave within 96 records. -/
def Obligations.StepKeepsRegisterInAgreement : Prop :=
  ∀ s t : State, step s = .next t → s.RegisterOk → t.RegisterOk ∧ (s.RecordsFit → t.RecordsFit)

/-- Every step keeps every bay's drive that of its state and grant, and every bay whose drive lowers power against the last
drive sent on the prompt list; the bays that stay on this list through a step keep their places ahead of those that join. -/
def Obligations.StepKeepsDrives : Prop :=
  ∀ s t : State, step s = .next t →
    (s.DrivesOk → t.DrivesOk) ∧ (s.LowersListed → t.LowersListed) ∧
    (s.scanner.prompt.filter fun b => decide (b ∈ t.scanner.prompt)) <+: t.scanner.prompt

/-- Every step keeps a bay in FAULT exactly while its record is latched, and sessions, pre-issue states and requests to the
states that hold them. -/
def Obligations.StepKeepsBayStates : Prop := ∀ s t : State, s.BaysOk → step s = .next t → t.BaysOk

/-- Every step keeps the bounds and the orders of the issue list, the reservation list and the prompt list. -/
def Obligations.StepKeepsLists : Prop := ∀ s t : State, s.ListsOk → step s = .next t → t.ListsOk

/-- Every step keeps every class's shortage state the one that its ready count, its reservations and the depot minute
give; a step in which a class becomes short leaves attention SHORT set with the class in its set; and where no pack of a
TAKEN part is ready, every ready count that a step changes is handed to the dispatcher in it. -/
def Obligations.StepKeepsShortages : Prop :=
  ∀ s t : State, step s = .next t →
    (s.ShortagesOk → t.ShortagesOk) ∧
    (∀ c : ClassNo, s.disp.short[c] = false → t.disp.short[c] = true →
      t.link.shortSet[c] = true ∧ t.flagSet .short = true) ∧
    (s.register.Agrees → s.TakenNotReady → s.ReadyHanded → t.ReadyHanded)

end
end

