-- ==== Sys2Proof/Laws/Bytes.lean ====
section
/-! SUPPORT. The bytes of the two lines: a number that fits comes back from its bytes, and the two check bytes check. -/

namespace Sys2Proof.Machine

@[simp] theorem u1_toNat (n : Nat) : (u1 n).toNat = n % 256 := by simp [u1]

/-- A two-byte number comes back from its bytes. -/
theorem ofU2_u2 {n : Nat} (h : n < 65536) : ofU2 (u1 (n / 256)) (u1 n) = n := by
  simp only [ofU2, u1_toNat]
  omega

/-- A four-byte number comes back from its bytes, modulo 4,294,967,296. -/
theorem ofU4_u4 (n : Nat) : ofU2 (u1 (n / 65536 / 256)) (u1 (n / 65536)) * 65536 + ofU2 (u1 (n / 256)) (u1 n) =
    n % 4294967296 := by
  simp only [ofU2, u1_toNat]
  omega

/-- A signed byte comes back. -/
theorem i1_toInt {x : Int} (h : -128 ≤ x) (h' : x ≤ 127) : (i1 x).toInt = x := by
  rw [i1, BitVec.toInt_ofInt]
  exact Int.bmod_eq_of_le (by omega) (by omega)

theorem sumBytes_append (l m : List Byte) : sumBytes (l ++ m) = sumBytes l + sumBytes m := by
  induction l with
  | nil => simp [sumBytes]
  | cons b bs ih => rw [List.cons_append, sumBytes, sumBytes, ih, BitVec.add_assoc]

theorem xorBytes_append (l m : List Byte) : xorBytes (l ++ m) = xorBytes l ^^^ xorBytes m := by
  induction l with
  | nil => simp [xorBytes]
  | cons b bs ih => rw [List.cons_append, xorBytes, xorBytes, ih, BitVec.xor_assoc]

/-- The check byte of R170 makes the frame check. -/
theorem frameChecks_checkByte (kind : Byte) (body : List Byte) : frameChecks kind body (checkByte kind body) = true := by
  have h : ∀ a d : Byte, a + (kind + d) + (-(a + (kind + d)) + 0) = 0 := by
    intro a d
    bv_omega
  unfold frameChecks
  rw [sumBytes_append, checkByte]
  exact decide_eq_true (h _ _)

/-- The bytes of a frame after its start marker sum to 0 (R170). -/
theorem sumBytes_frameBytes (kind : Byte) (body : List Byte) : sumBytes ((frameBytes kind body).tail) = 0 := by
  simpa [frameChecks, frameBytes] using frameChecks_checkByte kind body

/-- A frame has four bytes around its body: start marker, length, kind and check. -/
@[simp] theorem frameBytes_length (kind : Byte) (body : List Byte) : (frameBytes kind body).length = body.length + 4 := by
  simp [frameBytes]

/-- An answered command puts the reply's frame on the TX pin (R174). -/
@[simp] theorem State.txBytes_of_reply {s : State} {r : Reply} (h : s.link.reply = some r) :
    s.txBytes = frameBytes r.kind (r.status.code :: r.contents) := by
  simp [State.txBytes, h, Reply.frame, Reply.body]

/-- The exclusive-or of R187 over a poll is 0. -/
theorem xorBytes_pollBytes (b : BayNo) (d : Drive) : xorBytes (pollBytes b d) = 0 := by
  simp [pollBytes, xorBytes_append, xorBytes]

end Sys2Proof.Machine
end

