-- ==== Sys2Proof/Laws/State.lean ====
section
/-! SUPPORT. The lemmas of the state's updates: for each update and each part of the state that an event reads, what the
update leaves there. They are true by unfolding one record update, and carry `@[simp]`, so that no later proof unfolds one. -/

namespace Sys2Proof.Machine

variable (s : State)

/-! ## modBay -/

@[simp] theorem State.modBay_powered (b : BayNo) (f : Bay → Bay) : (s.modBay b f).powered = s.powered := rfl
@[simp] theorem State.modBay_resetLow (b : BayNo) (f : Bay → Bay) : (s.modBay b f).resetLow = s.resetLow := rfl
@[simp] theorem State.modBay_restoring (b : BayNo) (f : Bay → Bay) : (s.modBay b f).restoring = s.restoring := rfl
@[simp] theorem State.modBay_now (b : BayNo) (f : Bay → Bay) : (s.modBay b f).now = s.now := rfl
@[simp] theorem State.modBay_minute (b : BayNo) (f : Bay → Bay) : (s.modBay b f).minute = s.minute := rfl
@[simp] theorem State.modBay_register (b : BayNo) (f : Bay → Bay) : (s.modBay b f).register = s.register := rfl
@[simp] theorem State.modBay_profiles (b : BayNo) (f : Bay → Bay) : (s.modBay b f).profiles = s.profiles := rfl
@[simp] theorem State.modBay_alloc (b : BayNo) (f : Bay → Bay) : (s.modBay b f).alloc = s.alloc := rfl
@[simp] theorem State.modBay_disp (b : BayNo) (f : Bay → Bay) : (s.modBay b f).disp = s.disp := rfl
@[simp] theorem State.modBay_faults (b : BayNo) (f : Bay → Bay) : (s.modBay b f).faults = s.faults := rfl
@[simp] theorem State.modBay_scanner (b : BayNo) (f : Bay → Bay) : (s.modBay b f).scanner = s.scanner := rfl
@[simp] theorem State.modBay_link (b : BayNo) (f : Bay → Bay) : (s.modBay b f).link = s.link := rfl
@[simp] theorem State.modBay_store (b : BayNo) (f : Bay → Bay) : (s.modBay b f).store = s.store := rfl
@[simp] theorem State.modBay_inFlight (b : BayNo) (f : Bay → Bay) : (s.modBay b f).inFlight = s.inFlight := rfl
@[simp] theorem State.modBay_freeDraw (b : BayNo) (f : Bay → Bay) : (s.modBay b f).freeDraw = s.freeDraw := rfl
@[simp] theorem State.modBay_pending (b : BayNo) (f : Bay → Bay) : (s.modBay b f).pending = s.pending := rfl

/-! ## modGrant -/

@[simp] theorem State.modGrant_powered (b : BayNo) (f : Grant → Grant) : (s.modGrant b f).powered = s.powered := rfl
@[simp] theorem State.modGrant_resetLow (b : BayNo) (f : Grant → Grant) : (s.modGrant b f).resetLow = s.resetLow := rfl
@[simp] theorem State.modGrant_restoring (b : BayNo) (f : Grant → Grant) : (s.modGrant b f).restoring = s.restoring := rfl
@[simp] theorem State.modGrant_now (b : BayNo) (f : Grant → Grant) : (s.modGrant b f).now = s.now := rfl
@[simp] theorem State.modGrant_minute (b : BayNo) (f : Grant → Grant) : (s.modGrant b f).minute = s.minute := rfl
@[simp] theorem State.modGrant_register (b : BayNo) (f : Grant → Grant) : (s.modGrant b f).register = s.register := rfl
@[simp] theorem State.modGrant_profiles (b : BayNo) (f : Grant → Grant) : (s.modGrant b f).profiles = s.profiles := rfl
@[simp] theorem State.modGrant_bays (b : BayNo) (f : Grant → Grant) : (s.modGrant b f).bays = s.bays := rfl
@[simp] theorem State.modGrant_disp (b : BayNo) (f : Grant → Grant) : (s.modGrant b f).disp = s.disp := rfl
@[simp] theorem State.modGrant_faults (b : BayNo) (f : Grant → Grant) : (s.modGrant b f).faults = s.faults := rfl
@[simp] theorem State.modGrant_scanner (b : BayNo) (f : Grant → Grant) : (s.modGrant b f).scanner = s.scanner := rfl
@[simp] theorem State.modGrant_link (b : BayNo) (f : Grant → Grant) : (s.modGrant b f).link = s.link := rfl
@[simp] theorem State.modGrant_store (b : BayNo) (f : Grant → Grant) : (s.modGrant b f).store = s.store := rfl
@[simp] theorem State.modGrant_inFlight (b : BayNo) (f : Grant → Grant) : (s.modGrant b f).inFlight = s.inFlight := rfl
@[simp] theorem State.modGrant_freeDraw (b : BayNo) (f : Grant → Grant) : (s.modGrant b f).freeDraw = s.freeDraw := rfl
@[simp] theorem State.modGrant_pending (b : BayNo) (f : Grant → Grant) : (s.modGrant b f).pending = s.pending := rfl

/-! ## modLine -/

@[simp] theorem State.modLine_powered (b : BayNo) (f : LineRec → LineRec) : (s.modLine b f).powered = s.powered := rfl
@[simp] theorem State.modLine_resetLow (b : BayNo) (f : LineRec → LineRec) : (s.modLine b f).resetLow = s.resetLow := rfl
@[simp] theorem State.modLine_restoring (b : BayNo) (f : LineRec → LineRec) : (s.modLine b f).restoring = s.restoring := rfl
@[simp] theorem State.modLine_now (b : BayNo) (f : LineRec → LineRec) : (s.modLine b f).now = s.now := rfl
@[simp] theorem State.modLine_minute (b : BayNo) (f : LineRec → LineRec) : (s.modLine b f).minute = s.minute := rfl
@[simp] theorem State.modLine_register (b : BayNo) (f : LineRec → LineRec) : (s.modLine b f).register = s.register := rfl
@[simp] theorem State.modLine_profiles (b : BayNo) (f : LineRec → LineRec) : (s.modLine b f).profiles = s.profiles := rfl
@[simp] theorem State.modLine_bays (b : BayNo) (f : LineRec → LineRec) : (s.modLine b f).bays = s.bays := rfl
@[simp] theorem State.modLine_alloc (b : BayNo) (f : LineRec → LineRec) : (s.modLine b f).alloc = s.alloc := rfl
@[simp] theorem State.modLine_disp (b : BayNo) (f : LineRec → LineRec) : (s.modLine b f).disp = s.disp := rfl
@[simp] theorem State.modLine_faults (b : BayNo) (f : LineRec → LineRec) : (s.modLine b f).faults = s.faults := rfl
@[simp] theorem State.modLine_link (b : BayNo) (f : LineRec → LineRec) : (s.modLine b f).link = s.link := rfl
@[simp] theorem State.modLine_store (b : BayNo) (f : LineRec → LineRec) : (s.modLine b f).store = s.store := rfl
@[simp] theorem State.modLine_inFlight (b : BayNo) (f : LineRec → LineRec) : (s.modLine b f).inFlight = s.inFlight := rfl
@[simp] theorem State.modLine_freeDraw (b : BayNo) (f : LineRec → LineRec) : (s.modLine b f).freeDraw = s.freeDraw := rfl
@[simp] theorem State.modLine_pending (b : BayNo) (f : LineRec → LineRec) : (s.modLine b f).pending = s.pending := rfl

/-! ## setFault -/

@[simp] theorem State.setFault_powered (b : BayNo) (r : Option FaultRec) : (s.setFault b r).powered = s.powered := rfl
@[simp] theorem State.setFault_resetLow (b : BayNo) (r : Option FaultRec) : (s.setFault b r).resetLow = s.resetLow := rfl
@[simp] theorem State.setFault_restoring (b : BayNo) (r : Option FaultRec) : (s.setFault b r).restoring = s.restoring := rfl
@[simp] theorem State.setFault_now (b : BayNo) (r : Option FaultRec) : (s.setFault b r).now = s.now := rfl
@[simp] theorem State.setFault_minute (b : BayNo) (r : Option FaultRec) : (s.setFault b r).minute = s.minute := rfl
@[simp] theorem State.setFault_register (b : BayNo) (r : Option FaultRec) : (s.setFault b r).register = s.register := rfl
@[simp] theorem State.setFault_profiles (b : BayNo) (r : Option FaultRec) : (s.setFault b r).profiles = s.profiles := rfl
@[simp] theorem State.setFault_bays (b : BayNo) (r : Option FaultRec) : (s.setFault b r).bays = s.bays := rfl
@[simp] theorem State.setFault_alloc (b : BayNo) (r : Option FaultRec) : (s.setFault b r).alloc = s.alloc := rfl
@[simp] theorem State.setFault_disp (b : BayNo) (r : Option FaultRec) : (s.setFault b r).disp = s.disp := rfl
@[simp] theorem State.setFault_scanner (b : BayNo) (r : Option FaultRec) : (s.setFault b r).scanner = s.scanner := rfl
@[simp] theorem State.setFault_link (b : BayNo) (r : Option FaultRec) : (s.setFault b r).link = s.link := rfl
@[simp] theorem State.setFault_store (b : BayNo) (r : Option FaultRec) : (s.setFault b r).store = s.store := rfl
@[simp] theorem State.setFault_inFlight (b : BayNo) (r : Option FaultRec) : (s.setFault b r).inFlight = s.inFlight := rfl
@[simp] theorem State.setFault_freeDraw (b : BayNo) (r : Option FaultRec) : (s.setFault b r).freeDraw = s.freeDraw := rfl
@[simp] theorem State.setFault_pending (b : BayNo) (r : Option FaultRec) : (s.setFault b r).pending = s.pending := rfl

/-! ## setQueue -/

@[simp] theorem State.setQueue_powered (l : LevelNo) (q : List BayNo) : (s.setQueue l q).powered = s.powered := rfl
@[simp] theorem State.setQueue_resetLow (l : LevelNo) (q : List BayNo) : (s.setQueue l q).resetLow = s.resetLow := rfl
@[simp] theorem State.setQueue_restoring (l : LevelNo) (q : List BayNo) : (s.setQueue l q).restoring = s.restoring := rfl
@[simp] theorem State.setQueue_now (l : LevelNo) (q : List BayNo) : (s.setQueue l q).now = s.now := rfl
@[simp] theorem State.setQueue_minute (l : LevelNo) (q : List BayNo) : (s.setQueue l q).minute = s.minute := rfl
@[simp] theorem State.setQueue_register (l : LevelNo) (q : List BayNo) : (s.setQueue l q).register = s.register := rfl
@[simp] theorem State.setQueue_profiles (l : LevelNo) (q : List BayNo) : (s.setQueue l q).profiles = s.profiles := rfl
@[simp] theorem State.setQueue_bays (l : LevelNo) (q : List BayNo) : (s.setQueue l q).bays = s.bays := rfl
@[simp] theorem State.setQueue_disp (l : LevelNo) (q : List BayNo) : (s.setQueue l q).disp = s.disp := rfl
@[simp] theorem State.setQueue_faults (l : LevelNo) (q : List BayNo) : (s.setQueue l q).faults = s.faults := rfl
@[simp] theorem State.setQueue_scanner (l : LevelNo) (q : List BayNo) : (s.setQueue l q).scanner = s.scanner := rfl
@[simp] theorem State.setQueue_link (l : LevelNo) (q : List BayNo) : (s.setQueue l q).link = s.link := rfl
@[simp] theorem State.setQueue_store (l : LevelNo) (q : List BayNo) : (s.setQueue l q).store = s.store := rfl
@[simp] theorem State.setQueue_inFlight (l : LevelNo) (q : List BayNo) : (s.setQueue l q).inFlight = s.inFlight := rfl
@[simp] theorem State.setQueue_freeDraw (l : LevelNo) (q : List BayNo) : (s.setQueue l q).freeDraw = s.freeDraw := rfl
@[simp] theorem State.setQueue_pending (l : LevelNo) (q : List BayNo) : (s.setQueue l q).pending = s.pending := rfl

/-! ## setIssues -/

@[simp] theorem State.setIssues_powered (l : List Issue) : (s.setIssues l).powered = s.powered := rfl
@[simp] theorem State.setIssues_resetLow (l : List Issue) : (s.setIssues l).resetLow = s.resetLow := rfl
@[simp] theorem State.setIssues_restoring (l : List Issue) : (s.setIssues l).restoring = s.restoring := rfl
@[simp] theorem State.setIssues_now (l : List Issue) : (s.setIssues l).now = s.now := rfl
@[simp] theorem State.setIssues_minute (l : List Issue) : (s.setIssues l).minute = s.minute := rfl
@[simp] theorem State.setIssues_register (l : List Issue) : (s.setIssues l).register = s.register := rfl
@[simp] theorem State.setIssues_profiles (l : List Issue) : (s.setIssues l).profiles = s.profiles := rfl
@[simp] theorem State.setIssues_bays (l : List Issue) : (s.setIssues l).bays = s.bays := rfl
@[simp] theorem State.setIssues_alloc (l : List Issue) : (s.setIssues l).alloc = s.alloc := rfl
@[simp] theorem State.setIssues_faults (l : List Issue) : (s.setIssues l).faults = s.faults := rfl
@[simp] theorem State.setIssues_scanner (l : List Issue) : (s.setIssues l).scanner = s.scanner := rfl
@[simp] theorem State.setIssues_link (l : List Issue) : (s.setIssues l).link = s.link := rfl
@[simp] theorem State.setIssues_store (l : List Issue) : (s.setIssues l).store = s.store := rfl
@[simp] theorem State.setIssues_inFlight (l : List Issue) : (s.setIssues l).inFlight = s.inFlight := rfl
@[simp] theorem State.setIssues_freeDraw (l : List Issue) : (s.setIssues l).freeDraw = s.freeDraw := rfl
@[simp] theorem State.setIssues_pending (l : List Issue) : (s.setIssues l).pending = s.pending := rfl

/-! ## setReservations -/

@[simp] theorem State.setReservations_powered (l : List Reservation) : (s.setReservations l).powered = s.powered := rfl
@[simp] theorem State.setReservations_resetLow (l : List Reservation) : (s.setReservations l).resetLow = s.resetLow := rfl
@[simp] theorem State.setReservations_restoring (l : List Reservation) : (s.setReservations l).restoring = s.restoring := rfl
@[simp] theorem State.setReservations_now (l : List Reservation) : (s.setReservations l).now = s.now := rfl
@[simp] theorem State.setReservations_minute (l : List Reservation) : (s.setReservations l).minute = s.minute := rfl
@[simp] theorem State.setReservations_register (l : List Reservation) : (s.setReservations l).register = s.register := rfl
@[simp] theorem State.setReservations_profiles (l : List Reservation) : (s.setReservations l).profiles = s.profiles := rfl
@[simp] theorem State.setReservations_bays (l : List Reservation) : (s.setReservations l).bays = s.bays := rfl
@[simp] theorem State.setReservations_alloc (l : List Reservation) : (s.setReservations l).alloc = s.alloc := rfl
@[simp] theorem State.setReservations_faults (l : List Reservation) : (s.setReservations l).faults = s.faults := rfl
@[simp] theorem State.setReservations_scanner (l : List Reservation) : (s.setReservations l).scanner = s.scanner := rfl
@[simp] theorem State.setReservations_link (l : List Reservation) : (s.setReservations l).link = s.link := rfl
@[simp] theorem State.setReservations_store (l : List Reservation) : (s.setReservations l).store = s.store := rfl
@[simp] theorem State.setReservations_inFlight (l : List Reservation) : (s.setReservations l).inFlight = s.inFlight := rfl
@[simp] theorem State.setReservations_freeDraw (l : List Reservation) : (s.setReservations l).freeDraw = s.freeDraw := rfl
@[simp] theorem State.setReservations_pending (l : List Reservation) : (s.setReservations l).pending = s.pending := rfl

/-! ## setPrompt -/

@[simp] theorem State.setPrompt_powered (l : List BayNo) : (s.setPrompt l).powered = s.powered := rfl
@[simp] theorem State.setPrompt_resetLow (l : List BayNo) : (s.setPrompt l).resetLow = s.resetLow := rfl
@[simp] theorem State.setPrompt_restoring (l : List BayNo) : (s.setPrompt l).restoring = s.restoring := rfl
@[simp] theorem State.setPrompt_now (l : List BayNo) : (s.setPrompt l).now = s.now := rfl
@[simp] theorem State.setPrompt_minute (l : List BayNo) : (s.setPrompt l).minute = s.minute := rfl
@[simp] theorem State.setPrompt_register (l : List BayNo) : (s.setPrompt l).register = s.register := rfl
@[simp] theorem State.setPrompt_profiles (l : List BayNo) : (s.setPrompt l).profiles = s.profiles := rfl
@[simp] theorem State.setPrompt_bays (l : List BayNo) : (s.setPrompt l).bays = s.bays := rfl
@[simp] theorem State.setPrompt_alloc (l : List BayNo) : (s.setPrompt l).alloc = s.alloc := rfl
@[simp] theorem State.setPrompt_disp (l : List BayNo) : (s.setPrompt l).disp = s.disp := rfl
@[simp] theorem State.setPrompt_faults (l : List BayNo) : (s.setPrompt l).faults = s.faults := rfl
@[simp] theorem State.setPrompt_link (l : List BayNo) : (s.setPrompt l).link = s.link := rfl
@[simp] theorem State.setPrompt_store (l : List BayNo) : (s.setPrompt l).store = s.store := rfl
@[simp] theorem State.setPrompt_inFlight (l : List BayNo) : (s.setPrompt l).inFlight = s.inFlight := rfl
@[simp] theorem State.setPrompt_freeDraw (l : List BayNo) : (s.setPrompt l).freeDraw = s.freeDraw := rfl
@[simp] theorem State.setPrompt_pending (l : List BayNo) : (s.setPrompt l).pending = s.pending := rfl

/-! ## setReceiver -/

@[simp] theorem State.setReceiver_powered (r : Receiver) : (s.setReceiver r).powered = s.powered := rfl
@[simp] theorem State.setReceiver_resetLow (r : Receiver) : (s.setReceiver r).resetLow = s.resetLow := rfl
@[simp] theorem State.setReceiver_restoring (r : Receiver) : (s.setReceiver r).restoring = s.restoring := rfl
@[simp] theorem State.setReceiver_now (r : Receiver) : (s.setReceiver r).now = s.now := rfl
@[simp] theorem State.setReceiver_minute (r : Receiver) : (s.setReceiver r).minute = s.minute := rfl
@[simp] theorem State.setReceiver_register (r : Receiver) : (s.setReceiver r).register = s.register := rfl
@[simp] theorem State.setReceiver_profiles (r : Receiver) : (s.setReceiver r).profiles = s.profiles := rfl
@[simp] theorem State.setReceiver_bays (r : Receiver) : (s.setReceiver r).bays = s.bays := rfl
@[simp] theorem State.setReceiver_alloc (r : Receiver) : (s.setReceiver r).alloc = s.alloc := rfl
@[simp] theorem State.setReceiver_disp (r : Receiver) : (s.setReceiver r).disp = s.disp := rfl
@[simp] theorem State.setReceiver_faults (r : Receiver) : (s.setReceiver r).faults = s.faults := rfl
@[simp] theorem State.setReceiver_scanner (r : Receiver) : (s.setReceiver r).scanner = s.scanner := rfl
@[simp] theorem State.setReceiver_store (r : Receiver) : (s.setReceiver r).store = s.store := rfl
@[simp] theorem State.setReceiver_inFlight (r : Receiver) : (s.setReceiver r).inFlight = s.inFlight := rfl
@[simp] theorem State.setReceiver_freeDraw (r : Receiver) : (s.setReceiver r).freeDraw = s.freeDraw := rfl
@[simp] theorem State.setReceiver_pending (r : Receiver) : (s.setReceiver r).pending = s.pending := rfl

/-! ## raise -/

@[simp] theorem State.raise_powered (c : Cause) : (s.raise c).powered = s.powered := rfl
@[simp] theorem State.raise_resetLow (c : Cause) : (s.raise c).resetLow = s.resetLow := rfl
@[simp] theorem State.raise_restoring (c : Cause) : (s.raise c).restoring = s.restoring := rfl
@[simp] theorem State.raise_now (c : Cause) : (s.raise c).now = s.now := rfl
@[simp] theorem State.raise_minute (c : Cause) : (s.raise c).minute = s.minute := rfl
@[simp] theorem State.raise_register (c : Cause) : (s.raise c).register = s.register := rfl
@[simp] theorem State.raise_profiles (c : Cause) : (s.raise c).profiles = s.profiles := rfl
@[simp] theorem State.raise_bays (c : Cause) : (s.raise c).bays = s.bays := rfl
@[simp] theorem State.raise_alloc (c : Cause) : (s.raise c).alloc = s.alloc := rfl
@[simp] theorem State.raise_disp (c : Cause) : (s.raise c).disp = s.disp := rfl
@[simp] theorem State.raise_faults (c : Cause) : (s.raise c).faults = s.faults := rfl
@[simp] theorem State.raise_scanner (c : Cause) : (s.raise c).scanner = s.scanner := rfl
@[simp] theorem State.raise_store (c : Cause) : (s.raise c).store = s.store := rfl
@[simp] theorem State.raise_inFlight (c : Cause) : (s.raise c).inFlight = s.inFlight := rfl
@[simp] theorem State.raise_freeDraw (c : Cause) : (s.raise c).freeDraw = s.freeDraw := rfl
@[simp] theorem State.raise_pending (c : Cause) : (s.raise c).pending = s.pending := rfl

/-! ## raiseShort -/

@[simp] theorem State.raiseShort_powered (c : ClassNo) : (s.raiseShort c).powered = s.powered := rfl
@[simp] theorem State.raiseShort_resetLow (c : ClassNo) : (s.raiseShort c).resetLow = s.resetLow := rfl
@[simp] theorem State.raiseShort_restoring (c : ClassNo) : (s.raiseShort c).restoring = s.restoring := rfl
@[simp] theorem State.raiseShort_now (c : ClassNo) : (s.raiseShort c).now = s.now := rfl
@[simp] theorem State.raiseShort_minute (c : ClassNo) : (s.raiseShort c).minute = s.minute := rfl
@[simp] theorem State.raiseShort_register (c : ClassNo) : (s.raiseShort c).register = s.register := rfl
@[simp] theorem State.raiseShort_profiles (c : ClassNo) : (s.raiseShort c).profiles = s.profiles := rfl
@[simp] theorem State.raiseShort_bays (c : ClassNo) : (s.raiseShort c).bays = s.bays := rfl
@[simp] theorem State.raiseShort_alloc (c : ClassNo) : (s.raiseShort c).alloc = s.alloc := rfl
@[simp] theorem State.raiseShort_disp (c : ClassNo) : (s.raiseShort c).disp = s.disp := rfl
@[simp] theorem State.raiseShort_faults (c : ClassNo) : (s.raiseShort c).faults = s.faults := rfl
@[simp] theorem State.raiseShort_scanner (c : ClassNo) : (s.raiseShort c).scanner = s.scanner := rfl
@[simp] theorem State.raiseShort_store (c : ClassNo) : (s.raiseShort c).store = s.store := rfl
@[simp] theorem State.raiseShort_inFlight (c : ClassNo) : (s.raiseShort c).inFlight = s.inFlight := rfl
@[simp] theorem State.raiseShort_freeDraw (c : ClassNo) : (s.raiseShort c).freeDraw = s.freeDraw := rfl
@[simp] theorem State.raiseShort_pending (c : ClassNo) : (s.raiseShort c).pending = s.pending := rfl

/-! ## write -/

@[simp] theorem State.write_powered (w : StoreWrite) : (s.write w).powered = s.powered := rfl
@[simp] theorem State.write_resetLow (w : StoreWrite) : (s.write w).resetLow = s.resetLow := rfl
@[simp] theorem State.write_restoring (w : StoreWrite) : (s.write w).restoring = s.restoring := rfl
@[simp] theorem State.write_now (w : StoreWrite) : (s.write w).now = s.now := rfl
@[simp] theorem State.write_minute (w : StoreWrite) : (s.write w).minute = s.minute := rfl
@[simp] theorem State.write_register (w : StoreWrite) : (s.write w).register = s.register := rfl
@[simp] theorem State.write_profiles (w : StoreWrite) : (s.write w).profiles = s.profiles := rfl
@[simp] theorem State.write_bays (w : StoreWrite) : (s.write w).bays = s.bays := rfl
@[simp] theorem State.write_alloc (w : StoreWrite) : (s.write w).alloc = s.alloc := rfl
@[simp] theorem State.write_disp (w : StoreWrite) : (s.write w).disp = s.disp := rfl
@[simp] theorem State.write_faults (w : StoreWrite) : (s.write w).faults = s.faults := rfl
@[simp] theorem State.write_scanner (w : StoreWrite) : (s.write w).scanner = s.scanner := rfl
@[simp] theorem State.write_link (w : StoreWrite) : (s.write w).link = s.link := rfl
@[simp] theorem State.write_store (w : StoreWrite) : (s.write w).store = s.store := rfl
@[simp] theorem State.write_freeDraw (w : StoreWrite) : (s.write w).freeDraw = s.freeDraw := rfl
@[simp] theorem State.write_pending (w : StoreWrite) : (s.write w).pending = s.pending := rfl

/-! ## settle -/

@[simp] theorem State.settle_powered : (s.settle).powered = s.powered := rfl
@[simp] theorem State.settle_resetLow : (s.settle).resetLow = s.resetLow := rfl
@[simp] theorem State.settle_restoring : (s.settle).restoring = s.restoring := rfl
@[simp] theorem State.settle_now : (s.settle).now = s.now := rfl
@[simp] theorem State.settle_minute : (s.settle).minute = s.minute := rfl
@[simp] theorem State.settle_register : (s.settle).register = s.register := rfl
@[simp] theorem State.settle_profiles : (s.settle).profiles = s.profiles := rfl
@[simp] theorem State.settle_bays : (s.settle).bays = s.bays := rfl
@[simp] theorem State.settle_alloc : (s.settle).alloc = s.alloc := rfl
@[simp] theorem State.settle_disp : (s.settle).disp = s.disp := rfl
@[simp] theorem State.settle_faults : (s.settle).faults = s.faults := rfl
@[simp] theorem State.settle_scanner : (s.settle).scanner = s.scanner := rfl
@[simp] theorem State.settle_link : (s.settle).link = s.link := rfl
@[simp] theorem State.settle_freeDraw : (s.settle).freeDraw = s.freeDraw := rfl
@[simp] theorem State.settle_pending : (s.settle).pending = s.pending := rfl

/-! ## modPack -/

@[simp] theorem State.modPack_powered (t : Nat) (f : PackRec → PackRec) : (s.modPack t f).powered = s.powered := rfl
@[simp] theorem State.modPack_resetLow (t : Nat) (f : PackRec → PackRec) : (s.modPack t f).resetLow = s.resetLow := rfl
@[simp] theorem State.modPack_restoring (t : Nat) (f : PackRec → PackRec) : (s.modPack t f).restoring = s.restoring := rfl
@[simp] theorem State.modPack_now (t : Nat) (f : PackRec → PackRec) : (s.modPack t f).now = s.now := rfl
@[simp] theorem State.modPack_minute (t : Nat) (f : PackRec → PackRec) : (s.modPack t f).minute = s.minute := rfl
@[simp] theorem State.modPack_profiles (t : Nat) (f : PackRec → PackRec) : (s.modPack t f).profiles = s.profiles := rfl
@[simp] theorem State.modPack_bays (t : Nat) (f : PackRec → PackRec) : (s.modPack t f).bays = s.bays := rfl
@[simp] theorem State.modPack_alloc (t : Nat) (f : PackRec → PackRec) : (s.modPack t f).alloc = s.alloc := rfl
@[simp] theorem State.modPack_disp (t : Nat) (f : PackRec → PackRec) : (s.modPack t f).disp = s.disp := rfl
@[simp] theorem State.modPack_faults (t : Nat) (f : PackRec → PackRec) : (s.modPack t f).faults = s.faults := rfl
@[simp] theorem State.modPack_scanner (t : Nat) (f : PackRec → PackRec) : (s.modPack t f).scanner = s.scanner := rfl
@[simp] theorem State.modPack_link (t : Nat) (f : PackRec → PackRec) : (s.modPack t f).link = s.link := rfl
@[simp] theorem State.modPack_store (t : Nat) (f : PackRec → PackRec) : (s.modPack t f).store = s.store := rfl
@[simp] theorem State.modPack_inFlight (t : Nat) (f : PackRec → PackRec) : (s.modPack t f).inFlight = s.inFlight := rfl
@[simp] theorem State.modPack_freeDraw (t : Nat) (f : PackRec → PackRec) : (s.modPack t f).freeDraw = s.freeDraw := rfl
@[simp] theorem State.modPack_pending (t : Nat) (f : PackRec → PackRec) : (s.modPack t f).pending = s.pending := rfl

/-! ## setShort -/

@[simp] theorem State.setShort_powered (c : ClassNo) (v : Bool) : (s.setShort c v).powered = s.powered := rfl
@[simp] theorem State.setShort_resetLow (c : ClassNo) (v : Bool) : (s.setShort c v).resetLow = s.resetLow := rfl
@[simp] theorem State.setShort_restoring (c : ClassNo) (v : Bool) : (s.setShort c v).restoring = s.restoring := rfl
@[simp] theorem State.setShort_now (c : ClassNo) (v : Bool) : (s.setShort c v).now = s.now := rfl
@[simp] theorem State.setShort_minute (c : ClassNo) (v : Bool) : (s.setShort c v).minute = s.minute := rfl
@[simp] theorem State.setShort_register (c : ClassNo) (v : Bool) : (s.setShort c v).register = s.register := rfl
@[simp] theorem State.setShort_profiles (c : ClassNo) (v : Bool) : (s.setShort c v).profiles = s.profiles := rfl
@[simp] theorem State.setShort_bays (c : ClassNo) (v : Bool) : (s.setShort c v).bays = s.bays := rfl
@[simp] theorem State.setShort_alloc (c : ClassNo) (v : Bool) : (s.setShort c v).alloc = s.alloc := rfl
@[simp] theorem State.setShort_faults (c : ClassNo) (v : Bool) : (s.setShort c v).faults = s.faults := rfl
@[simp] theorem State.setShort_scanner (c : ClassNo) (v : Bool) : (s.setShort c v).scanner = s.scanner := rfl
@[simp] theorem State.setShort_link (c : ClassNo) (v : Bool) : (s.setShort c v).link = s.link := rfl
@[simp] theorem State.setShort_store (c : ClassNo) (v : Bool) : (s.setShort c v).store = s.store := rfl
@[simp] theorem State.setShort_inFlight (c : ClassNo) (v : Bool) : (s.setShort c v).inFlight = s.inFlight := rfl
@[simp] theorem State.setShort_freeDraw (c : ClassNo) (v : Bool) : (s.setShort c v).freeDraw = s.freeDraw := rfl
@[simp] theorem State.setShort_pending (c : ClassNo) (v : Bool) : (s.setShort c v).pending = s.pending := rfl

/-! ## setReady -/

@[simp] theorem State.setReady_powered (c : ClassNo) (n : Nat) : (s.setReady c n).powered = s.powered := rfl
@[simp] theorem State.setReady_resetLow (c : ClassNo) (n : Nat) : (s.setReady c n).resetLow = s.resetLow := rfl
@[simp] theorem State.setReady_restoring (c : ClassNo) (n : Nat) : (s.setReady c n).restoring = s.restoring := rfl
@[simp] theorem State.setReady_now (c : ClassNo) (n : Nat) : (s.setReady c n).now = s.now := rfl
@[simp] theorem State.setReady_minute (c : ClassNo) (n : Nat) : (s.setReady c n).minute = s.minute := rfl
@[simp] theorem State.setReady_register (c : ClassNo) (n : Nat) : (s.setReady c n).register = s.register := rfl
@[simp] theorem State.setReady_profiles (c : ClassNo) (n : Nat) : (s.setReady c n).profiles = s.profiles := rfl
@[simp] theorem State.setReady_bays (c : ClassNo) (n : Nat) : (s.setReady c n).bays = s.bays := rfl
@[simp] theorem State.setReady_alloc (c : ClassNo) (n : Nat) : (s.setReady c n).alloc = s.alloc := rfl
@[simp] theorem State.setReady_faults (c : ClassNo) (n : Nat) : (s.setReady c n).faults = s.faults := rfl
@[simp] theorem State.setReady_scanner (c : ClassNo) (n : Nat) : (s.setReady c n).scanner = s.scanner := rfl
@[simp] theorem State.setReady_link (c : ClassNo) (n : Nat) : (s.setReady c n).link = s.link := rfl
@[simp] theorem State.setReady_store (c : ClassNo) (n : Nat) : (s.setReady c n).store = s.store := rfl
@[simp] theorem State.setReady_inFlight (c : ClassNo) (n : Nat) : (s.setReady c n).inFlight = s.inFlight := rfl
@[simp] theorem State.setReady_freeDraw (c : ClassNo) (n : Nat) : (s.setReady c n).freeDraw = s.freeDraw := rfl
@[simp] theorem State.setReady_pending (c : ClassNo) (n : Nat) : (s.setReady c n).pending = s.pending := rfl

/-! ## enterPass -/

@[simp] theorem State.enterPass_powered : (s.enterPass).powered = s.powered := by simp only [State.enterPass]
@[simp] theorem State.enterPass_resetLow : (s.enterPass).resetLow = s.resetLow := by simp only [State.enterPass]
@[simp] theorem State.enterPass_restoring : (s.enterPass).restoring = s.restoring := by simp only [State.enterPass]
@[simp] theorem State.enterPass_now : (s.enterPass).now = s.now := by simp only [State.enterPass]
@[simp] theorem State.enterPass_minute : (s.enterPass).minute = s.minute := by simp only [State.enterPass]
@[simp] theorem State.enterPass_register : (s.enterPass).register = s.register := by simp only [State.enterPass]
@[simp] theorem State.enterPass_profiles : (s.enterPass).profiles = s.profiles := by simp only [State.enterPass]
@[simp] theorem State.enterPass_bays : (s.enterPass).bays = s.bays := by simp only [State.enterPass]
@[simp] theorem State.enterPass_disp : (s.enterPass).disp = s.disp := by simp only [State.enterPass]
@[simp] theorem State.enterPass_faults : (s.enterPass).faults = s.faults := by simp only [State.enterPass]
@[simp] theorem State.enterPass_scanner : (s.enterPass).scanner = s.scanner := by simp only [State.enterPass]
@[simp] theorem State.enterPass_link : (s.enterPass).link = s.link := by simp only [State.enterPass]
@[simp] theorem State.enterPass_store : (s.enterPass).store = s.store := by simp only [State.enterPass]
@[simp] theorem State.enterPass_inFlight : (s.enterPass).inFlight = s.inFlight := by simp only [State.enterPass]
@[simp] theorem State.enterPass_freeDraw : (s.enterPass).freeDraw = s.freeDraw := by simp only [State.enterPass]
@[simp] theorem State.enterPass_pending : (s.enterPass).pending = s.pending := by simp only [State.enterPass]

/-! ## reply -/

@[simp] theorem State.reply_powered (k : Byte) (st : Status) (cs : List Byte) : (s.reply k st cs).powered = s.powered := rfl
@[simp] theorem State.reply_resetLow (k : Byte) (st : Status) (cs : List Byte) : (s.reply k st cs).resetLow = s.resetLow := rfl
@[simp] theorem State.reply_restoring (k : Byte) (st : Status) (cs : List Byte) : (s.reply k st cs).restoring = s.restoring := rfl
@[simp] theorem State.reply_now (k : Byte) (st : Status) (cs : List Byte) : (s.reply k st cs).now = s.now := rfl
@[simp] theorem State.reply_minute (k : Byte) (st : Status) (cs : List Byte) : (s.reply k st cs).minute = s.minute := rfl
@[simp] theorem State.reply_register (k : Byte) (st : Status) (cs : List Byte) : (s.reply k st cs).register = s.register := rfl
@[simp] theorem State.reply_profiles (k : Byte) (st : Status) (cs : List Byte) : (s.reply k st cs).profiles = s.profiles := rfl
@[simp] theorem State.reply_bays (k : Byte) (st : Status) (cs : List Byte) : (s.reply k st cs).bays = s.bays := rfl
@[simp] theorem State.reply_alloc (k : Byte) (st : Status) (cs : List Byte) : (s.reply k st cs).alloc = s.alloc := rfl
@[simp] theorem State.reply_disp (k : Byte) (st : Status) (cs : List Byte) : (s.reply k st cs).disp = s.disp := rfl
@[simp] theorem State.reply_faults (k : Byte) (st : Status) (cs : List Byte) : (s.reply k st cs).faults = s.faults := rfl
@[simp] theorem State.reply_scanner (k : Byte) (st : Status) (cs : List Byte) : (s.reply k st cs).scanner = s.scanner := rfl
@[simp] theorem State.reply_store (k : Byte) (st : Status) (cs : List Byte) : (s.reply k st cs).store = s.store := rfl
@[simp] theorem State.reply_inFlight (k : Byte) (st : Status) (cs : List Byte) : (s.reply k st cs).inFlight = s.inFlight := rfl
@[simp] theorem State.reply_freeDraw (k : Byte) (st : Status) (cs : List Byte) : (s.reply k st cs).freeDraw = s.freeDraw := rfl
@[simp] theorem State.reply_pending (k : Byte) (st : Status) (cs : List Byte) : (s.reply k st cs).pending = s.pending := rfl

/-! ## drawn -/

@[simp] theorem State.drawn_powered : (s.drawn).powered = s.powered := rfl
@[simp] theorem State.drawn_resetLow : (s.drawn).resetLow = s.resetLow := rfl
@[simp] theorem State.drawn_restoring : (s.drawn).restoring = s.restoring := rfl
@[simp] theorem State.drawn_now : (s.drawn).now = s.now := rfl
@[simp] theorem State.drawn_minute : (s.drawn).minute = s.minute := rfl
@[simp] theorem State.drawn_register : (s.drawn).register = s.register := rfl
@[simp] theorem State.drawn_profiles : (s.drawn).profiles = s.profiles := rfl
@[simp] theorem State.drawn_bays : (s.drawn).bays = s.bays := rfl
@[simp] theorem State.drawn_alloc : (s.drawn).alloc = s.alloc := rfl
@[simp] theorem State.drawn_disp : (s.drawn).disp = s.disp := rfl
@[simp] theorem State.drawn_faults : (s.drawn).faults = s.faults := rfl
@[simp] theorem State.drawn_scanner : (s.drawn).scanner = s.scanner := rfl
@[simp] theorem State.drawn_link : (s.drawn).link = s.link := rfl
@[simp] theorem State.drawn_store : (s.drawn).store = s.store := rfl
@[simp] theorem State.drawn_inFlight : (s.drawn).inFlight = s.inFlight := rfl
@[simp] theorem State.drawn_pending : (s.drawn).pending = s.pending := rfl

/-! ## setShed -/

@[simp] theorem State.setShed_powered (v : Option ShedRec) : (s.setShed v).powered = s.powered := rfl
@[simp] theorem State.setShed_resetLow (v : Option ShedRec) : (s.setShed v).resetLow = s.resetLow := rfl
@[simp] theorem State.setShed_restoring (v : Option ShedRec) : (s.setShed v).restoring = s.restoring := rfl
@[simp] theorem State.setShed_now (v : Option ShedRec) : (s.setShed v).now = s.now := rfl
@[simp] theorem State.setShed_minute (v : Option ShedRec) : (s.setShed v).minute = s.minute := rfl
@[simp] theorem State.setShed_register (v : Option ShedRec) : (s.setShed v).register = s.register := rfl
@[simp] theorem State.setShed_profiles (v : Option ShedRec) : (s.setShed v).profiles = s.profiles := rfl
@[simp] theorem State.setShed_bays (v : Option ShedRec) : (s.setShed v).bays = s.bays := rfl
@[simp] theorem State.setShed_disp (v : Option ShedRec) : (s.setShed v).disp = s.disp := rfl
@[simp] theorem State.setShed_faults (v : Option ShedRec) : (s.setShed v).faults = s.faults := rfl
@[simp] theorem State.setShed_scanner (v : Option ShedRec) : (s.setShed v).scanner = s.scanner := rfl
@[simp] theorem State.setShed_link (v : Option ShedRec) : (s.setShed v).link = s.link := rfl
@[simp] theorem State.setShed_store (v : Option ShedRec) : (s.setShed v).store = s.store := rfl
@[simp] theorem State.setShed_inFlight (v : Option ShedRec) : (s.setShed v).inFlight = s.inFlight := rfl
@[simp] theorem State.setShed_freeDraw (v : Option ShedRec) : (s.setShed v).freeDraw = s.freeDraw := rfl
@[simp] theorem State.setShed_pending (v : Option ShedRec) : (s.setShed v).pending = s.pending := rfl

/-! ## setFeederCap -/

@[simp] theorem State.setFeederCap_powered (f : FeederNo) (cap : Nat) : (s.setFeederCap f cap).powered = s.powered := rfl
@[simp] theorem State.setFeederCap_resetLow (f : FeederNo) (cap : Nat) : (s.setFeederCap f cap).resetLow = s.resetLow := rfl
@[simp] theorem State.setFeederCap_restoring (f : FeederNo) (cap : Nat) : (s.setFeederCap f cap).restoring = s.restoring := rfl
@[simp] theorem State.setFeederCap_now (f : FeederNo) (cap : Nat) : (s.setFeederCap f cap).now = s.now := rfl
@[simp] theorem State.setFeederCap_minute (f : FeederNo) (cap : Nat) : (s.setFeederCap f cap).minute = s.minute := rfl
@[simp] theorem State.setFeederCap_register (f : FeederNo) (cap : Nat) : (s.setFeederCap f cap).register = s.register := rfl
@[simp] theorem State.setFeederCap_profiles (f : FeederNo) (cap : Nat) : (s.setFeederCap f cap).profiles = s.profiles := rfl
@[simp] theorem State.setFeederCap_bays (f : FeederNo) (cap : Nat) : (s.setFeederCap f cap).bays = s.bays := rfl
@[simp] theorem State.setFeederCap_disp (f : FeederNo) (cap : Nat) : (s.setFeederCap f cap).disp = s.disp := rfl
@[simp] theorem State.setFeederCap_faults (f : FeederNo) (cap : Nat) : (s.setFeederCap f cap).faults = s.faults := rfl
@[simp] theorem State.setFeederCap_scanner (f : FeederNo) (cap : Nat) : (s.setFeederCap f cap).scanner = s.scanner := rfl
@[simp] theorem State.setFeederCap_link (f : FeederNo) (cap : Nat) : (s.setFeederCap f cap).link = s.link := rfl
@[simp] theorem State.setFeederCap_store (f : FeederNo) (cap : Nat) : (s.setFeederCap f cap).store = s.store := rfl
@[simp] theorem State.setFeederCap_inFlight (f : FeederNo) (cap : Nat) : (s.setFeederCap f cap).inFlight = s.inFlight := rfl
@[simp] theorem State.setFeederCap_freeDraw (f : FeederNo) (cap : Nat) : (s.setFeederCap f cap).freeDraw = s.freeDraw := rfl
@[simp] theorem State.setFeederCap_pending (f : FeederNo) (cap : Nat) : (s.setFeederCap f cap).pending = s.pending := rfl

/-! ## What an update sets -/

variable (b x : BayNo)

@[simp] theorem State.modBay_bay (f : Bay → Bay) : (s.modBay b f).bay x = if x = b then f (s.bay b) else s.bay x := by
  unfold State.modBay State.bay
  by_cases h : x = b
  · subst h; simp
  · simp [h, Fin.val_inj, Ne.symm h]

@[simp] theorem State.modGrant_grant (f : Grant → Grant) :
    (s.modGrant b f).grant x = if x = b then f (s.grant b) else s.grant x := by
  unfold State.modGrant State.grant
  by_cases h : x = b
  · subst h; simp
  · simp [h, Fin.val_inj, Ne.symm h]

@[simp] theorem State.modLine_line (f : LineRec → LineRec) :
    (s.modLine b f).line x = if x = b then f (s.line b) else s.line x := by
  unfold State.modLine State.line
  by_cases h : x = b
  · subst h; simp
  · simp [h, Fin.val_inj, Ne.symm h]

@[simp] theorem State.setFault_faultRec (r : Option FaultRec) :
    (s.setFault b r).faultRec x = if x = b then r else s.faultRec x := by
  unfold State.setFault State.faultRec
  by_cases h : x = b
  · subst h; simp
  · simp [h, Fin.val_inj, Ne.symm h]

@[simp] theorem State.setQueue_queue (l m : LevelNo) (q : List BayNo) :
    (s.setQueue l q).alloc.queues[m] = if m = l then q else s.alloc.queues[m] := by
  unfold State.setQueue
  by_cases h : m = l
  · subst h; simp
  · simp [h, Fin.val_inj, Ne.symm h]

@[simp] theorem State.modGrant_bay (f : Grant → Grant) : (s.modGrant b f).bay x = s.bay x := rfl
@[simp] theorem State.modGrant_line (f : Grant → Grant) : (s.modGrant b f).line x = s.line x := rfl
@[simp] theorem State.modGrant_faultRec (f : Grant → Grant) : (s.modGrant b f).faultRec x = s.faultRec x := rfl
@[simp] theorem State.modGrant_queues (f : Grant → Grant) : (s.modGrant b f).alloc.queues = s.alloc.queues := rfl
@[simp] theorem State.modBay_grant (f : Bay → Bay) : (s.modBay b f).grant x = s.grant x := rfl
@[simp] theorem State.modBay_line (f : Bay → Bay) : (s.modBay b f).line x = s.line x := rfl
@[simp] theorem State.modBay_faultRec (f : Bay → Bay) : (s.modBay b f).faultRec x = s.faultRec x := rfl
@[simp] theorem State.modLine_bay (f : LineRec → LineRec) : (s.modLine b f).bay x = s.bay x := rfl
@[simp] theorem State.modLine_grant (f : LineRec → LineRec) : (s.modLine b f).grant x = s.grant x := rfl
@[simp] theorem State.modLine_prompt (f : LineRec → LineRec) : (s.modLine b f).scanner.prompt = s.scanner.prompt := rfl
@[simp] theorem State.setFault_bay (r : Option FaultRec) : (s.setFault b r).bay x = s.bay x := rfl
@[simp] theorem State.setFault_grant (r : Option FaultRec) : (s.setFault b r).grant x = s.grant x := rfl
@[simp] theorem State.setQueue_grant (l : LevelNo) (q : List BayNo) : (s.setQueue l q).grant x = s.grant x := rfl
@[simp] theorem State.setQueue_bay (l : LevelNo) (q : List BayNo) : (s.setQueue l q).bay x = s.bay x := rfl
@[simp] theorem State.setPrompt_line (l : List BayNo) : (s.setPrompt l).line x = s.line x := rfl
@[simp] theorem State.setIssues_issues (l : List Issue) : (s.setIssues l).disp.issues = l := rfl
@[simp] theorem State.setIssues_reservations (l : List Issue) :
    (s.setIssues l).disp.reservations = s.disp.reservations := rfl
@[simp] theorem State.setReservations_reservations (l : List Reservation) :
    (s.setReservations l).disp.reservations = l := rfl
@[simp] theorem State.setReservations_issues (l : List Reservation) :
    (s.setReservations l).disp.issues = s.disp.issues := rfl
@[simp] theorem State.setPrompt_prompt (l : List BayNo) : (s.setPrompt l).scanner.prompt = l := rfl
@[simp] theorem State.write_inFlight (w : StoreWrite) : (s.write w).inFlight = s.inFlight ++ [w] := rfl
@[simp] theorem State.settle_inFlight : s.settle.inFlight = [] := rfl
@[simp] theorem State.reply_reply (k : Byte) (st : Status) (cs : List Byte) :
    (s.reply k st cs).link.reply = some ⟨k + 0x80, st, cs⟩ := rfl
@[simp] theorem State.settle_running : s.settle.running = s.running := rfl
@[simp] theorem State.settle_busy : s.settle.busy = s.busy := rfl
@[simp] theorem State.settle_bay : s.settle.bay x = s.bay x := rfl
@[simp] theorem State.settle_grant : s.settle.grant x = s.grant x := rfl
@[simp] theorem State.settle_line : s.settle.line x = s.line x := rfl
@[simp] theorem State.settle_faultRec : s.settle.faultRec x = s.faultRec x := rfl

end Sys2Proof.Machine
end

