-- ==== Sys2Proof/Laws/Events.lean ====
section
/-! SUPPORT. How an event is taken: a command at its owner, an event where its condition holds, and either where the part
does not run. -/

namespace Sys2Proof.Machine

/-- A command that arrives while the part runs and the unit is free is its owner's answer. -/
theorem State.command_of_accepts {s : State} (h : s.accepts) (kind : Byte) (owner : State → Answer) :
    s.command kind owner = s.settle.answerWith kind (owner s.settle) := by
  simp [State.command, h.1, h.2]

/-- A command that arrives while the unit is busy is discarded. -/
theorem State.command_of_busy {s : State} (hr : s.running = true) (hb : s.busy = true) (kind : Byte)
    (owner : State → Answer) : s.command kind owner = s.settle.discardFrame := by
  simp [State.command, hr, hb]

/-- A command that arrives while the part does not run is ignored. -/
theorem State.command_of_not_running {s : State} (h : s.running = false) (kind : Byte) (owner : State → Answer) :
    s.command kind owner = s.settle := by
  simp [State.command, h]

/-- An event of the running part. -/
theorem State.event_of_running {s : State} (h : s.running = true) (f : State → State) : s.event f = f s.settle := by
  simp [State.event, h]

/-- An event while the part does not run. -/
theorem State.event_of_not_running {s : State} (h : s.running = false) (f : State → State) : s.event f = s.settle := by
  simp [State.event, h]

/-- An event whose condition holds. -/
theorem State.eventIf_of {s : State} {c : State → Bool} (h : s.running = true) (hc : c s.settle = true)
    (f : State → State) : s.eventIf c f = f s.settle := by
  simp [State.eventIf, State.event, h, hc]

end Sys2Proof.Machine
end

