-- ==== Sys2Proof/Laws/Outline.lean ====
section
/-! SUPPORT. What the shared operations can change: a drive, a pass, a level change, a shortage computation and a hand-over
of ready counts keep the outline of the state, and a pass keeps its narrower outline. -/

namespace Sys2Proof.Machine

/-! ## The two outlines -/

@[simp] theorem Bay.outline_outline (y : Bay) : y.outline.outline = y.outline := rfl
@[simp] theorem Grant.outline_outline (e : Grant) : e.outline.outline = e.outline := rfl
@[simp] theorem Grant.outline_passOutline (e : Grant) : e.passOutline.outline = e.outline := rfl

/-- The bays of a state with this outline have these outlines. -/
theorem State.bay_outline_of_outline {s t : State} (h : s.outline = t.outline) (b : BayNo) :
    (s.bay b).outline = (t.bay b).outline := by
  have h' := congrArg (fun u : State => u.bays[b]) h
  simpa [State.outline] using h'

/-- The grant entries of a state with this outline have these outlines. -/
theorem State.grant_outline_of_outline {s t : State} (h : s.outline = t.outline) (b : BayNo) :
    (s.grant b).outline = (t.grant b).outline := by
  have h' := congrArg (fun u : State => u.alloc.grants[b]) h
  simpa [State.outline] using h'

/-- The bays of a state with this narrower outline have these outlines. -/
theorem State.bay_outline_of_passOutline {s t : State} (h : s.passOutline = t.passOutline) (b : BayNo) :
    (s.bay b).outline = (t.bay b).outline := by
  have h' := congrArg (fun u : State => u.bays[b]) h
  simpa [State.passOutline] using h'

/-- The grant entries of a state with this narrower outline have these outlines. -/
theorem State.grant_passOutline_of_passOutline {s t : State} (h : s.passOutline = t.passOutline) (b : BayNo) :
    (s.grant b).passOutline = (t.grant b).passOutline := by
  have h' := congrArg (fun u : State => u.alloc.grants[b]) h
  simpa [State.passOutline] using h'

/-- The outline follows from the narrower one. -/
theorem State.outline_passOutline (s : State) : s.passOutline.outline = s.outline := by
  simp [State.outline, State.passOutline, State.bay, State.grant]

/-- Two states with one narrower outline have one outline. -/
theorem State.outline_congr {s t : State} (h : s.passOutline = t.passOutline) : s.outline = t.outline := by
  rw [← s.outline_passOutline, h, t.outline_passOutline]

/-! ## Drives and passes -/

@[simp] theorem State.promptAdd_passOutline (s : State) (b : BayNo) : (s.promptAdd b).passOutline = s.passOutline := by
  unfold State.promptAdd
  split <;> rfl

/-- A new drive keeps the narrower outline. -/
theorem State.setDrive_passOutline (s : State) (b : BayNo) (d : Drive) :
    (s.modBay b fun y => { y with drive := d }).passOutline = s.passOutline := by
  have h : (fun x => ((s.modBay b fun y => { y with drive := d }).bay x).outline) = fun x => (s.bay x).outline := by
    funext x
    rw [State.modBay_bay]
    split
    · next h => subst h; rfl
    · rfl
  simp only [State.passOutline, h, State.modBay_grant]
  rfl

/-- Recomputing a drive keeps the narrower outline. -/
@[simp] theorem State.redrive_passOutline (s : State) (b : BayNo) : (s.redrive b).passOutline = s.passOutline := by
  simp only [State.redrive]
  split
  · rw [State.promptAdd_passOutline, State.setDrive_passOutline]
  · rw [State.setDrive_passOutline]

@[simp] theorem State.promptAdd_alloc (s : State) (b : BayNo) : (s.promptAdd b).alloc = s.alloc := by
  unfold State.promptAdd
  split <;> rfl

/-- Recomputing a drive leaves the allocator alone. -/
@[simp] theorem State.redrive_alloc (s : State) (b : BayNo) : (s.redrive b).alloc = s.alloc := by
  simp only [State.redrive]
  split
  · rw [State.promptAdd_alloc, State.modBay_alloc]
  · rfl

/-- When a drive lowers power: its output goes off, its units fall below the units sent, or its latch differs (R161). -/
theorem lowersPower_iff (last : Sent) (new : Drive) (units : Nat) :
    lowersPower last new units = true ↔ (last.drive.on = true ∧ new.on = false) ∨
      (last.drive.on = true ∧ new.on = true ∧ units < last.units) ∨ last.drive.latchOpen ≠ new.latchOpen := by
  simp [lowersPower, and_assoc, or_assoc]

/-- What joining the prompt list does to it: nothing to a list that holds the bay, else the bay at its tail (R161). -/
theorem State.promptAdd_prompt (s : State) (b : BayNo) :
    (s.promptAdd b).scanner.prompt = if b ∈ s.scanner.prompt then s.scanner.prompt else s.scanner.prompt ++ [b] := by
  unfold State.promptAdd
  split <;> rfl

/-- What recomputing a drive does to the prompt list (R49, R161). -/
theorem State.redrive_prompt (s : State) (b : BayNo) :
    (s.redrive b).scanner.prompt =
      if lowersPower (s.line b).sent (driveOf (s.bay b) (s.grant b).granted) (s.grant b).granted = true ∧
        b ∉ s.scanner.prompt then s.scanner.prompt ++ [b] else s.scanner.prompt := by
  simp only [State.redrive]
  split
  · next h => rw [State.promptAdd_prompt]; by_cases m : b ∈ s.scanner.prompt <;> simp [h, m]
  · next h => simp [h]

theorem State.foldl_redrive_passOutline (l : List BayNo) (s : State) :
    (l.foldl State.redrive s).passOutline = s.passOutline := by
  induction l generalizing s with
  | nil => rfl
  | cons b bs ih => rw [List.foldl_cons, ih, State.redrive_passOutline]

theorem State.foldl_redrive_alloc (l : List BayNo) (s : State) : (l.foldl State.redrive s).alloc = s.alloc := by
  induction l generalizing s with
  | nil => rfl
  | cons b bs ih => rw [List.foldl_cons, ih, State.redrive_alloc]

@[simp] theorem Grant.afterPass_passOutline (e : Grant) (now c f g : Nat) :
    (e.afterPass now c f g).passOutline = e.passOutline := rfl

theorem State.enterPass_passOutline (s : State) : s.enterPass.passOutline = s.passOutline := by
  simp [State.enterPass, State.passOutline, State.grant, State.bay, State.grantAfterPass]

/-- A pass keeps the narrower outline: it changes granted units, turns, yield marks, drives and the prompt list only. -/
@[simp] theorem State.pass_passOutline (s : State) : s.pass.passOutline = s.passOutline := by
  rw [State.pass, State.foldl_redrive_passOutline, State.enterPass_passOutline]

/-- A pass keeps the outline. -/
@[simp] theorem State.pass_outline (s : State) : s.pass.outline = s.outline := State.outline_congr s.pass_passOutline

/-- The grant table after a pass. -/
theorem State.pass_grant (s : State) (b : BayNo) : s.pass.grant b = s.grantAfterPass b := by
  simp [State.pass, State.grant, State.foldl_redrive_alloc, State.enterPass]

/-! ## Levels, shortages and ready counts -/

/-- A queue keeps the outline. -/
@[simp] theorem State.setQueue_outline (s : State) (l : LevelNo) (q : List BayNo) : (s.setQueue l q).outline = s.outline := rfl

/-- A level keeps the outline. -/
theorem State.setLevel_outline (s : State) (b : BayNo) (l : LevelNo) :
    (s.modGrant b fun e => { e with level := l }).outline = s.outline := by
  have h : (fun x => ((s.modGrant b fun e => { e with level := l }).grant x).outline) = fun x => (s.grant x).outline := by
    funext x
    rw [State.modGrant_grant]
    split
    · next h => subst h; rfl
    · rfl
  unfold State.outline
  rw [h]
  rfl

theorem State.enterLevel_outline (s : State) (b : BayNo) (l : LevelNo) : (s.enterLevel b l).outline = s.outline := by
  simp only [State.enterLevel, State.unqueue, State.enqueue]
  split
  · rw [State.setQueue_outline, State.setQueue_outline, State.setLevel_outline]
  · rw [State.setLevel_outline]

/-- Recomputing a level keeps the outline. -/
@[simp] theorem State.relevel_outline (s : State) (b : BayNo) : (s.relevel b).outline = s.outline := by
  simp only [State.relevel]
  split
  · rfl
  · rw [State.pass_outline, State.enterLevel_outline]

theorem State.foldl_relevel_outline (l : List BayNo) (s : State) : (l.foldl State.relevel s).outline = s.outline := by
  induction l generalizing s with
  | nil => rfl
  | cons b bs ih => rw [List.foldl_cons, ih, State.relevel_outline]

@[simp] theorem State.setShort_outline (s : State) (c : ClassNo) (v : Bool) : (s.setShort c v).outline = s.outline := rfl
@[simp] theorem State.raiseShort_outline (s : State) (c : ClassNo) : (s.raiseShort c).outline = s.outline := rfl
@[simp] theorem State.setReady_outline (s : State) (c : ClassNo) (n : Nat) : (s.setReady c n).outline = s.outline := rfl

/-- A shortage computation keeps the outline. -/
@[simp] theorem State.computeShort_outline (s : State) (c : ClassNo) : (s.computeShort c).outline = s.outline := by
  simp only [State.computeShort]
  split
  · rfl
  · rw [State.foldl_relevel_outline]
    split
    · rw [State.raiseShort_outline, State.setShort_outline]
    · rw [State.setShort_outline]

theorem State.foldl_computeShort_outline (l : List ClassNo) (s : State) :
    (l.foldl State.computeShort s).outline = s.outline := by
  induction l generalizing s with
  | nil => rfl
  | cons c cs ih => rw [List.foldl_cons, ih, State.computeShort_outline]

/-- The computation of every shortage keeps the outline. -/
@[simp] theorem State.computeAllShort_outline (s : State) : s.computeAllShort.outline = s.outline :=
  State.foldl_computeShort_outline _ s

/-- Handing a ready count keeps the outline. -/
@[simp] theorem State.handReady_outline (s : State) (c : ClassNo) : (s.handReady c).outline = s.outline := by
  simp only [State.handReady]
  split
  · rfl
  · rw [State.computeShort_outline, State.setReady_outline]

theorem State.foldl_handReady_outline (l : List ClassNo) (s : State) :
    (l.foldl State.handReady s).outline = s.outline := by
  induction l generalizing s with
  | nil => rfl
  | cons c cs ih => rw [List.foldl_cons, ih, State.handReady_outline]

/-- Handing every changed ready count keeps the outline. -/
@[simp] theorem State.handAllReady_outline (s : State) : s.handAllReady.outline = s.outline :=
  State.foldl_handReady_outline _ s

@[simp] theorem State.handUnless_outline (own : Bool) (s : State) : (State.handUnless own s).outline = s.outline := by
  cases own
  · exact s.handAllReady_outline
  · rfl

theorem State.foldl_setReady_outline (l : List ClassNo) (f : ClassNo → Nat) (s : State) :
    (l.foldl (fun t c => t.setReady c (f c)) s).outline = s.outline := by
  induction l generalizing s with
  | nil => rfl
  | cons c cs ih => rw [List.foldl_cons, ih, State.setReady_outline]

/-- The end of an event of the dispatcher's own keeps the outline. -/
@[simp] theorem State.closeEvent_outline (s : State) (cs : List ClassNo) : (s.closeEvent cs).outline = s.outline := by
  simp only [State.closeEvent]
  rw [State.foldl_computeShort_outline, State.foldl_setReady_outline]

/-! ## Requests and carried values -/

/-- Setting a carried value changes that value, and beyond it only what a pass can change. -/
theorem State.setCarried_passOutline (s : State) (b : BayNo) (units : Nat) :
    (s.setCarried b units).passOutline = (s.modGrant b fun e => { e with carried := units }).passOutline := by
  simp only [State.setCarried]
  split
  · rw [State.pass_passOutline]
  · rfl

/-- Handing a request changes that request, and beyond it only what keeps the outline. -/
theorem State.enterRequest_outline (s : State) (b : BayNo) (r : Nat) :
    (s.enterRequest b r).outline =
      (s.modGrant b fun e => { e with request := r, yielded := e.yielded && decide (r ≠ 0) }).outline := by
  simp only [State.enterRequest, State.unqueue, State.enqueue]
  split
  · rfl
  · split <;> rfl

theorem State.releaseRequest_outline (s : State) (b : BayNo) :
    (s.releaseRequest b).outline =
      (s.modGrant b fun e => { e with request := 0, yielded := e.yielded && decide ((0 : Nat) ≠ 0) }).outline := by
  rw [State.releaseRequest, State.pass_outline, State.enterRequest_outline]

end Sys2Proof.Machine
end

