-- ==== Sys2Proof/Laws/Packs.lean ====
section
/-! SUPPORT. The pack records: what the record of a tag is after a record is changed, added or deleted, and
which parts of an entry stay when a pack is docked. -/

namespace Sys2Proof.Machine

/-- Changing the record of `t` changes that record and no other, for a change that keeps the tag. -/
theorem State.modPack_pack (s : State) (t x : Nat) {f : PackRec → PackRec} (hf : ∀ r, (f r).tag = r.tag) :
    (s.modPack t f).pack x = if x = t then (s.pack x).map f else s.pack x := by
  unfold State.modPack State.pack findPack
  simp only
  induction s.register.packs with
  | nil => simp
  | cons r rs ih =>
    by_cases hx : r.tag = x <;> by_cases ht : r.tag = t
    · simp_all
    · simp_all
    · have hn : x ≠ t := fun h => hx (ht.trans h.symm)
      simp_all
    · simp_all

/-- The record of the tag put in is that record. -/
@[simp] theorem findPack_putPack_self (r : PackRec) (ps : List PackRec) : findPack (putPack r ps) r.tag = some r := by
  induction ps with
  | nil => simp [putPack, findPack]
  | cons p ps ih =>
    unfold putPack
    split
    · simp [findPack]
    · split
      · simp [findPack]
      · next h =>
        have hp : p.tag ≠ r.tag := fun he => h he.symm
        simpa [findPack, hp] using ih

/-- Putting a record in leaves the records of the other tags. -/
theorem findPack_putPack_of_ne (r : PackRec) (ps : List PackRec) {x : Nat} (hx : x ≠ r.tag) :
    findPack (putPack r ps) x = findPack ps x := by
  induction ps with
  | nil => simp [putPack, findPack, Ne.symm hx]
  | cons p ps ih =>
    unfold putPack
    split
    · simp [findPack, Ne.symm hx]
    · split
      · next h => simp [findPack, Ne.symm hx, ← h]
      · by_cases hp : p.tag = x
        · simp [findPack, hp]
        · simpa [findPack, hp] using ih

/-- A deleted tag has no record, and the others keep theirs. -/
theorem findPack_dropPack (t x : Nat) (ps : List PackRec) :
    findPack (dropPack t ps) x = if x = t then none else findPack ps x := by
  induction ps with
  | nil => simp [dropPack, findPack]
  | cons p ps ih =>
    by_cases hx : x = t <;> by_cases hp : p.tag = t <;> by_cases hq : p.tag = x <;>
      simp_all [dropPack, findPack]

/-- The tags of a bay are that of the pack it runs and those of the records whose place it is. -/
theorem State.mem_tagsOfBay (s : State) (b : BayNo) (g : Nat) :
    g ∈ s.tagsOfBay b ↔ (s.bay b).identity = .registered g ∨ ∃ r ∈ s.register.packs, r.place = .bay b ∧ r.tag = g := by
  unfold State.tagsOfBay State.packsAt
  cases (s.bay b).identity with
  | registered t => by_cases h : g = t <;> simp [h, and_assoc, eq_comm]
  | _ => simp [and_assoc]

/-- Writing the charges of some tags sends one write for each tag that has a record, and changes nothing else. -/
theorem State.foldl_saveCharge (ts : List Nat) (s : State) : ts.foldl State.saveCharge s =
    { s with inFlight := s.inFlight ++ ts.filterMap fun t => (s.pack t).map fun r => .charge t r.charge } := by
  induction ts generalizing s with
  | nil => simp
  | cons t ts ih =>
    rw [List.foldl_cons, ih]
    cases h : s.pack t <;>
      simp [State.saveCharge, State.write, show findPack s.register.packs t = _ from h, State.pack]

/-- A latch writes the charges of the bay's packs and changes nothing else by it (R21). -/
theorem State.saveChargesAt_eq (s : State) (b : BayNo) : s.saveChargesAt b =
    { s with inFlight := s.inFlight ++
        (s.tagsOfBay b).filterMap fun t => (s.pack t).map fun r => .charge t r.charge } :=
  State.foldl_saveCharge _ _

/-- All a docking does at the dispatcher: the tag's parts that are not DONE leave the machine's entry, and complete entries
leave the list (R14, step 1; R118, R132). -/
theorem State.partDocked_eq (s : State) (m t : Nat) : s.partDocked m t = s.setIssues
    ((s.disp.issues.map fun i => if i.machine = m then i.without (Part.leavesAtDocking t) else i).filter
      fun i => !i.complete) := rfl

/-- A part that is left in an entry after its pack is docked is DONE. -/
theorem Issue.mem_without_leavesAtDocking (i : Issue) (t : Nat) (p : Part) :
    p ∈ (i.without (Part.leavesAtDocking t)).parts ↔ p ∈ i.parts ∧ (p.pack = some t → p.state = .done) := by
  simp [Issue.without, Part.leavesAtDocking, imp_iff_not_or]

end Sys2Proof.Machine
end

