-- ==== Sys2Proof/Laws/Sessions.lean ====
section
/-! SUPPORT. What a session start and a return from RELEASE can do (R35, R46, R142), by the class record they run under. -/

namespace Sys2Proof.Machine

/-- The record a session starts under is that of the class in use, and its profile is valid. -/
theorem State.startClass_eq_some {s : State} {b : BayNo} {cr : ClassRec} :
    s.startClass b = some cr ↔ s.classAt b = some cr ∧ (s.profile cr.profile).valid = true := by
  simp [State.startClass, Option.filter_eq_some_iff]

/-- There is none exactly where no class in use names a valid profile. -/
theorem State.startClass_eq_none {s : State} {b : BayNo} :
    s.startClass b = none ↔ ∀ cr, s.classAt b = some cr → (s.profile cr.profile).valid = false := by
  simp [State.startClass, Option.filter_eq_none_iff]

/-- A session start without such a record latches PROFILE. -/
theorem State.startSession_of_none {s : State} {b : BayNo} (h : s.startClass b = none) (toCharge warm own : Bool) :
    s.startSession b toCharge warm own = s.latch b .profile [] none none own := by
  simp [State.startSession, h]

/-- A session start into CHARGE is at stage 0 of a new session. -/
theorem State.startSession_to_charge {s : State} {b : BayNo} {cr : ClassRec} (h : s.startClass b = some cr)
    (warm own : Bool) : s.startSession b true warm own =
      ((((s.openSession b cr.profile warm .none).enterStage b 0 true).moveTo b .charge).releaseAtRest b).relevel b := by
  simp [State.startSession, h]

/-- A session start into ASSESS opens the session alone. -/
theorem State.startSession_to_assess {s : State} {b : BayNo} {cr : ClassRec} (h : s.startClass b = some cr)
    (warm own : Bool) : s.startSession b false warm own = (s.openSession b cr.profile warm .none).moveTo b .assess := by
  simp [State.startSession, h]

/-- A return to MAINTAIN without such a record latches PROFILE. -/
theorem State.returnToMaintain_of_none {s : State} {b : BayNo} (h : s.startClass b = none) :
    s.returnToMaintain b = s.latch b .profile [] none none true := by
  simp [State.returnToMaintain, h]

/-- A return to MAINTAIN under a profile without a maintain stage ends in STANDBY with COMPLETE. -/
theorem State.returnToMaintain_to_standby {s : State} {b : BayNo} {cr : ClassRec} (h : s.startClass b = some cr)
    (hk : (s.profile cr.profile).header.maintain = none) : s.returnToMaintain b = s.toStandby b .complete := by
  simp [State.returnToMaintain, h, hk]

/-- A return to MAINTAIN is at the maintain stage of a new session. -/
theorem State.returnToMaintain_to_stage {s : State} {b : BayNo} {cr : ClassRec} {k : StageNo}
    (h : s.startClass b = some cr) (hk : (s.profile cr.profile).header.maintain = some k) : s.returnToMaintain b =
      (((s.openSession b cr.profile false .complete).enterStage b k true).moveTo b .maintain).releaseAtRest b := by
  simp [State.returnToMaintain, h, hk]

end Sys2Proof.Machine
end

