-- ==== Sys2Proof/Tests/Slice0.lean ====
section
/-! SUPPORT. The model's own tests: a smoke test of the well-formedness check, worked examples of the manual, one small
test or two for each command, and a witness for the hypotheses of each statement. -/

-- The tests are elaborated one after another: side by side, each on its own thread, they ask for more memory than there is.
set_option Elab.async false

namespace Sys2Proof.Tests

open Sys2Proof Sys2Proof.Machine

/-! ## A sample rack -/

/-- A plain class: 18 flooded cells of 500 Ah on profile 2 with floor 6. -/
def plainClass : ClassRec where
  cells := 18
  chemistry := .flooded
  capacity := 500
  twin := false
  minCell := 1900
  maxCell := 2600
  startLimit := 45
  hotLimit := 50
  abortLimit := 60
  coolTimeout := 10
  restTime := 30
  ocv := some ⟨1950, 2000, 2050, 2100, 2130⟩
  lowWater := 2
  matchWindow := 0
  equalizeInterval := 5
  profile := 2
  floor := 6

/-- A twin class on the same profile. -/
def twinClass : ClassRec := { plainClass with twin := true, matchWindow := 3, lowWater := 0 }

/-- A CURRENT stage that goes to stage 1 at VT. -/
def bulk : Stage := ⟨.current, 600, 2450, -40, 95, 110, 480, 0, 0, 0, false, [⟨.flag .vt, true, .goto 1⟩]⟩

/-- A REST stage that completes at TM. -/
def pause : Stage := ⟨.rest, 1, 2450, 0, 100, 0, 60, 0, 0, 0, false, [⟨.flag .tm, true, .complete⟩]⟩

/-- A valid profile of two stages under TURN, whose maintain stage is 1. -/
def twoStages : Profile where
  header := ⟨2, .turn, 10, some 1, 720⟩
  stages := #v[some bulk, some pause, none, none, none, none, none, none, none, none, none, none]

/-- A session at stage 0 of profile 2. -/
def atBulk : Session := (Session.fresh 2 false .none).entered 0 0 (some 550000) true

/-- A session at the maintain stage. -/
def atPause : Session := (Session.fresh 2 false .complete).entered 1 0 none true

/-- A report of bay `b` with tag `t`. -/
def seen (b t : Nat) : Report := ⟨b, 3700, 0, 25, true, true, false, t, 2⟩

/-- The sequencers of the sample rack: 0 and 1 in CHARGE, 2 in MAINTAIN, 3 and 9 in STANDBY, 4 in COOLING, 5 in FAULT,
6 MASKED, 7 and 10 in RELEASE, 8 in ASSESS, and the rest VACANT. -/
def rackBay (b : Nat) : Bay :=
  let y := { Bay.boot BayCfg.delivery with cfg := ⟨some 0, 0, 2, false, false⟩, reconcile := .no }
  let z := { y with dockTime := some 0, latest := some ⟨seen b (100 + b), 119000⟩, identity := .registered (100 + b) }
  match b with
  | 0 => { z with state := .charge, session := some atBulk, keptTarget := 44100, keptIset := 600 }
  | 1 => { z with state := .charge, session := some atBulk, keptTarget := 44100, keptIset := 600 }
  | 2 => { z with state := .maintain, session := some atPause }
  | 3 => { z with state := .standby, outcome := .complete }
  | 4 => { z with state := .cooling, coolEntry := some 0, coolExpiry := some 120000 }
  | 5 => { y with state := .fault, latest := some ⟨seen 5 105, 119000⟩ }
  | 6 => { y with state := .masked, cfg := { y.cfg with masked := true } }
  | 7 => { z with state := .release, preIssue := some (.standby .complete) }
  | 8 => { z with state := .assess, session := some (Session.fresh 2 false .none) }
  | 9 => { z with state := .standby, outcome := .stopped }
  | 10 => { z with state := .release, preIssue := some .maintain }
  | _ => y

/-- The grant-table entries of the sample rack: bay 0 has its whole request, bay 1 waits. -/
def rackGrant (b : Nat) : Grant :=
  match b with
  | 0 => ⟨27, 27, 27, 0, .turn, some 10, some 120000, false⟩
  | 1 => ⟨27, 0, 0, 0, .turn, some 10, none, false⟩
  | 2 => ⟨10, 10, 10, 1, .turn, some 10, some 120000, false⟩
  | 8 => ⟨0, 0, 0, 0, .turn, some 10, none, false⟩
  | _ => ⟨0, 0, 0, 0, .hold, none, none, false⟩

/-- A pack record of class 2. -/
def rackPack (t : Nat) (p : Place) (known : Bool) (mark : Option Nat) (charge : Nat) : PackRec :=
  ⟨t, 2, p, .serviceable, charge, known, mark, 0, 0, none⟩

/-- The pack records of the sample rack. -/
def rackPacks : List PackRec :=
  [rackPack 100 (.bay 0) true none 100000, rackPack 101 (.bay 1) true none 100000,
    rackPack 102 (.bay 2) true none 480000, rackPack 103 (.bay 3) true none 480000,
    rackPack 104 (.bay 4) true none 0, rackPack 107 (.bay 7) true (some 12) 450000,
    rackPack 108 (.bay 8) false none 0, rackPack 109 (.bay 9) false none 0,
    rackPack 110 (.bay 10) true (some 14) 450000, rackPack 120 (.machine 7) true none 5000,
    rackPack 121 .unaccounted true none 5000,
    ⟨122, 2, .machine 9, .quarantined .overtemp, 0, true, none, 0, 0, none⟩, rackPack 130 (.machine 13) true (some 13) 5000]

/-- The fault record of bay 5. -/
def rackFault : FaultRec := ⟨.stageAlarm, [], 60000, none, .nothing, none, false, none⟩

/-- The scanner's record of bay 0. -/
def rackLine : LineRec := ⟨0, ⟨⟨true, 4410, 600, false, .charging⟩, 27, some 119000⟩, some 120000, true, false⟩

/-- The sample rack, 2 minutes after power-on. -/
def rack : State :=
  { State.reset with
    now := 120000
    minute := 2
    register :=
      { classes := #v[none, none, some plainClass, some twinClass, none, none, none, none]
        packs := rackPacks
        rotation := #v[[], [], [100, 101, 102, 103, 104, 107, 108, 109, 110, 120, 121, 122, 130], [], [], [], [], []] }
    profiles := State.reset.profiles.set 2 twoStages
    bays := Vector.ofFn fun b => { rackBay b.val with drive := driveOf (rackBay b.val) (rackGrant b.val).granted }
    alloc :=
      { State.reset.alloc with
        siteCap := 60, scheme := .rotating, feederCaps := #v[50, 0, 0, 0], hold := none
        queues := #v[[0, 1], [2], [], []], grants := Vector.ofFn fun b => rackGrant b.val }
    disp :=
      { State.reset.disp with
        issues := [⟨13, some 2, [⟨some 130, .taken⟩], 0, 120000⟩, ⟨12, some 2, [⟨some 107, .openAt 7⟩], 0, 120000⟩,
          ⟨14, none, [⟨some 110, .openAt 10⟩], 0, 120000⟩]
        reservations := [⟨2, 1, 32⟩, ⟨3, 2, 70⟩], ready := #v[0, 0, 2, 0, 0, 0, 0, 0]
        short := #v[false, false, true, false, false, false, false, false] }
    faults := State.reset.faults.set 5 (some rackFault)
    scanner := { State.reset.scanner with walk := none, lines := State.reset.scanner.lines.set 0 rackLine } }

theorem test_rack_grants : rack.GrantTableOk := by decide
theorem test_rack_register : rack.RegisterOk := by decide
theorem test_rack_drives : rack.DrivesOk := by decide
theorem test_rack_bays : rack.BaysOk := by decide
theorem test_rack_lists : rack.ListsOk := by decide
theorem test_rack_shortages : rack.ShortagesOk := by decide

/-! ## Well-formedness: a term of each check that the check refuses -/

theorem test_wf_issueLapse : (Instr.issueLapse 0).wf = false ∧ (Instr.issueLapse 1000).wf = false := by decide
theorem test_wf_reportReceived : (Instr.reportReceived (List.replicate 10 0)).wf = false := by decide
theorem test_wf_frameComplete : (Instr.frameComplete 0 (List.replicate 62 0) 0).wf = false := by decide
theorem test_wf_lengthOutOfRange : (Instr.lengthOutOfRange 62).wf = false ∧ (Instr.lengthOutOfRange 1).wf = false := by
  decide
theorem test_wf_setSite : (Instr.setSite ⟨65536, 0, 0, 0, 0⟩).wf = false ∧ (Instr.setSite ⟨0, 256, 0, 0, 0⟩).wf = false :=
  by decide
theorem test_wf_setFeeder : (Instr.setFeeder 256 0).wf = false ∧ (Instr.setFeeder 0 65536).wf = false := by decide

/-- The arguments of SET CLASS for the class of chapter 4's worked cases. -/
def classArgs : ClassArgs where
  cells := 18
  chemistry := 0
  capacity := 620
  twin := 0
  minCell := 1900
  maxCell := 2600
  startLimit := 40
  hotLimit := 50
  abortLimit := 60
  coolTimeout := 45
  restTime := 30
  lowWater := 1
  matchWindow := 0
  equalizeInterval := 8
  profile := 2
  floor := 6

theorem test_wf_setClass : (Instr.setClass 256 classArgs).wf = false ∧
    (Instr.setClass 2 { classArgs with abortLimit := 128 }).wf = false ∧
    (Instr.setClass 2 { classArgs with capacity := 65536 }).wf = false := by decide
theorem test_wf_setOcv : (Instr.setOcv 256 ⟨0, 0, 0, 0, 0⟩).wf = false ∧ (Instr.setOcv 0 ⟨0, 0, 0, 0, 65536⟩).wf = false :=
  by decide
theorem test_wf_setProfile : (Instr.setProfile 256 ⟨0, 0, 0, 0, 0⟩).wf = false ∧
    (Instr.setProfile 0 ⟨0, 0, 0, 0, 65536⟩).wf = false := by decide

/-- The arguments of SET STAGE for stage 0 of the example profile (Table 3-8), with one exit. -/
def stageArgs : StageArgs := ⟨0, 600, 2450, -40, 95, 0, 480, 0, 0, 0, 0, [⟨1, 0, 1, 1⟩]⟩

theorem test_wf_setStage : (Instr.setStage 256 0 stageArgs).wf = false ∧ (Instr.setStage 0 256 stageArgs).wf = false ∧
    (Instr.setStage 0 0 { stageArgs with exits := [] }).wf = false ∧
    (Instr.setStage 0 0 { stageArgs with exits := List.replicate 4 ⟨1, 0, 1, 1⟩ }).wf = false ∧
    (Instr.setStage 0 0 { stageArgs with exits := [⟨256, 0, 1, 1⟩] }).wf = false ∧
    (Instr.setStage 0 0 { stageArgs with coefficient := -129 }).wf = false := by decide
theorem test_wf_setBay : (Instr.setBay 256 ⟨0, 0, 0, 0, 0⟩).wf = false ∧ (Instr.setBay 0 ⟨256, 0, 0, 0, 0⟩).wf = false :=
  by decide
theorem test_wf_bayCommands : (Instr.maskBay 256).wf = false ∧ (Instr.unmaskBay 256).wf = false ∧
    (Instr.stopBay 256).wf = false ∧ (Instr.startBay 256).wf = false ∧ (Instr.clearFault 256).wf = false ∧
    (Instr.readBay 256).wf = false ∧ (Instr.readFault 256).wf = false := by decide
theorem test_wf_issues : (Instr.issueClass 65536 0).wf = false ∧ (Instr.issueClass 0 256).wf = false ∧
    (Instr.issueBay 65536 0 none).wf = false ∧ (Instr.issueBay 0 256 none).wf = false ∧
    (Instr.issueBay 0 0 (some 256)).wf = false ∧ (Instr.confirm 65536).wf = false ∧
    (Instr.cancelIssue 65536).wf = false := by decide
theorem test_wf_reservations : (Instr.reserve 256 0 0).wf = false ∧ (Instr.reserve 0 256 0).wf = false ∧
    (Instr.reserve 0 0 65536).wf = false ∧ (Instr.dropReservations 256).wf = false := by decide
theorem test_wf_shed : (Instr.shed 65536 0).wf = false ∧ (Instr.shed 0 256).wf = false := by decide
theorem test_wf_packs : (Instr.registerPack 65536 0 0).wf = false ∧ (Instr.registerPack 0 256 0).wf = false ∧
    (Instr.registerPack 0 0 65536).wf = false ∧ (Instr.removePack 65536).wf = false ∧
    (Instr.releasePack 65536).wf = false ∧ (Instr.assignPack 65536 0).wf = false ∧
    (Instr.assignPack 0 65536).wf = false := by decide
theorem test_wf_reads : (Instr.readPack 65536).wf = false ∧ (Instr.readClass 256).wf = false ∧
    (Instr.readGrants 256 1).wf = false ∧ (Instr.readGrants 0 256).wf = false := by decide
theorem test_wf_setAttentionMask : (Instr.setAttentionMask #v[0, 0, 0, 0, 0, 0, 0, 256]).wf = false := by decide

/-! ## Worked examples of the manual -/

/-- Class 2 of the worked cases (4.10). -/
def caseClass : ClassRec := { plainClass with capacity := 620, startLimit := 40, coolTimeout := 45, lowWater := 1, equalizeInterval := 8 }

-- Table 4-4 and the three cases after it.
theorem test_estimate : ocvPercent caseClass.ocv (restVoltage 3663 18) = 42 ∧ estimateCharge caseClass 3663 = 260400 ∧
    soc 260400 620 = 42 ∧ band 42 = 4 := by decide
theorem test_estimate_ends : ocvPercent caseClass.ocv (restVoltage 3500 18) = 0 ∧ estimateCharge caseClass 3850 = 620000 ∧
    estimateCharge caseClass 3780 = 465000 := by decide
-- Table 4-5 and the grant of 20 units after it.
theorem test_target_and_request : packTarget caseClass bulk 35 = 43380 ∧
    requestOf 6 (rawRequest .current true 43380 600 0) = 27 ∧ commandedCurrent 600 20 43380 = 461 ∧
    voltageLimit 43380 = 4338 ∧ commandedCurrent 600 27 43380 = 600 := by decide
theorem test_warm_start : effectiveSetpoint true 600 = 300 ∧ unitsOf 43380 300 = 14 ∧ commandedCurrent 300 14 43380 = 300 := by
  decide

/-- The session record before the four reports of Table 4-6. -/
def beforeReports : Session := { atBulk with deliveredResidue := 20000, storedResidue := 40, restart := false }

-- Table 4-6, reports 1 to 4: delivered and stored residues, delivered total.
theorem test_accounting_first : (beforeReports.accounted 1000 461 95).deliveredResidue = 13000 ∧
    (beforeReports.accounted 1000 461 95).storedResidue = 75 ∧ (beforeReports.accounted 1000 461 95).delivered = 13 ∧
    beforeReports.storedNow 1000 461 95 = 12 := by decide
theorem test_accounting_all :
    let r4 := (((beforeReports.accounted 1000 461 95).accounted 1000 461 95).accounted 1000 (-5) 95).accounted 6200 461 95
    r4.deliveredResidue = 7000 ∧ r4.storedResidue = 90 ∧ r4.delivered = 90 ∧ intervalCapped false 6200 = true := by decide
-- Table 4-8 and the truncation after it.
theorem test_compensation : compensation (-40) (-5) = 100 ∧ compensation (-40) 25 = 0 ∧ compensation (-40) 70 = -100 ∧
    compensation (-33) 30 = -16 ∧ compensation (-33) 20 = 16 := by decide
theorem test_clamped_target : packTarget caseClass { bulk with cellTarget := 2580 } (-5) = 46800 ∧
    packTarget caseClass { bulk with cellTarget := 2580 } 70 = 44640 := by decide
-- The VOLTAGE stages after Table 4-8.
theorem test_voltage_requests : rawRequest .voltage false 43380 600 461 = 23 ∧ commandedCurrent 600 23 43380 = 530 ∧
    rawRequest .voltage false 43380 600 120 = 8 ∧ requestOf 6 (rawRequest .voltage true 39420 100 0) = 6 ∧
    requestOf 6 (rawRequest .voltage false 39420 100 12) = 6 := by decide

/-- The ready packs of Table 6-6 with their charges in a class of 100 Ah. -/
def twinRack : State :=
  let p := fun (t : Nat) (b : BayNo) (c : Nat) => (⟨t, 4, .bay b, .serviceable, c * 1000, true, none, 0, 0, none⟩ : PackRec)
  { State.reset with
    register :=
      { classes := State.reset.register.classes.set 4 (some { twinClass with capacity := 100 })
        packs := [p 5102 15 88, ⟨5110, 4, .machine 3, .serviceable, 0, true, none, 0, 0, none⟩, p 5120 2 100, p 5133 9 96,
          p 5140 6 91]
        rotation := State.reset.register.rotation.set 4 [5133, 5102, 5110, 5120, 5140] }
    bays := Vector.ofFn fun b => { State.reset.bay b with state := .standby, outcome := .complete } }

-- Table 6-7: bay 6 with tag 5,140, then bay 15 with tag 5,102.
theorem test_twin_selection : (twinRack.selection 4).map (fun r => (r.place, r.tag)) = [(.bay 6, 5140), (.bay 15, 5102)] := by
  decide
-- Below Table 6-6: the candidate order; a single-pack class would have issued 5,120.
theorem test_candidate_order : (twinRack.candidates 4).map (·.tag) = [5120, 5133, 5140, 5102] := by decide

/-- The reservation list of Table 6-9. -/
def reserved : State :=
  { rack with
    minute := 455
    disp := { rack.disp with reservations := [⟨3, 2, 480⟩, ⟨2, 3, 510⟩] } }

-- The example after Table 6-9: due minute 480 at position 1, and due minute 545 at the tail.
theorem test_reserve_position : insertByDue ⟨2, 1, 480⟩ reserved.disp.reservations = [⟨3, 2, 480⟩, ⟨2, 1, 480⟩, ⟨2, 3, 510⟩] ∧
    duePosition 480 reserved.disp.reservations = 1 ∧ reserved.demand 3 true = 4 ∧ reserved.demand 2 false = 3 := by decide

/-- A grant-table entry of the worked allocation. -/
def caseGrant (r g c : Nat) (l : LevelNo) (m : GrantMode) : Grant :=
  ⟨r, g, c, l, m, some 20, match m with | .turn => some 9999999 | .hold => none, false⟩

/-- The worked allocation of Tables 5-6 and 5-7 at its start: floors 10 at bays 3 and 12, 6 at bays 5 and 10. -/
def allocation : State :=
  { State.reset with
    register := { State.reset.register with
      classes := (State.reset.register.classes.set 2 (some caseClass)).set 4 (some { caseClass with floor := 10 }) }
    bays := Vector.ofFn fun b =>
      let y := { State.reset.bay b with state := .charge, keptTarget := 43380, keptIset := 600 }
      match b.val with
      | 3 => { y with identity := .anonymous 4 0 true, cfg := { y.cfg with feeder := some 0, baseLevel := 1 } }
      | 5 => { y with identity := .anonymous 2 0 true, cfg := { y.cfg with feeder := some 0 } }
      | 10 => { y with identity := .anonymous 2 0 true, cfg := { y.cfg with feeder := some 1 } }
      | 12 => { y with identity := .anonymous 4 0 true, cfg := { y.cfg with feeder := some 1, baseLevel := 1 } }
      | _ => State.reset.bay b
    alloc :=
      { State.reset.alloc with
        hold := none, siteCap := 60, scheme := .rotating, feederCaps := #v[40, 40, 0, 0], queues := #v[[5, 10], [3], [], []]
        grants := Vector.ofFn fun b =>
          match b.val with
          | 3 => caseGrant 30 30 30 1 .hold
          | 5 => caseGrant 27 10 10 0 .turn
          | 10 => caseGrant 14 14 14 0 .turn
          | 12 => caseGrant 0 0 0 3 .hold
          | _ => State.reset.grant b } }

/-- The granted units of the four bays. -/
def grantsOf (s : State) : List Nat := [(s.grant 3).granted, (s.grant 5).granted, (s.grant 10).granted, (s.grant 12).granted]

-- Table 5-7, event 1: SHED 45 cuts bays 5 and 10 to 9 and 6.
theorem test_allocation_shed : grantsOf (allocation.applyShed 45 30) = [30, 9, 6, 0] := by decide

/-- The worked allocation after event 4, with the level of bay 12 at 3. -/
def allocationShort : State :=
  { allocation with
    alloc :=
      { allocation.alloc with
        shed := some ⟨45, 1800000⟩
        grants := ((allocation.alloc.grants.set 5 (caseGrant 27 9 9 0 .turn)).set 10 (caseGrant 14 6 6 0 .turn)) } }

-- Table 5-7, event 5: bay 12's request of 25 preempts bays 5 and 3 to 6 and 23.
theorem test_allocation_preempt : grantsOf (allocationShort.handRequest 12 25) = [23, 6, 6, 0] := by decide

/-- The bay and register of Table 1-5. -/
def docking : State :=
  { State.reset with
    register :=
      { classes := State.reset.register.classes.set 2 (some caseClass)
        packs := [⟨4410, 2, .machine 31, .serviceable, 0, true, none, 212, 3, none⟩]
        rotation := State.reset.register.rotation.set 2 [4410] }
    profiles := State.reset.profiles.set 2 twoStages
    bays := Vector.ofFn fun b => { State.reset.bay b with
      state := .identify, reconcile := .no, cfg := { (State.reset.bay b).cfg with defaultClass := 2 } } }

/-- A report of bay 7 with a tag and a class code. -/
def shows (t c : Nat) : Report := ⟨7, 3700, 0, 25, true, true, false, t, c⟩

-- Table 1-5, first row: a return.
theorem test_identify_return : ((docking.identify 7 (shows 4410 2)).pack 4410).map (fun r =>
    (r.place, r.returns, r.equalize, r.known)) = some (.bay 7, 213, 4, false) := by decide
-- Table 1-5, second to fifth row: verdicts.
theorem test_identify_verdicts : docking.verdict 7 (shows 4410 3) = .mismatch ∧
    docking.verdict 7 (shows 6002 2) = .accepted 6002 2 false ∧ docking.verdict 7 (shows 6004 5) = .mismatch ∧
    docking.verdict 7 (shows 0 2) = .anonymous 2 := by decide
-- Table 1-5, third row: the new record stands at the head of the list of class 2.
theorem test_identify_registers : (docking.identify 7 (shows 6002 2)).rotation 2 = [6002, 4410] := by decide
-- R12 and Table 1-5, last row: a tag of 0 is presented at the third report only.
theorem test_identify_anonymous : docking.presented 7 (shows 0 2) = false ∧
    (((docking.modBay 7 fun y => { y with attempts := 2 }).identify 7 (shows 0 2)).bay 7).identity = .anonymous 2 0 false := by
  decide

/-! ## One step of each command on the sample rack -/

/-- The state after a command. -/
def after (c : Instr) (s : State) : State :=
  match exec c s with
  | .next t => t
  | .fault _ => s
  | .refused _ => s

/-- The status and the contents of the reply to a command. -/
def answer (c : Instr) (s : State) : Option (Status × List Byte) := (after c s).link.reply.map fun r => (r.status, r.contents)

/-- The status of the reply to a command. -/
def status (c : Instr) (s : State) : Option Status := (after c s).link.reply.map (·.status)

-- R176, R175: the window of 5 s is clamped to 30; the effective cap follows the site cap.
theorem test_setSite : answer (.setSite ⟨100, 1, 60, 5, 1000⟩) rack =
    some (.ok, [0, 100, 1, 60, 0, 30, 0x03, 0xE8, 0, 100]) := by decide
-- R160: a new scan interval ends the wait that an overrun of the old one asked for.
theorem test_setSite_overrun : status (.setSite ⟨100, 2, 60, 5, 1000⟩) rack = some .range ∧
    let late : State := { rack with scanner := { rack.scanner with overrun := true } }
    (after (.setSite ⟨60, 1, 60, 120, 2000⟩) late).scanner.overrun = false ∧
    (after (.setSite ⟨60, 0, 60, 120, 1000⟩) late).scanner.overrun = true := by decide
-- R93: a feeder cap is clamped to 600, and number 4 is out of range.
theorem test_setFeeder : answer (.setFeeder 1 700) rack = some (.ok, [0x02, 0x58]) ∧
    status (.setFeeder 4 0) rack = some .range := by decide
-- R2, item 5: class 2 is in use; class 5 is not.
theorem test_setClass : status (.setClass 2 classArgs) rack = some .inUse ∧
    (after (.setClass 5 { classArgs with lowWater := 40 }) rack).classRec 5 = some
      { caseClass with ocv := none, lowWater := 32 } := by decide
theorem test_setClass_range : status (.setClass 5 { classArgs with minCell := 2600 }) rack = some .range := by decide
-- R4: an undefined class is refused STATE.
theorem test_setOcv : status (.setOcv 6 ⟨1950, 2000, 2050, 2100, 2130⟩) rack = some .state ∧
    status (.setOcv 3 ⟨1950, 1950, 2050, 2100, 2130⟩) rack = some .range ∧
    answer (.setOcv 3 ⟨1500, 2000, 2050, 2100, 4300⟩) rack = some (.ok, []) := by decide
-- R55, R56: profile 2 has sessions.
theorem test_setProfile : status (.setProfile 2 ⟨2, 0, 10, 255, 720⟩) rack = some .inUse ∧
    answer (.setProfile 3 ⟨2, 1, 60, 255, 720⟩) rack = some (.ok, [2, 1, 60, 0xFF, 0x02, 0xD0]) := by decide
-- R58: stage 12 is out of range; a written stage is echoed.
theorem test_setStage : status (.setStage 3 12 stageArgs) rack = some .range ∧
    ((after (.setStage 3 11 stageArgs) rack).profile 3).stage 11 = some ⟨.current, 600, 2450, -40, 95, 0, 480, 0, 0, 0, false,
      [⟨.flag .vt, true, .goto 1⟩]⟩ := by decide
-- R27: the feeder of a bay in session is not changed; an empty bay takes its configuration.
theorem test_setBay : status (.setBay 0 ⟨1, 0, 2, 0, 0⟩) rack = some .inUse ∧
    answer (.setBay 11 ⟨255, 2, 3, 1, 0⟩) rack = some (.ok, [255, 2, 3, 1, 0]) := by decide
-- R43, R44: RELEASE is refused; a masked bay comes back VACANT.
theorem test_maskBay : status (.maskBay 7) rack = some .state ∧ answer (.maskBay 2) rack = some (.ok, [9]) := by decide +kernel
theorem test_unmaskBay : status (.unmaskBay 0) rack = some .state ∧
    ((after (.unmaskBay 6) rack).bay 6).reconcile = .unmask := by decide
-- R41: MAINTAIN gives COMPLETE, CHARGE gives STOPPED with the charge written.
theorem test_stopBay : ((after (.stopBay 2) rack).bay 2).outcome = .complete ∧
    (after (.stopBay 0) rack).inFlight = [.charge 100 100000] ∧ status (.stopBay 3) rack = some .state := by decide +kernel
-- R42: a known charge goes to CHARGE (4), an unknown one to ASSESS (3).
theorem test_startBay : answer (.startBay 3) rack = some (.ok, [4]) ∧ answer (.startBay 9) rack = some (.ok, [3]) := by
  decide +kernel
-- R151: the alarm of bay 5 is no longer shown, and a pack is.
theorem test_clearFault : answer (.clearFault 5) rack = some (.ok, [1]) ∧ status (.clearFault 0) rack = some .state := by
  decide
-- R122: bay 3's pack is fuller than none other ready but bay 2's, of the same band and before it in the list.
theorem test_issueClass : ((after (.issueClass 20 2) rack).pack 102).map (·.mark) = some (some 20) ∧
    status (.issueClass 12 2) rack = some .openIssue ∧ status (.issueClass 20 5) rack = some .none := by decide
theorem test_issueClass_reservation : (after (.issueClass 20 2) rack).disp.reservations = [⟨3, 2, 70⟩] := by decide
-- R123: a twin issue by bay names its parts in the order given.
theorem test_issueBay : ((after (.issueBay 20 9 (some 3)) rack).issueOf 20).map (fun i => i.parts.map (·.pack)) =
    some [some 109, some 103] ∧ status (.issueBay 20 9 (some 9)) rack = some .range := by decide
-- R127, R128: tag 130 goes to machine 13.
theorem test_confirm : answer (.confirm 13) rack = some (.ok, [0, 13, 1, 0, 130]) ∧ status (.confirm 12) rack = some .present :=
  by decide
theorem test_confirmNext : ((after .confirmNext rack).pack 130).map (fun r => (r.mark, r.lastMachine)) =
    some (none, some 13) := by decide
-- R130: bay 7 returns to STANDBY, and its part is answered OPEN.
theorem test_cancelIssue : answer (.cancelIssue 12) rack = some (.ok, [0, 12, 1, 0, 107, 0]) ∧
    ((after (.cancelIssue 12) rack).bay 7).outcome = .complete := by decide
-- R170, Table 9-1: marker, length 8, kind, status, contents, and the check that brings the sum to 0.
theorem test_cancelIssue_frame : (after (.cancelIssue 12) rack).txBytes =
    [0xA5, 8, 0x9C, 0, 0, 12, 1, 0, 107, 0, 0xE4] := by decide
-- Log entry 44: a TAKEN part whose pack's record has been removed sets the attention.
theorem test_issueLapse_gone : (after (.issueLapse 13) { rack with register := { rack.register with
    packs := rackPacks.filter fun r => decide (r.tag ≠ 130) } }).link.edges.unaccounted = true := by decide
-- R129: a TAKEN pack becomes UNACCOUNTED.
theorem test_issueLapse : ((after (.issueLapse 13) rack).pack 130).map (·.place) = some .unaccounted ∧
    (after (.issueLapse 13) rack).link.edges.lapsed = true := by decide
-- R134: due minute 2 + 30 = 32 stands after the entry due at 32.
theorem test_reserve : answer (.reserve 2 1 30) rack = some (.ok, [0, 0, 0, 32, 1]) ∧
    status (.reserve 2 9 30) rack = some .range ∧ status (.reserve 5 1 30) rack = some .state := by decide
-- R136.
theorem test_dropReservations : answer (.dropReservations 3) rack = some (.ok, [1]) ∧
    answer (.dropReservations 7) rack = some (.ok, [0]) := by decide
-- R94: the cap is clamped to the site cap and the duration to 240.
theorem test_shed : answer (.shed 100 255) rack = some (.ok, [0, 60, 240, 0, 60]) ∧
    (after (.shed 50 1) rack).alloc.shed = some ⟨50, 180000⟩ := by decide
-- R17, R18, R19, R155.
theorem test_registerPack : answer (.registerPack 200 2 0) rack = some (.ok, [0, 200, 0]) ∧
    status (.registerPack 105 2 5) rack = some .present := by decide
theorem test_removePack : status (.removePack 100) rack = some .state ∧ (after (.removePack 121) rack).pack 121 = none := by
  decide
theorem test_assignPack : ((after (.assignPack 121 5) rack).pack 121).map (·.place) = some (.machine 5) ∧
    status (.assignPack 120 5) rack = some .state := by decide
theorem test_releasePack : answer (.releasePack 122) rack = some (.ok, [0, 122, 1, 0, 9, 1]) ∧
    status (.releasePack 121) rack = some .state := by decide
-- Tables 10-3 and 10-4.
theorem test_readBay : (answer (.readBay 0) rack).map (fun a => (a.2.length, a.2.take 10)) =
    some (60, [0, 4, 0, 0, 2, 0, 1, 0, 100, 0xFF]) := by decide
-- Table 10-1: absent class, count and tag.
theorem test_absentFields : rack.consumedBytes 8 none = [0xFF, rack.free 9, rack.free 10, 0xFF] ∧
    ((rack.latestBytes 11).drop 9).take 3 = [0, 0, 0xFF] := ⟨rfl, by decide⟩
theorem test_readPack : answer (.readPack 103) rack = some (.ok,
    [0, 103, 2, 0, 0, 3, 0, 0, 0x07, 0x53, 0, 1, 0, 0, 0, 0, 0, 0, 0, 3, 1, 96]) := by decide
theorem test_readClass : answer (.readClass 7) rack = some (.ok, [7, 0]) ∧
    (answer (.readClass 2) rack).map (·.2.length) = some 35 := by decide
theorem test_readGrants : (answer (.readGrants 0 1) rack).map (fun a => (a.2.length, a.2.drop 36)) =
    some (45, [27, 27, 27, 28, 0, 0, 0, 0, 0]) ∧ status (.readGrants 23 2) rack = some .range := by decide
theorem test_readIssues : (answer .readIssues rack).map (fun a => a.2.take 21) =
    some [0, 1, 0xD4, 0xC0, 3, 0, 13, 2, 0, 0, 0, 0, 0, 0, 0, 0, 1, 0, 130, 1, 0xFF] := by decide
theorem test_readReservations : answer .readReservations rack = some (.ok, [0, 0, 0, 2, 60, 2, 0x8A, 0, 30, 0x13, 0, 68]) := by
  decide
theorem test_readFault : answer (.readFault 5) rack = some (.ok,
    [5, 8, 0, 1, 0xD4, 0xC0, 3, 0, 0, 0, 0, 0xEA, 0x60, 0xFF, 0, 0, 0, 0xFF, 0, 0xFF, 0]) := by decide
-- R179, R180.
theorem test_readAttention : answer .readAttention rack = some (.ok,
    [1, 0, 0, 0, 0, 0, 0, 0, 0x20, 0, 0, 0, 0, 0, 0, 0, 0, 0, 0, 0]) := by decide
theorem test_setAttentionMask : answer (.setAttentionMask #v[1, 0, 0, 0, 0, 0, 0, 1]) rack =
    some (.ok, [1, 0, 0, 0, 0, 0, 0, 1]) ∧ status (.setAttentionMask #v[2, 0, 0, 0, 0, 0, 0, 0]) rack = some .range := by
  decide
-- R181, R138: bay 5 shows a pack and goes to IDENTIFY; class 2 was SHORT and still is, so SHORT stays CLEAR.
theorem test_clear : ((after .clear rack).bay 5).state = .identify ∧ (after .clear rack).disp.issues = [] ∧
    answer .clear rack = some (.ok, List.replicate 12 0) := by decide +kernel

/-! ## One step of each event -/

/-- The bytes of a good report with a present pack of class 2, latch engaged. -/
def reportBytes (b : BayNo) (vm im tm tag : Nat) : List Byte :=
  let body := [u1 b.val] ++ u2 vm ++ u2 im ++ [u1 tm, 3] ++ u2 tag ++ [2]
  body ++ [xorBytes body]

/-- The bytes of a report (R187). -/
def bytesOf (r : Report) : List Byte :=
  let body := [u1 r.address] ++ u2 r.vm ++ i2 r.im ++
    [i1 r.tm, u1 (r.present.toNat + 2 * r.latchEngaged.toNat + 4 * r.alarm.toNat)] ++ u2 r.tag ++ [u1 r.classCode]
  body ++ [xorBytes body]

/-- The sample rack with a poll slot of bay `b` that began at `t`. -/
def polling (b : BayNo) (t : Nat) : State :=
  { rack with scanner := { rack.scanner with slot := some ⟨b, t, true, pollBytes b (rack.bay b).drive⟩ } }

-- R182, R184: the cut write keeps its earlier image; nothing but the store is left.
theorem test_powerLoss : (after (.powerLoss 1) { rack with inFlight := [.feederCap 0 7, .feederCap 1 9] }).store.feederCaps =
    #v[7, 0, 0, 0] ∧ (after (.powerLoss 0) rack).register.packs = [] := by decide
theorem test_powerOn : (after .powerOn { State.reset with powered := false }).restoring = true ∧
    (after .powerOn { State.reset with powered := false }).running = false := by decide
theorem test_resetPinAssert : (after (.resetPinAssert 0) rack).resetLow = true ∧
    (after (.resetPinAssert 0) rack).attnLow = false := by decide
theorem test_resetPinRelease : (after .resetPinRelease (after (.resetPinAssert 0) rack)).restores = true := by decide

/-- A part that restores a store with one pack in bay 3 and another at a machine. -/
def restoring : State :=
  { State.reset with
    restoring := true
    store := { Store.delivery with
      packs := [rackPack 50 (.bay 3) true none 7000, rackPack 51 (.machine 4) true none 7000]
      rotation := Store.delivery.rotation.set 2 [60, 51] } }

-- R22, R25: charge known NO in a bay only; tag 60 is dropped and tag 50 appended at the tail.
theorem test_restoreEnd : (after .restoreEnd restoring).register.packs.map (fun r => (r.known, r.charge)) =
    [(false, 7000), (true, 7000)] ∧ (after .restoreEnd restoring).rotation 2 = [51, 50] := by decide
-- R110.
theorem test_startupHoldEnd : (after .startupHoldEnd { State.reset with now := 3000 }).alloc.hold = none ∧
    (after .startupHoldEnd { State.reset with now := 2999 }).alloc.hold = some 3000 := by decide
-- R135: due at minute 32, removed at minute 62.
theorem test_depotMinuteAdvance : (after .depotMinuteAdvance { rack with minute := 61, now := 3720000 }).disp.reservations =
    [⟨3, 2, 70⟩] ∧ (after .depotMinuteAdvance { rack with minute := 60, now := 3660000 }).link.edges.missed = false := by
  decide
theorem test_reservationGraceExpiry : (after .reservationGraceExpiry { rack with minute := 62 }).link.edges.missed = true ∧
    (after .reservationGraceExpiry { rack with minute := 61 }).disp.reservations.length = 2 := by decide
-- R108: bay 1 waits at the level of bay 0, and nobody at the level of bay 2.
theorem test_turnExpiry : (after (.turnExpiry 0) rack).alloc.queues[(0 : LevelNo)] = [1, 0] ∧
    ((after (.turnExpiry 2) rack).grant 2).turnExpiry = some 720000 := by decide
-- R108, R104: bay 0 still carries 27, so the feeder's 50 leave bay 1 just 50 - 27 - 10, and bay 0 none.
theorem test_turnExpiry_release : (after (.turnExpiry 0) rack).grant 0 = ⟨27, 0, 27, 0, .turn, some 10, none, true⟩ ∧
    ((after (.turnExpiry 0) rack).grant 1).granted = 13 := by decide
-- R95.
theorem test_shedExpiry : (after .shedExpiry { rack with alloc := { rack.alloc with
    shed := some ⟨40, 120000⟩ } }).effectiveCap = 60 := by decide
-- R34: a warm start.
theorem test_coolExpiry : ((after (.coolExpiry 4) rack).bay 4).session.map (fun se => (se.stage, se.warm)) =
    some (some 0, true) := by decide +kernel
-- R165.
theorem test_lostStageExpiry : ((after (.lostStageExpiry 0) rack).grant 0).carried = 0 := by decide
-- R100, R104: of the feeder's 50 units bay 0 keeps 27 and bay 2 keeps 10, so bay 1 is granted 50 - 27 - 10.
theorem test_lostStageExpiry_pass : ((after (.lostStageExpiry 0) rack).grant 1).granted = 13 := by decide
-- R160.
theorem test_roundStart : (after .roundStart rack).scanner.walk = some 0 ∧
    (after .roundStart rack).scanner.roundStart = 120000 := by decide
-- R158, R165: the drive, its units and the lost-stage expiry; a MASKED bay is passed over.
theorem test_regularPoll : ((after .regularPoll (after .roundStart rack)).line 0).lostExpiry = some 123000 ∧
    ((after .regularPoll { rack with scanner := { rack.scanner with walk := some 6 } }).scanner.slot.map (·.bay)) = some 7 := by
  decide
theorem test_promptPoll : (after .promptPoll { rack with scanner := { rack.scanner with prompt := [6, 0] } }).scanner.prompt =
    [0] := by decide
-- R163, R164: a good report sets the miss count to 0; R141: 60 degrees is the abort limit.
theorem test_reportReceived : ((after (.reportReceived (reportBytes 9 3700 0 25 109)) (polling 9 119990)).bay 9).latest.map
    (·.arrival) = some 120000 := by decide
theorem test_reportReceived_hot : ((after (.reportReceived (reportBytes 0 3700 0 60 100)) (polling 0 119990)).pack 100).map
    (·.standing) = some (.quarantined .overtemp) := by decide +kernel
-- R157, R164.
theorem test_pollSlotTimeout : ((after .pollSlotTimeout (polling 9 119970)).line 9).misses = 1 ∧
    ((after .pollSlotTimeout (polling 9 119971)).line 9).misses = 0 := by decide
theorem test_thirdConsecutiveMiss : ((after .thirdConsecutiveMiss ((polling 9 119970).modLine 9 fun l =>
    { l with misses := 2 })).faultRec 9).map (·.first) = some .stageLost := by decide +kernel

/-- Bay 11, VACANT with two misses, is the place of pack 121. -/
def awaited : State :=
  ((polling 11 119970).modLine 11 fun l => { l with misses := 2 }).modPack 121 fun r => { r with place := .bay 11 }

-- R21: the fault latches in the pack's bay, though the bay runs no pack.
theorem test_thirdConsecutiveMiss_charge : (after .thirdConsecutiveMiss awaited).inFlight = [.charge 121 5000] := by
  decide +kernel

/-- The sample rack with its receiver in FRAME. -/
def framed : State := rack.setReceiver .frame

-- R170, R172: kind 0x1C with machine 12 and its check byte; a wrong check, an unknown kind, a wrong length.
theorem test_frameComplete : (after (.frameComplete 0x1C [0, 12] 0xD5) framed).link.reply =
    some ⟨0x9C, .ok, [0, 12, 1, 0, 107, 0]⟩ ∧
    (after (.frameComplete 0x1C [0, 12] 0xD6) framed).link.reply = some ⟨0x9C, .check, []⟩ := by decide
theorem test_frameComplete_refused : (after (.frameComplete 0x08 [] 0xF7) framed).link.reply = some ⟨0x88, .kind, []⟩ ∧
    (after (.frameComplete 0x1C [12] 0xD6) framed).link.reply = some ⟨0x9C, .length, []⟩ := by decide
-- R173.
theorem test_frameDiscardedBusy : (after .frameDiscardedBusy (after .readIssues rack)).link.edges.link = false ∧
    (after .frameDiscardedBusy ((after .readIssues rack).setReceiver .frame)).link.edges.link = true := by decide
theorem test_replySent : (after .replySent (after .readIssues rack)).busy = false := by decide
-- R171.
theorem test_receiver : (after .startMarkerReceived rack).link.receiver = .frame ∧
    (after .byteGapTimeout framed).link.receiver = .hunt ∧ (after (.lengthOutOfRange 63) framed).link.receiver = .hunt ∧
    (after (.lengthOutOfRange 62) framed).link.receiver = .frame := by decide
-- R187 and Table 10-5: the poll of a bay in RELEASE, latch open and indicator RELEASE.
theorem test_pollBytes : pollBytes 7 (rack.bay 7).drive = [7, 2, 0, 0, 0, 0, 4, 1] := by decide

/-! ## Decoding a frame: bodies written out from Table 10-2 -/

theorem test_parse_setFeeder : parseCommand 0x02 [1, 0x02, 0x58] = .command (.setFeeder 1 600) := by decide
theorem test_parse_setStage : parseCommand 0x06
    [2, 0, 0, 0x02, 0x58, 0x09, 0x92, 0xD8, 95, 0, 0x01, 0xE0, 0, 0, 0, 0, 0, 0, 1, 0, 1, 1] =
    .command (.setStage 2 0 stageArgs) := by decide
theorem test_parse_setClass : parseCommand 0x03 [2, 18, 0, 0x02, 0x6C, 0, 0x07, 0x6C, 0x0A, 0x28, 40, 50, 60, 45, 30, 1, 0, 8,
    2, 6] = .command (.setClass 2 classArgs) := by decide
theorem test_parse_issueBay : parseCommand 0x19 [0, 212, 6, 15] = .command (.issueBay 212 6 (some 15)) := by decide
theorem test_parse_empty : parseCommand 0x3F [] = .command .clear ∧ parseCommand 0x37 [0] = .wrongLength := by decide

/-! ## Witnesses: a state and operands that meet the hypotheses of each statement, clause by clause -/

theorem witness_StepTakesFrontCommand : ({ rack with pending := [.clear, .readIssues] } : State).pending =
    .clear :: [.readIssues] := rfl
theorem witness_IdleStepRunsClock : State.reset.pending = [] ∧ State.reset.running = true ∧
    ({ State.reset with scanner := { State.reset.scanner with walk := none } } : State).due = [] ∧
    State.reset.due = [.regularPoll] ∧ ({ State.reset with powered := false } : State).running = false := by decide +kernel
theorem witness_LinkEventsMoveTheReceiver : rack.running = true ∧ rack.link.receiver = .hunt ∧ framed.running = true ∧
    framed.link.receiver = .frame ∧ (0 : Byte).toNat = 0 ∧ 62 < (63 : Byte).toNat := by decide

/-- The sum of a frame's length, kind, body and check, as the statement writes it. -/
def frameSum (kind check : Byte) (body : List Byte) : Byte := u1 (body.length + 1) + (kind + (sumBytes body + check))

theorem witness_FrameRefusedByLinkUnit : framed.accepts ∧ framed.link.receiver = .frame ∧
    (List.replicate 61 (0 : Byte)).length ≤ 61 ∧ frameSum 0x1C 0 (List.replicate 61 0) ≠ 0 ∧
    frameSum 0x08 0xF7 [] = 0 ∧ (layoutOf (0x08 : Byte).toNat).isNone = true ∧ frameSum 0x1B 0xA7 (List.replicate 61 0) = 0 ∧
    parseCommand 0x1B (List.replicate 61 0) = .wrongLength := by decide +kernel
theorem witness_FrameActsAsItsCommand : (Instr.setStage 2 0 stageArgs).wf = true ∧
    (frameOf (.setStage 2 0 stageArgs)).isSome = true ∧ framed.link.receiver = .frame := by decide

/-- The sample rack while a reply is being sent. -/
def sending : State := (after .readReservations rack).setReceiver .frame

theorem witness_BusyUnitDiscardsFrames : sending.running = true ∧ sending.busy = true ∧ sending.link.receiver = .frame ∧
    (List.replicate 61 (0 : Byte)).length ≤ 61 ∧ (frameOf .clear).isSome = true := by decide
theorem witness_RefusedCommandChangesNothing : ∃ (s : State) (c : Instr) (kind : Byte) (body : List Byte)
    (owner : State → Answer) (st : Status), s.accepts ∧ frameOf c = some (kind, body) ∧ ownerOf c = some owner ∧
    owner s.settle = .refused st :=
  ⟨rack, .maskBay 24, 0x10, [24], takeMaskBay 24, .range, by decide, rfl, rfl, rfl⟩
theorem witness_SupplyAndResetPin : ({ rack with powered := false } : State).powered = false ∧ rack.powered = true ∧
    rack.resetLow = false ∧ (after (.resetPinAssert 0) rack).powered = true ∧
    (after (.resetPinAssert 0) rack).resetLow = true ∧ (after (.resetPinAssert 0) rack).restoring = true ∧
    (after (.resetPinAssert 0) rack).running = false ∧ powerRow .regularPoll = false := by decide
theorem witness_RestoreSetsUpTheRack : restoring.restores = true ∧ restoring.settle.store.Sound := by decide
theorem witness_accepts : rack.accepts := by decide
theorem witness_AttentionMaskIsSet : (∀ i : Fin 8, (#v[1, 0, 0, 0, 0, 0, 0, 1] : Vector Nat 8)[i] ≤ 1) ∧
    ∃ i : Fin 8, 1 < (#v[1, 0, 0, 0, 0, 0, 0, 2] : Vector Nat 8)[i] := by decide
theorem witness_HoldAndLostStageEnd : State.reset.GrantTableOk ∧
    ({ State.reset with now := 3000 } : State).alloc.hold = some 3000 ∧ rack.GrantTableOk ∧
    (rack.line 0).lostExpiry = some rack.now := by decide
-- The carried value falls while bay 1 waits; there is none to fall in the second state.
theorem witness_LostStagePasses : 0 < (rack.grant 0).carried ∧ (rack.grant 1).granted < (rack.grant 1).request ∧
    let u := rack.modGrant 0 fun g => { g with carried := 0 }
    (u.line 0).lostExpiry = some u.now ∧ ¬ 0 < (u.grant 0).carried := by decide
theorem witness_MinuteDropsOverdueReservations : rack.running = true ∧
    (({ rack with minute := 61, now := 3720000 } : State).minute + 1) * 60000 ≤ 3720000 ∧
    ({ rack with minute := 62 } : State).disp.reservations.head? = some ⟨2, 1, 32⟩ ∧ 32 + 30 ≤ 62 := by decide
theorem witness_TurnIsRenewedOrReleased : rack.running = true ∧ rack.GrantTableOk ∧
    (rack.grant 0).turnExpiry = some rack.now ∧ rack.rivalWaits 0 = true ∧
    (rack.grant 2).turnExpiry = some rack.now ∧ rack.rivalWaits 2 = false := by decide
theorem witness_LapseAndCancelEndAnEntry : rack.running = true ∧ rack.busy = false ∧
    rack.issueOf 14 = some ⟨14, none, [⟨some 110, .openAt 10⟩], 0, rack.now⟩ ∧
    (rack.bay 10).preIssue = some .maintain ∧ (rack.classAt 10).isSome = true ∧ (rack.profile 2).valid = true ∧
    (rack.profile 2).header.maintain = some 1 ∧
    rack.issueOf 12 = some ⟨12, some 2, [⟨some 107, .openAt 7⟩], 0, rack.now⟩ ∧
    (rack.bay 7).preIssue = some (.standby .complete) ∧
    rack.issueOf 13 = some ⟨13, some 2, [⟨some 130, .taken⟩], 0, rack.now⟩ := by decide
/-- The sample rack with an invalid profile 2. -/
def misread : State := { rack with profiles := State.reset.profiles }

/-- The sample rack with a profile 2 that names no maintain stage. -/
def unkept : State :=
  { rack with profiles := State.reset.profiles.set 2 { twoStages with header := { twoStages.header with maintain := none } } }

/-- The sample rack without the record of the pack in bay 10, which is in RELEASE (log entry 44). -/
def recordGone : State :=
  { rack with register := { rack.register with packs := rackPacks.filter fun r => decide (r.tag ≠ 110) } }

theorem witness_LapseWithoutMaintainStage : (∀ s ∈ [unkept, misread, recordGone], s.running = true ∧ s.busy = false ∧
      s.issueOf 14 = some ⟨14, none, [⟨some 110, .openAt 10⟩], 0, s.now⟩ ∧ (s.bay 10).preIssue = some .maintain) ∧
    unkept.classAt 10 = some plainClass ∧ (unkept.profile 2).valid = true ∧ (unkept.profile 2).header.maintain = none ∧
    misread.classAt 10 = some plainClass ∧ (misread.profile 2).valid = false ∧ recordGone.classAt 10 = none := by decide
-- R46, R142: a bay whose profile is undefined latches PROFILE as its OPEN part ends.
theorem test_issueLapse_undefined : ((after (.issueLapse 14) recordGone).bay 10).state = .fault ∧
    ((after (.issueLapse 14) recordGone).faultRec 10).map (·.first) = some .profile := by decide
theorem witness_PassOrder : rack.QueuesAgree ∧ rack.alloc.scheme = .rotating ∧ State.reset.QueuesAgree ∧
    State.reset.alloc.scheme = .fixed := by decide
theorem witness_PassObeysTheCaps : rack.QueuesAgree ∧ rack.TurnsOk := by decide

/-- The sample rack with a site cap under which bay 1 can be given its request. -/
def roomy : State := { rack with alloc := { rack.alloc with siteCap := 100, feederCaps := #v[100, 0, 0, 0] } }

-- The pass of a release gives the bay a grant again where there is room.
theorem witness_TurnIsGrantedAgain : roomy.running = true ∧ roomy.GrantTableOk ∧
    (roomy.grant 0).turnExpiry = some roomy.now ∧ roomy.rivalWaits 0 = true ∧
    ((after (.turnExpiry 0) roomy).grant 0).granted = 27 := by decide +kernel
theorem witness_PassKeepsFloorsAndCommitment : rack.FloorsMet ∧ (roomy.grant 1).granted < (roomy.pass.grant 1).granted := by
  decide +kernel
-- Requests 27, 27 and 10 and carried 27 and 10 fit caps of just 101; of 100 units they do not.
theorem witness_PassGrantsWhatFits :
    let fits := fun n => ({ rack with alloc := { rack.alloc with siteCap := n, feederCaps := #v[n, 0, 0, 0] } } : State)
    let wanted := fun b : BayNo => (rack.grant b).request + (rack.grant b).carried
    rack.alloc.hold = none ∧ (fits 101).FloorsMet ∧ (fits 101).QueuesAgree ∧ sumOver allBays wanted = 101 ∧
    (fits 101).effectiveCap = 101 ∧ (∀ f, sumOver ((fits 101).feederBays f) wanted ≤ (fits 101).feederCap f) ∧
    ((fits 101).feeder 1).isSome = true ∧ (rack.grant 1).granted < (rack.grant 1).request := by decide +kernel
theorem witness_PassKeepsGrants : grantedSum allBays rack.grantedUnits ≤ rack.effectiveCap ∧
    (∀ f, grantedSum (rack.feederBays f) rack.grantedUnits ≤ rack.feederCap f) ∧
    (∀ b : BayNo, (rack.grant b).level ≠ 3) ∧ (rack.feeder 0).isSome = true ∧
    0 < min (rack.grant 0).granted (rack.grant 0).request := by decide +kernel
theorem witness_ShedStartsAndEnds : rack.GrantTableOk ∧ rack.accepts ∧
    ({ rack with alloc := { rack.alloc with shed := some ⟨60, 120000⟩ } } : State).GrantTableOk ∧
    (120000 : Nat) ≤ rack.now := by decide
theorem witness_SetFeederReplacesItsCap : rack.accepts ∧ rack.GrantTableOk ∧ (3 : FeederNo).val = 3 ∧ 3 < 4 := by decide
theorem witness_SetSiteReplacesItsSettings : rack.accepts ∧ rack.GrantTableOk ∧ rack.ShortagesOk ∧
    (⟨60, 1, 60, 120, 1000⟩ : SiteArgs).scheme ≤ 1 ∧ 1 < (⟨60, 2, 60, 120, 1000⟩ : SiteArgs).scheme := by decide
theorem witness_SetClassReplacesItsRecord : rack.accepts ∧ rack.RegisterOk ∧
    (readClass classArgs ((rack.classRec 5).bind (·.ocv))).isSome = true ∧ rack.classBusy 5 = false := by decide
theorem witness_SetOcvReplacesItsTable : rack.accepts ∧ rack.classRec 3 = some twinClass ∧ rack.classBusy 3 = false ∧
    1500 ≤ 1500 ∧ 1500 < 1501 ∧ 1501 < 1502 ∧ 1502 < 1503 ∧ 1503 < 4300 ∧ 4300 ≤ 4300 := by decide
theorem witness_SetProfileReplacesItsHeader : rack.accepts ∧ rack.profileInUse 3 = false ∧
    (rack.bay 0).session = some atBulk ∧ atBulk.profile = 2 ∧
    (readHeader ⟨12, 1, 60, 255, 1440⟩).isSome = true ∧ (readHeader ⟨0, 0, 1, 11, 30⟩).isSome = true := by decide
theorem witness_SetStageReplacesItsPosition : rack.accepts ∧ rack.profileInUse 3 = false ∧
    (rack.bay 0).session = some atBulk ∧ (readStage stageArgs).isSome = true := by decide
theorem witness_SetBayReplacesItsConfiguration : rack.accepts ∧ rack.GrantTableOk ∧
    readBayCfg ⟨0, 2, 3, 1, 0⟩ = some ⟨some 0, 2, 3, true, false⟩ ∧ (rack.bay 0).cfg.masked = false ∧
    (rack.bay 0).inSession = true ∧ (rack.bay 0).cfg.feeder = some 0 ∧ (rack.bay 0).holdsAnonymous = false ∧
    (rack.bay 0).cfg.baseLevel ≠ 2 ∧ (rack.grant 9).level = rack.levelOf 9 := by decide
theorem witness_SetBayMasksAndUnmasks : rack.accepts ∧ rack.BaysOk ∧
    readBayCfg ⟨0, 0, 2, 0, 1⟩ = some ⟨some 0, 0, 2, false, true⟩ ∧ (rack.bay 9).holdsAnonymous = false ∧
    (rack.bay 9).inSession = false ∧ (rack.bay 9).state ≠ .release ∧ (rack.bay 9).cfg.masked = false ∧
    readBayCfg ⟨255, 2, 7, 1, 0⟩ = some ⟨none, 2, 7, true, false⟩ ∧ (rack.bay 6).holdsAnonymous = false ∧
    (rack.bay 6).state = .masked ∧ (rack.bay 6).cfg.masked = true := by decide
theorem witness_MaskAndUnmaskBay : rack.accepts ∧ rack.BaysOk ∧ (rack.bay 0).state ≠ .release ∧
    (rack.bay 0).state ≠ .masked ∧ (rack.bay 6).state = .masked := by decide
theorem witness_StopBayGoesToStandby : rack.accepts ∧ rack.BaysOk ∧ (rack.bay 4).state = .cooling ∧
    (rack.bay 2).inSession = true := by decide

theorem witness_SessionsStartColdAndWarm : rack.BaysOk ∧ misread.BaysOk ∧ rack.accepts ∧ misread.accepts ∧
    (rack.bay 3).state = .standby ∧ rack.quarantinedAt 3 = false ∧ rack.classAt 3 = some plainClass ∧
    (rack.profile 2).valid = true ∧ (misread.profile 2).valid = false ∧ (rack.bay 4).state = .cooling ∧
    (rack.bay 4).coolExpiry = some rack.now ∧ rack.classAt 4 = some plainClass := by decide

/-- The sample rack half an hour later, with a poll slot of bay `b`. -/
def later (b : BayNo) : State :=
  { polling b 1800000 with now := 1800000 }

theorem witness_ReportsCoolAndAssess :
    let cool : Report := { seen 4 104 with tm := 42 }
    let warm : Report := { seen 4 104 with tm := 43 }
    (polling 4 119990).Hears ⟨4, 119990, true, pollBytes 4 (rack.bay 4).drive⟩ (bytesOf cool) cool ∧
    (polling 4 119990).Hears ⟨4, 119990, true, pollBytes 4 (rack.bay 4).drive⟩ (bytesOf warm) warm ∧
    (polling 4 119990).BaysOk ∧ (rack.bay 4).reconcile = .no ∧ cool.present = true ∧ rack.Calm 4 warm ∧
    rack.classAt 4 = some plainClass ∧ plainClass.Bears warm ∧ cool.tm ≤ plainClass.startLimit - 3 ∧
    plainClass.startLimit - 3 < warm.tm ∧ (rack.profile 2).valid = true ∧ (rack.bay 4).state = .cooling := by
  decide +kernel
theorem witness_ReportsAssess :
    (polling 8 119990).Hears ⟨8, 119990, true, pollBytes 8 (rack.bay 8).drive⟩ (bytesOf (seen 8 108)) (seen 8 108) ∧
    (later 8).Hears ⟨8, 1800000, true, pollBytes 8 (rack.bay 8).drive⟩ (bytesOf (seen 8 108)) (seen 8 108) ∧
    (later 8).BaysOk ∧ (rack.bay 8).reconcile = .no ∧ rack.Calm 8 (seen 8 108) ∧ rack.classAt 8 = some plainClass ∧
    plainClass.Bears (seen 8 108) ∧ (rack.bay 8).state = .assess ∧ (rack.bay 8).dockTime = some 0 ∧
    rack.now < 0 + plainClass.restTime * 60000 ∧ 0 + plainClass.restTime * 60000 ≤ (later 8).now ∧
    rack.pack 108 = some (rackPack 108 (.bay 8) false none 0) := by decide +kernel
theorem witness_ClearFaultLeavesFault : rack.accepts ∧ (rack.bay 5).state = .fault ∧ rack.faultRec 5 = some rackFault ∧
    rack.faultPresent 5 rackFault = false ∧
    (rack.modBay 5 fun y => { y with latest := some ⟨{ seen 5 105 with alarm := true }, 119000⟩ }).faultPresent 5 rackFault =
      true := by decide
-- The level-type kinds: each one shown, and a held record's alone where the kind asks for it (Table 7-3).
theorem witness_FaultKinds :
    let hot : Report := { seen 5 105 with tm := 60, latchEngaged := false }
    let s := (rack.modBay 5 fun y => { y with latest := some ⟨hot, 119000⟩ }).modLine 5 fun l => { l with misses := 3 }
    let held := fun k => ({ rackFault with first := k, held := true, cls := some 2 } : FaultRec)
    (∀ k ∈ ([.overtemp, .interlock] : List FaultKind), s.faultPresent 5 (held k) = true ∧
      s.faultPresent 5 { held k with held := false } = false ∧ rack.faultPresent 5 (held k) = false) ∧
    s.faultPresent 5 { rackFault with first := .stageLost } = true ∧
    s.faultPresent 5 (held .overvolt) = false := by decide
theorem witness_SelectionFollowsBandAndRotation : rack.register.Agrees ∧ rack.classRec 2 = some plainClass ∧
    plainClass.twin = false ∧ twinRack.register.Agrees ∧ (twinRack.classRec 4).isSome = true ∧ twinRack.selection 4 ≠ [] := by
  decide
theorem witness_IssueClassReleasesItsPacks : rack.accepts ∧ rack.BaysOk ∧ rack.register.Agrees ∧ rack.hasIssue 999 = false ∧
    rack.disp.issues.length < 8 ∧ rack.selection 2 ≠ [] := by decide
theorem witness_IssueBayReleasesItsBays : rack.accepts ∧ rack.BaysOk ∧ rack.register.Agrees ∧ rack.hasIssue 1 = false ∧
    rack.disp.issues.length < 8 ∧ (some (2 : BayNo) ≠ some 9) ∧ rack.issuable 9 = true ∧ rack.issuable 2 = true ∧
    rack.quarantinedAt 9 = false ∧ rack.quarantinedAt 2 = false := by decide
theorem witness_IssueClassRefusals : rack.accepts ∧ ¬ (1 ≤ 0 ∧ 0 ≤ 999 ∧ 2 ≤ 7) ∧ (1 ≤ 12 ∧ 12 ≤ 999 ∧ 7 ≤ 7) ∧
    (∃ i ∈ rack.disp.issues, i.machine = 12) ∧ (∀ i ∈ rack.disp.issues, i.machine ≠ 999) ∧ rack.disp.issues.length < 8 ∧
    (∀ c : ClassNo, c.val = 7 → rack.classRec c = none ∨ rack.selection c = []) ∧
    8 ≤ ({ rack with disp := { rack.disp with issues := (List.range 8).map fun m => ⟨m + 1, none, [], 0, 0⟩ } } :
      State).disp.issues.length := by decide
theorem witness_ConfirmSendsPacksToTheirMachine : rack.accepts ∧ rack.ListsOk ∧
    rack.disp.issues.find? (fun x => !x.parts.any Part.isOpen) = rack.issueOf 13 ∧
    (⟨13, some 2, [⟨some 130, .taken⟩], 0, 120000⟩ : Issue) ∈ rack.disp.issues := by decide
theorem witness_ReserveInsertsByDueMinute : rack.accepts ∧ (rack.classRec 3).isSome = true ∧ 1 ≤ 8 ∧ 8 ≤ 8 ∧ 1 ≤ 1440 ∧
    rack.disp.reservations.length < 16 ∧ rack.disp.reservations.Pairwise (fun v w => v.due ≤ w.due) := by decide
theorem witness_DropReservationsRemovesAClass : rack.accepts ∧ 7 < 8 ∧ (7 : ClassNo).val = 7 ∧ rack.ShortagesOk := by decide
theorem witness_RegisterAndRemovePack : rack.accepts ∧ rack.register.Agrees ∧ (rack.classRec 2).isSome = true ∧
    rack.pack 65534 = none ∧ rack.tagSeen 65534 = false ∧ rack.register.packs.length < 96 ∧
    (rack.pack 121).map (fun r => (r.place.isBay, r.mark)) = some (false, none) := by decide
theorem witness_AssignAndReleasePack : rack.accepts ∧ ¬ (1 ≤ 0 ∧ 0 ≤ 65534 ∧ 1 ≤ 1 ∧ 1 ≤ 999) ∧ rack.pack 65534 = none ∧
    (rack.pack 120).map (·.place) = some (.machine 7) ∧ (rack.pack 121).map (·.place) = some .unaccounted ∧
    (rack.pack 122).map (·.standing) = some (.quarantined .overtemp) ∧ rack.readyPlace (.machine 9) = false ∧
    rack.ReadyHanded ∧ rack.register.Agrees := by decide
theorem witness_ReadsAnswerAndChangeNothing : rack.accepts ∧ (rack.pack 100).isSome = true ∧ 22 + 2 ≤ 24 := by decide
/-- The sample rack with an anonymous pack of 260,400 mAh in bay 9, under the class of the worked example of chapter 4. -/
def unnamed : State :=
  let s := rack.modBay 9 fun y => { y with identity := .anonymous 2 260400 true }
  { s with register := { s.register with classes := s.register.classes.set 2 (some caseClass) } }

theorem witness_ReadsAnonymousCharge : unnamed.accepts ∧ (unnamed.bay 9).identity = .anonymous 2 260400 true ∧
    (unnamed.bay 9).cfg.defaultClass = 2 ∧ 260400 < 4294967296 := by decide
-- R82 and the worked example of chapter 4: 260,400 mAh of 620,000 are seen as 42 %.
theorem test_readBay_soc : ((answer (.readBay 9) unnamed).bind fun a => unnamed.seenSoc a.2) = some 42 := by decide
theorem witness_ClearDropsTheOperation : rack.accepts ∧ rack.BaysOk := by decide
theorem witness_RoundsAndPolls : rack.running = true ∧ rack.scanner.walk = none ∧
    rack.scanner.roundStart + rack.scanner.scanInterval ≤ rack.now ∧ rack.scanner.overrun = false ∧
    (∃ x, (rack.bay x).state ≠ .masked) ∧ rack.scanner.slot = none ∧
    ({ rack with scanner := { rack.scanner with prompt := [6, 0] } } : State).scanner.prompt.head? = some 6 ∧
    rack.scanner.prompt = [] ∧ (rack.bay 7).state ≠ .masked ∧
    (∀ x : BayNo, 6 ≤ x.val → x < 7 → (rack.bay x).state = .masked) := by decide
theorem witness_GoodReportIsCredited : (polling 9 119970).running = true ∧ 11 ≤ (reportBytes 9 3700 0 25 109).length ∧
    (polling 9 119970).now ≤ 119970 + 30 ∧ (judgeReport 9 ((reportBytes 9 3700 0 25 109).take 11)).isSome = true ∧
    (rack.bay 9).state ≠ .masked ∧ (rack.bay 6).state = .masked ∧
    (judgeReport 6 ((reportBytes 6 0 0 25 0).take 11)).isSome = true := by decide

/-- A report of bay `b` that shows no pack. -/
def gone (b : Nat) : Report := ⟨b, 0, 0, 25, false, false, false, 0, 0⟩

/-- The slot of bay `b` on the sample rack. -/
def slotOf (b : BayNo) : Slot := ⟨b, 119990, true, pollBytes b (rack.bay b).drive⟩

/-- The sample rack with bay 10 under MANUAL, bay 9 in IDENTIFY and a held record in bay 5. -/
def leaving (b : BayNo) : State :=
  let s := polling b 119990
  let s := s.modBay 10 fun y => { y with cfg := { y.cfg with manual := true } }
  let s := s.modBay 9 fun y => { y with state := .identify, identity := .empty }
  s.setFault 5 (some { rackFault with held := true, cls := some 2, pack := .registered 121 })

theorem witness_PackLeaves : ∀ b ∈ ([0, 2, 3, 4, 5, 7, 8, 9, 10] : List BayNo),
    (leaving b).Hears (slotOf b) (bytesOf (gone b)) (gone b) ∧ (leaving b).BaysOk ∧ (leaving b).register.Agrees ∧
    ((leaving b).bay b).reconcile = .no ∧ (gone b).present = false := by decide +kernel
-- The states of those bays, among them RELEASE under AUTO and MANUAL, and a held record and one that is not.
theorem witness_PackLeaves_states :
    (((leaving 9).bay 9).state = .identify ∧ ((leaving 4).bay 4).state = .cooling ∧ ((leaving 3).bay 3).state = .standby ∧
      ((leaving 0).bay 0).inSession = true ∧ ((leaving 3).bay 3).identity = .registered 103) ∧
    (((leaving 7).bay 7).state = .release ∧ ((leaving 7).bay 7).cfg.manual = false ∧
      ((leaving 7).disp.issues.find? (fun i => i.parts.any (Part.openIn 7))).map (fun i =>
        i.parts.filter (Part.openIn 7)) = some [⟨some 107, .openAt 7⟩]) ∧
    (((leaving 10).bay 10).state = .release ∧ ((leaving 10).bay 10).cfg.manual = true ∧
      ((leaving 10).disp.issues.find? (fun i => i.parts.any (Part.openIn 10))).map (fun i =>
        i.parts.filter (Part.openIn 10)) = some [⟨some 110, .openAt 10⟩]) ∧
    ((leaving 5).bay 5).state = .fault ∧ ((leaving 5).faultRec 5).map (·.held) = some true ∧
    (rack.faultRec 5).map (·.held) = some false := by decide +kernel

/-- The sample rack with a reconciliation pending in bay 9, which is VACANT there, and in bay 5. -/
def pendingRec (b : BayNo) (c : Reconcile) : State :=
  let s := polling b 119990
  let s := s.modBay 9 fun y => { y with state := .vacant, identity := .empty, reconcile := c }
  s.modBay 5 fun y => { y with reconcile := c }

theorem witness_ReportReconciles : ∀ b ∈ ([5, 9] : List BayNo), ∀ c ∈ ([.restore, .unmask] : List Reconcile),
    (pendingRec b c).Hears (slotOf b) (bytesOf (seen b 103)) (seen b 103) ∧ (pendingRec b c).register.Agrees ∧
    ((pendingRec b c).bay b).reconcile ≠ .no ∧ ((pendingRec b c).faultRec 5).bind (·.quarantineTag) = none ∧
    (((pendingRec b c).bay b).state = .vacant ∨ ((pendingRec b c).bay b).state = .fault) ∧
    (pendingRec b c).pack 109 = some (rackPack 109 (.bay 9) false none 0) := by decide +kernel
theorem witness_MissesAreCounted : (polling 9 119970).running = true ∧ 119970 + 30 ≤ (polling 9 119970).now ∧
    (rack.bay 6).state = .masked ∧ (rack.bay 9).state ≠ .masked ∧ (rack.line 9).misses ≠ 2 ∧
    (((polling 9 119970).modLine 9 fun l => { l with misses := 2 }).line 9).misses = 2 ∧
    ((polling 9 119970).modLine 9 fun l => { l with misses := 2 }).BaysOk ∧
    ((polling 9 119970).modLine 9 fun l => { l with misses := 2 }).DrivesOk := by decide

theorem witness_BadReportsMiss : (polling 9 119970).running = true ∧ 11 ≤ (bytesOf (seen 8 108)).length ∧
    (polling 9 119970).now ≤ 119970 + 30 ∧ (judgeReport 9 ((bytesOf (seen 8 108)).take 11)).isNone = true ∧
    ((bytesOf (seen 9 109)).take 10).length < 11 ∧ 119969 + 30 < (polling 9 119969).now := by decide

/-- The report that docks tag `t` in bay 11. -/
def dockReport (t : Nat) : Report := ⟨11, 3700, 0, 25, true, true, false, t, 2⟩

theorem witness_DockingIdentifiesThePack : (polling 11 119990).running = true ∧ (polling 11 119990).BaysOk ∧
    (polling 11 119990).RegisterOk ∧ judgeReport 11 ((reportBytes 11 3700 0 25 200).take 11) = some (dockReport 200) ∧
    judgeReport 11 ((reportBytes 11 3700 0 25 120).take 11) = some (dockReport 120) ∧ (rack.bay 11).state = .vacant ∧
    (rack.bay 11).reconcile = .no ∧ rack.classRec 2 = some plainClass ∧ (dockReport 200).tm < plainClass.abortLimit ∧
    (dockReport 200).tm ≤ plainClass.startLimit ∧ 3700 * 10 ≤ (plainClass.maxCell + 50) * plainClass.cells ∧
    (rack.profile 2).valid = true ∧ rack.pack 200 = none ∧ rack.register.packs.length < 96 ∧
    rack.pack 120 = some (rackPack 120 (.machine 7) true none 5000) := by decide
-- The next state of the statement is met at both tags.
theorem witness_docks : ((after (.reportReceived (reportBytes 11 3700 0 25 200)) (polling 11 119990)).bay 11).state = .assess ∧
    ((after (.reportReceived (reportBytes 11 3700 0 25 120)) (polling 11 119990)).pack 120).map (·.returns) = some 1 := by
  decide +kernel
/-- What bay 11 hears of a pack: its state with the slot, the bytes and the report. -/
abbrev Meets (s : State) (rep : Report) : Prop := s.Identifies (slotOf 11) (bytesOf rep) rep

/-- The sample rack with a full register. -/
def crowded : State :=
  let s := polling 11 119990
  { s with register := { s.register with packs := (List.range 96).map fun t => rackPack (t + 1) .unaccounted true none 0 } }

/-- The sample rack with bay 11 in IDENTIFY after two unreadable tags, under default class `d`. -/
def retried (d : ClassNo) : State := (polling 11 119990).modBay 11 fun y =>
  { y with state := .identify, attempts := 2, cfg := { y.cfg with defaultClass := d } }

theorem witness_VerdictOtherClass : Meets (polling 11 119990) { dockReport 120 with classCode := 3 } ∧
    rack.pack 120 = some (rackPack 120 (.machine 7) true none 5000) := by decide +kernel
theorem witness_VerdictUndefinedClass : Meets (polling 11 119990) { dockReport 200 with classCode := 5 } ∧
    rack.pack 200 = none ∧ ∀ c : ClassNo, c.val = 5 → rack.classRec c = none := by decide +kernel
-- Bay 3 shows the tag it runs.
theorem witness_VerdictDuplicate : Meets (polling 11 119990) (dockReport 103) ∧
    rack.pack 103 = some (rackPack 103 (.bay 3) true none 480000) ∧ (rack.bay 3).state ≠ .masked ∧
    (rack.bay 3).showsTag 103 = true ∧ plainClass.Bears (dockReport 103) := by decide +kernel
-- A TAKEN pack, and a QUARANTINED one.
theorem witness_VerdictAccepted : Meets (polling 11 119990) (dockReport 130) ∧ Meets (polling 11 119990) (dockReport 122) ∧
    (rack.pack 130).map (fun r => (r.mark, rack.duplicateIn 11 r)) = some (some 13, false) ∧
    (rack.pack 122).map (fun r => (r.standing, rack.duplicateIn 11 r)) = some (.quarantined .overtemp, false) := by
  decide +kernel
/-- The sample rack with bay 7, in RELEASE for machine 12, last showing another tag than its own. -/
def strayed : State := (polling 11 119990).modBay 7 fun y => { y with latest := some ⟨seen 7 121, 119000⟩ }

-- The pack of an OPEN part.
theorem witness_VerdictAccepted_open : Meets strayed (dockReport 107) ∧
    (strayed.pack 107).map (fun r => (r.place, r.mark, r.standing, strayed.duplicateIn 11 r)) =
      some (.bay 7, some 12, .serviceable, false) ∧
    (strayed.issueOf 12).map (·.parts) = some [⟨some 107, .openAt 7⟩] := by decide +kernel
-- R14, steps 1 to 3: the part leaves, the completed entry with it, and bay 7 stays in RELEASE.
theorem test_dock_open : (strayed.identify 11 (dockReport 107)).issueOf 12 = none ∧
    ((strayed.identify 11 (dockReport 107)).pack 107).map (fun r => (r.place, r.mark, r.known, r.returns)) =
      some (.bay 11, none, false, 0) ∧
    ((strayed.identify 11 (dockReport 107)).bay 7).state = .release := by decide +kernel
-- R46: a removal from a RELEASE bay that no part names (log entry 23).
theorem test_release_without_part :
    let s := rack.setIssues []
    ((s.releaseRemoval 7).bay 7).state = .vacant ∧ (s.releaseRemoval 7).pack 107 = s.pack 107 := by decide +kernel
theorem witness_VerdictHot : Meets (polling 11 119990) { dockReport 120 with tm := 46 } ∧ plainClass.startLimit < 46 ∧
    plainClass.Bears { dockReport 120 with tm := 46 } ∧
    (rack.pack 120).map (fun r => (r.standing, rack.duplicateIn 11 r)) = some (.serviceable, false) := by decide +kernel
theorem witness_VerdictFullRegister : Meets crowded (dockReport 200) ∧ crowded.pack 200 = none ∧
    crowded.classRec 2 = some plainClass ∧ 96 ≤ crowded.register.packs.length ∧
    (crowded.bay 11).cfg.defaultClass = 2 ∧ plainClass.Bears (dockReport 200) ∧ (crowded.profile 2).valid = true := by
  decide +kernel
theorem witness_VerdictUnreadable : Meets (polling 11 119990) (dockReport 0) ∧ Meets (retried 2) (dockReport 0) ∧
    ((retried 2).bay 11).attempts = 2 ∧ (retried 2).classRec 2 = some plainClass ∧ plainClass.Bears (dockReport 0) := by
  decide +kernel
theorem witness_VerdictNoDefault : Meets (retried 5) (dockReport 65535) ∧ ((retried 5).bay 11).attempts = 2 ∧
    ((retried 5).bay 11).cfg.defaultClass = 5 ∧ (retried 5).classRec 5 = none := by decide +kernel
theorem witness_OvertempLatchesAndQuarantines : (polling 0 119990).running = true ∧ (polling 0 119990).BaysOk ∧
    (judgeReport 0 ((reportBytes 0 3700 0 60 100).take 11)).map (fun r => (r.present, r.tm)) = some (true, 60) ∧
    (rack.bay 0).inSession = true ∧ (rack.bay 0).reconcile = .no ∧ (rack.bay 0).identity = .registered 100 ∧
    rack.pack 100 = some (rackPack 100 (.bay 0) true none 100000) ∧ rack.classRec 2 = some plainClass ∧
    plainClass.abortLimit = 60 := by decide
-- A report of bay 5 in FAULT, under a held record of a registered pack and one that is neither.
theorem witness_FaultBayHears :
    let hot : Report := { seen 5 121 with tm := 60, alarm := true }
    (leaving 5).Hears (slotOf 5) (bytesOf hot) hot ∧ (polling 5 119990).Hears (slotOf 5) (bytesOf hot) hot ∧
    (rack.bay 5).state = .fault ∧ (rack.bay 5).reconcile = .no ∧ hot.present = true ∧
    rack.faultRec 5 = some rackFault ∧ ((leaving 5).faultRec 5).map (·.pack) = some (.registered 121) ∧
    (leaving 5).pack 121 = some (rackPack 121 .unaccounted true none 5000) := by decide +kernel
theorem witness_EvaluationWithoutExit : (rack.bay 0).session = some atBulk ∧ rack.stageOf atBulk = some (0, bulk) ∧
    rack.classAt 0 = some plainClass ∧
    rack.limitReached 0 (rack.evaluated atBulk bulk (seen 0 100) 119000 true) = false ∧
    bulk.exitTaken (rack.evaluationFlags 0 (rack.evaluated atBulk bulk (seen 0 100) 119000 true) bulk plainClass
      (seen 0 100)) = none ∧
    rack.stageOf atPause = some (1, pause) ∧
    pause.exitTaken (rack.evaluationFlags 2 (rack.evaluated atPause pause (seen 2 102) 119000 true) pause plainClass
      (seen 2 102)) = none := by decide
-- A report of a bay in CHARGE and of one in MAINTAIN that the event evaluates.
theorem witness_ReportsAreEvaluated : ∀ x ∈ ([(0, 100), (2, 102)] : List (BayNo × Nat)),
    (polling x.1 119990).Hears (slotOf x.1) (bytesOf (seen x.1.val x.2)) (seen x.1.val x.2) ∧ (polling x.1 119990).BaysOk ∧
    ((rack.bay x.1).state = .charge ∨ (rack.bay x.1).state = .maintain) ∧ (rack.bay x.1).reconcile = .no ∧
    (seen x.1.val x.2).present = true ∧ (polling x.1 119990).Calm x.1 (seen x.1.val x.2) ∧
    (polling x.1 119990).classAt x.1 = some plainClass ∧ plainClass.Bears (seen x.1.val x.2) := by decide +kernel
-- The target of 44.10 V is reached, and exit VT SET is taken.
theorem witness_ExitIsTaken :
    let full : Report := { seen 0 100 with vm := 4410 }
    rack.limitReached 0 (rack.evaluated atBulk bulk full 119000 true) = false ∧
    bulk.exitTaken (rack.evaluationFlags 0 (rack.evaluated atBulk bulk full 119000 true) bulk plainClass full) =
      some ⟨.flag .vt, true, .goto 1⟩ := by decide
-- The request of bay 1 rises from 0 without an exit.
theorem witness_RequestRises :
    let s := rack.releaseRequest 1
    let se := s.evaluated atBulk bulk (seen 1 101) 119000 true
    (s.bay 1).session = some atBulk ∧ s.limitReached 1 se = false ∧ (s.grant 1).request = 0 ∧
    bulk.exitTaken (s.evaluationFlags 1 se bulk plainClass (seen 1 101)) = none ∧
    ((s.evaluate 1 (seen 1 101) 119000 true).grant 1).request ≠ 0 := by decide +kernel
-- A session at its limit of 720 minutes.
theorem witness_SessionLimit :
    let long : Session := { atBulk with sessionServed := 720 * 60000 }
    let s := rack.modBay 0 fun y => { y with session := some long }
    (s.bay 0).session = some long ∧ s.stageOf long = some (0, bulk) ∧ s.classAt 0 = some plainClass ∧
    s.limitReached 0 (s.evaluated long bulk (seen 0 100) 119000 true) = true := by decide
theorem witness_ExitActionsInMaintain : (rack.bay 2).state = .maintain ∧ (rack.bay 2).session = some atPause ∧
    atPause.frames = [] ∧ rack.maintainStage 2 = some 1 ∧ (0 : StageNo) ≠ 1 := by decide
theorem witness_EqualizeMark : (rack.bay 0).state = .charge ∧ (rack.bay 0).session = some atBulk ∧
    (rack.bay 0).identity = .registered 100 ∧ rack.pack 100 = some (rackPack 100 (.bay 0) true none 100000) ∧
    ({ bulk with equalizeMark := true } : Stage).equalizeMark = true ∧ bulk.equalizeMark = false ∧
    (Action.goto 1 ≠ .ret ∧ atBulk.frames.length < 2) := by decide
theorem witness_ExitActionsMoveTheSession : (rack.bay 0).state = .charge ∧ (rack.bay 0).session = some atBulk ∧
    atBulk.frames = [] ∧ rack.maintainStage 0 = some 1 ∧ misread.maintainStage 0 = none ∧
    ((rack.modSession 0 fun se => { se with frames := [⟨1, none⟩, ⟨1, some ⟨5, none, 6, 7⟩⟩] }).bay 0).session.map
      (·.frames.length) = some 2 := by decide
theorem witness_ChargeAccountsAndEstimates : 500000 ≤ 500 * 1000 ∧ 1 ≤ plainClass.capacity ∧
    (1950 < 2000 ∧ 2000 < 2050 ∧ 2050 < 2100 ∧ 2100 < 2130) := by decide
theorem witness_SetpointArithmeticStaysInBounds : plainClass.minCell < plainClass.maxCell ∧
    ((2390 : Nat) : Int) = 2450 + Int.tdiv (-40 * (min 50 (max 0 40) - 25)) 10 ∧ unitsOf 43380 600 ≤ 27 := by decide
theorem witness_OnlySettingsChangeConfiguration : ∃ t, exec .readIssues rack = .next t ∧ rack.running = true ∧
    powerRow .readIssues = false := ⟨_, rfl, by decide, by decide⟩
theorem witness_StepKeepsInvariants : ∃ t, step rack = .next t ∧ rack.GrantTableOk ∧ rack.RegisterOk ∧ rack.DrivesOk ∧
    rack.BaysOk ∧ rack.ListsOk ∧ rack.ShortagesOk :=
  ⟨_, rfl, test_rack_grants, test_rack_register, test_rack_drives, test_rack_bays, test_rack_lists, test_rack_shortages⟩

/-- The sample rack with bays 0 and 1 at level 3, as the shortage of class 2 asks. -/
def levelled : State :=
  { rack with alloc := { rack.alloc with
      queues := #v[[], [2], [], [0, 1]]
      grants := Vector.ofFn fun b =>
        { rackGrant b.val with level := if b.val < 2 then 3 else (rack.bay b).cfg.baseLevel } } }

/-- The sample rack with its pack records in the store, and one more write on its way. -/
def stored : State :=
  { rack with store := { rack.store with packs := rackPacks }, inFlight := [.charge 100 100001] }

theorem witness_StepKeepsLevels : ∃ t, step levelled = .next t ∧ levelled.BaysOk ∧ levelled.IdentitiesPlaced ∧
    levelled.LevelsOk := ⟨_, rfl, by decide +kernel⟩
theorem witness_StepKeepsFloors : ∃ t, step rack = .next t ∧ rack.GrantTableOk ∧ rack.BaysOk ∧ rack.IdentitiesPlaced ∧
    rack.FloorsOk := ⟨_, rfl, by decide +kernel⟩
-- Bay 1 leaves level 0 for the tail of level 3, bay 8 with its first request joins the tail, and bay 0 leaves with its own.
theorem witness_QueuesKeepTheirOrder : rack.QueuesAgree ∧ (rack.grant 1).level = 0 ∧ rack.levelOf 1 = 3 ∧
    (rack.grant 1).request ≠ 0 ∧ rack.levelOf 9 = (rack.grant 9).level ∧ (rack.grant 8).request = 0 ∧
    (rack.relevel 1).alloc.queues = #v[[0], [2], [], [1]] ∧
    (rack.handRequest 8 6).alloc.queues = #v[[0, 1, 8], [2], [], []] ∧
    (rack.handRequest 0 0).alloc.queues = #v[[1], [2], [], []] := by decide +kernel

/-- The sample rack with every bay on the prompt list. -/
def prompted : State := { rack with scanner := { rack.scanner with prompt := allBays } }

theorem witness_StepKeepsLowers : (∃ t, step prompted = .next t ∧ prompted.LowersListed) ∧
    (prompted.line 7).sent.drive.latchOpen = true ∧ (prompted.bay 9).drive.latchOpen = false ∧
    State.reset.LowersListed := ⟨⟨_, rfl, by decide⟩, by decide⟩
theorem witness_StepKeepsRecords : ∃ t, step stored = .next t ∧ stored.RegisterOk ∧ stored.RecordsFit :=
  ⟨_, rfl, by decide +kernel⟩
theorem witness_StepHandsReady : ∃ t, step rack = .next t ∧ rack.register.Agrees ∧ rack.TakenNotReady ∧ rack.ReadyHanded :=
  ⟨_, rfl, by decide +kernel⟩
-- Class 2 becomes short in the step that takes its second ready pack.
theorem witness_StepMakesShort :
    let calm : State := { rack with
      pending := [.issueClass 20 2]
      disp := { rack.disp with reservations := [], short := Vector.replicate 8 false } }
    (match step calm with
      | .next t => decide (calm.disp.short[(2 : ClassNo)] = false ∧ t.disp.short[(2 : ClassNo)] = true)
      | _ => false) = true := by decide +kernel

end Sys2Proof.Tests
end

section
/-! SUPPORT. Lists of pack records by their tags: what putting a record in, dropping one and the completed writes do to
the
tags, and when pack records and rotation lists agree (R5, R10, R21). -/

namespace Sys2Proof.Machine

/-! ## Tags of a list of records -/

/-- A list of records stands in strictly rising tags exactly where its tags are pairwise rising. -/
theorem packsSorted_iff (ps : List PackRec) : packsSorted ps = true ↔ (ps.map (·.tag)).Pairwise (· < ·) := by
  induction ps with
  | nil => simp [packsSorted]
  | cons p qs ih =>
    cases qs with
    | nil => simp [packsSorted]
    | cons q ps =>
      have step : packsSorted (p :: q :: ps) = true ↔ p.tag < q.tag ∧ packsSorted (q :: ps) = true := by
        simp [packsSorted]
      rw [step, ih]
      change _ ↔ List.Pairwise _ (p.tag :: (q :: ps).map (·.tag))
      rw [List.pairwise_cons]
      refine and_congr_left fun hs => ⟨fun hpq t ht => ?_, fun hall => hall _ (List.mem_cons_self ..)⟩
      rcases List.mem_cons.1 ht with rfl | ht
      · exact hpq
      · exact hpq.trans ((List.pairwise_cons.1 hs).1 t ht)

/-- A sorted list's first tag is below all the others. -/
theorem packsSorted_cons (p : PackRec) (ps : List PackRec) :
    packsSorted (p :: ps) = true ↔ (∀ x ∈ ps, p.tag < x.tag) ∧ packsSorted ps = true := by
  simp [packsSorted_iff]

/-- In a sorted list the record found under a tag is the only one of that tag. -/
theorem findPack_of_mem {ps : List PackRec} (hs : packsSorted ps = true) {r : PackRec} (hr : r ∈ ps) :
    findPack ps r.tag = some r := by
  induction ps with
  | nil => cases hr
  | cons p ps ih =>
    obtain ⟨hp, hs⟩ := (packsSorted_cons _ _).1 hs
    rcases List.mem_cons.1 hr with rfl | hr
    · simp [findPack]
    · simpa [findPack, (hp _ hr).ne] using ih hs hr

theorem mem_of_findPack {ps : List PackRec} {t : Nat} {r : PackRec} (h : findPack ps t = some r) :
    r ∈ ps ∧ r.tag = t := by
  have ht := List.find?_some h
  exact ⟨List.mem_of_find?_eq_some h, by simpa using ht⟩

/-- There is no record under a tag exactly where the tag is none of the list's. -/
theorem findPack_eq_none_iff (ps : List PackRec) (t : Nat) : findPack ps t = none ↔ t ∉ ps.map (·.tag) := by
  simp [findPack, List.find?_eq_none]

/-! ## Putting a record in -/

/-- The tags after a record is put in follow from the tags before and the record's own. -/
theorem putPack_tags_congr {r r' : PackRec} (hr : r.tag = r'.tag) {ps qs : List PackRec}
    (h : ps.map (·.tag) = qs.map (·.tag)) : (putPack r ps).map (·.tag) = (putPack r' qs).map (·.tag) := by
  induction ps generalizing qs with
  | nil =>
    obtain rfl : qs = [] := by simpa using h.symm
    simp [putPack, hr]
  | cons p ps ih =>
    cases qs with
    | nil => simp at h
    | cons q qs =>
      simp only [List.map_cons, List.cons.injEq] at h
      obtain ⟨hpq, htl⟩ := h
      simp only [putPack, hr, hpq]
      split
      · simp [hr, hpq, htl]
      · split
        · simp [hr, htl]
        · simp [hpq, ih htl]

/-- The records after one is put in: itself, and those of the other tags. -/
theorem mem_putPack {r : PackRec} {ps : List PackRec} (hs : packsSorted ps = true) (x : PackRec) :
    x ∈ putPack r ps ↔ x = r ∨ (x ∈ ps ∧ x.tag ≠ r.tag) := by
  induction ps with
  | nil => simp [putPack]
  | cons p ps ih =>
    obtain ⟨later, hs⟩ := (packsSorted_cons _ _).1 hs
    unfold putPack
    split
    · next hlt =>
      have : x ∈ p :: ps → x.tag ≠ r.tag := fun hx => by
        rcases List.mem_cons.1 hx with rfl | hx
        · omega
        · have := later x hx; omega
      rw [List.mem_cons]
      tauto
    · split
      · next heq =>
        have : x ∈ ps → x.tag ≠ r.tag := fun hx => by have := later x hx; omega
        have hx : x = p → ¬ x.tag ≠ r.tag := by rintro rfl; simp [heq]
        simp only [List.mem_cons]
        tauto
      · next hlt hne =>
        have hx : x = p → x.tag ≠ r.tag := by rintro rfl h; exact hne h.symm
        rw [List.mem_cons, ih hs, List.mem_cons]
        tauto

/-- Putting a record in keeps strictly rising tags. -/
theorem packsSorted_putPack (r : PackRec) {ps : List PackRec} (hs : packsSorted ps = true) :
    packsSorted (putPack r ps) = true := by
  induction ps with
  | nil => rfl
  | cons p ps ih =>
    obtain ⟨hp, htl⟩ := (packsSorted_cons _ _).1 hs
    unfold putPack
    split
    · next hlt =>
      rw [packsSorted_cons]
      refine ⟨fun x hx => ?_, hs⟩
      rcases List.mem_cons.1 hx with rfl | hx
      · exact hlt
      · exact hlt.trans (hp x hx)
    · split
      · next heq => exact (packsSorted_cons _ _).2 ⟨fun x hx => heq ▸ hp x hx, htl⟩
      · next hlt hne =>
        refine (packsSorted_cons _ _).2 ⟨fun x hx => ?_, ih htl⟩
        rcases (mem_putPack htl x).1 hx with rfl | ⟨hx, -⟩
        · omega
        · exact hp x hx

/-- Putting in a record whose tag the list holds leaves its tags. -/
theorem putPack_tags_of_mem {r : PackRec} {ps : List PackRec} (hs : packsSorted ps = true)
    (h : r.tag ∈ ps.map (·.tag)) : (putPack r ps).map (·.tag) = ps.map (·.tag) := by
  induction ps with
  | nil => simp at h
  | cons p ps ih =>
    obtain ⟨hp, hs⟩ := (packsSorted_cons _ _).1 hs
    have hle : p.tag ≤ r.tag := by
      rcases List.mem_cons.1 h with h | h
      · exact h.ge
      · obtain ⟨x, hx, hxr⟩ := List.mem_map.1 h
        exact hxr ▸ (hp x hx).le
    unfold putPack
    split
    · omega
    · split
      · next heq => simp [heq]
      · next hne =>
        have hmem : r.tag ∈ ps.map (·.tag) := (List.mem_cons.1 h).resolve_left hne
        rw [List.map_cons, ih hs hmem, List.map_cons]

/-- A record of a new tag makes the list one longer. -/
theorem length_putPack_le (r : PackRec) (ps : List PackRec) : (putPack r ps).length ≤ ps.length + 1 := by
  induction ps with
  | nil => simp [putPack]
  | cons p ps ih =>
    unfold putPack
    split
    · simp
    · split
      · simp
      · simpa using ih

/-- A record of a new tag changes no count of records that it is not counted in. -/
theorem filter_putPack_of_none {r : PackRec} {ps : List PackRec} {q : PackRec → Bool} (hq : q r = false)
    (h : findPack ps r.tag = none) : ((putPack r ps).filter q) = ps.filter q := by
  induction ps with
  | nil => simp [putPack, hq]
  | cons p ps ih =>
    rw [findPack_eq_none_iff, List.map_cons, List.mem_cons, not_or] at h
    obtain ⟨hne, h⟩ := h
    unfold putPack
    rw [if_neg (show ¬ r.tag = p.tag from hne)]
    split
    · simp [hq]
    · simp [List.filter_cons, ih ((findPack_eq_none_iff _ _).2 h)]

theorem dropPack_tags (t : Nat) (ps : List PackRec) :
    (dropPack t ps).map (·.tag) = (ps.map (·.tag)).filter fun x => decide (x ≠ t) := by
  simp [dropPack, List.filter_map, Function.comp_def]

theorem packsSorted_dropPack (t : Nat) {ps : List PackRec} (hs : packsSorted ps = true) :
    packsSorted (dropPack t ps) = true := by
  rw [packsSorted_iff, dropPack_tags] at *
  exact hs.filter _

theorem putCharge_tags (ps : List PackRec) (t q : Nat) : (putCharge ps t q).map (·.tag) = ps.map (·.tag) := by
  simp only [putCharge, List.map_map]
  refine List.map_congr_left fun r _ => ?_
  simp only [Function.comp_apply]
  split <;> rfl

/-! ## Agreement of records and rotation lists -/

/-- The tag and the class of a record: what its rotation list follows. -/
def PackRec.key (r : PackRec) : Nat × ClassNo := (r.tag, r.cls)

/-- Records and rotation lists agree where the tags rise and each list holds, once each, the tags of its class. -/
theorem Register.agrees_iff (g : Register) : g.Agrees ↔ (g.packs.map (·.tag)).Pairwise (· < ·) ∧
    ∀ c : ClassNo, (g.rotation[c]).Nodup ∧ ∀ t, t ∈ g.rotation[c] ↔ (t, c) ∈ g.packs.map PackRec.key := by
  have key : ∀ (t : Nat) (c : ClassNo), (t, c) ∈ g.packs.map PackRec.key ↔ ∃ r ∈ g.packs, r.tag = t ∧ r.cls = c := by
    simp [PackRec.key]
  simp only [Register.Agrees, packsSorted_iff, key]
  refine and_congr_right fun _ => forall_congr' fun c => and_congr_right fun _ => ?_
  constructor
  · rintro ⟨hin, hout⟩ t
    exact ⟨hin t, fun ⟨r, hr, ht, hc⟩ => ht ▸ hout r hr hc⟩
  · intro h
    exact ⟨fun t => (h t).1, fun r hr hc => (h r.tag).2 ⟨r, hr, rfl, hc⟩⟩

theorem tags_of_keys {ps qs : List PackRec} (h : ps.map PackRec.key = qs.map PackRec.key) :
    ps.map (·.tag) = qs.map (·.tag) := by
  simpa [PackRec.key, Function.comp_def] using congrArg (List.map Prod.fst) h

/-- A change of records that leaves tags and classes, with lists of the same tags, keeps agreement. -/
theorem Register.Agrees.congr {g g' : Register} (h : g.Agrees) (hp : g'.packs.map PackRec.key = g.packs.map PackRec.key)
    (hr : ∀ c : ClassNo, (g'.rotation[c]).Perm (g.rotation[c])) : g'.Agrees := by
  rw [Register.agrees_iff] at *
  rw [hp, tags_of_keys hp]
  exact ⟨h.1, fun c => ⟨(hr c).nodup_iff.2 (h.2 c).1, fun t => (hr c).mem_iff.trans ((h.2 c).2 t)⟩⟩

/-! ## Completed writes -/

theorem Store.applyAll_append (st : Store) (ws : List StoreWrite) (w : StoreWrite) :
    st.applyAll (ws ++ [w]) = (st.applyAll ws).apply w := by
  simp [Store.applyAll]

/-- The write of a record does to the tags of the images what putting it in does to the tags of the records. -/
theorem Store.apply_pack_tags {st : Store} {ps : List PackRec} (h : st.packs.map (·.tag) = ps.map (·.tag)) (r : PackRec) :
    (st.apply (.pack r)).packs.map (·.tag) = (putPack r ps).map (·.tag) := by
  refine putPack_tags_congr ?_ h
  rfl

/-- A write that is sound leaves a sound store sound (R10, R21). -/
theorem Store.Sound.apply {st : Store} (h : st.Sound) {w : StoreWrite} (hw : w.sound = true) : (st.apply w).Sound := by
  obtain ⟨hs, hr⟩ := h
  cases w with
  | pack r => exact ⟨packsSorted_putPack _ hs, hr⟩
  | charge t q => exact ⟨by rw [packsSorted_iff] at *; simpa [Store.apply, putCharge_tags] using hs, hr⟩
  | packGone t => exact ⟨packsSorted_dropPack t hs, hr⟩
  | rotation c l =>
    refine ⟨hs, fun k => ?_⟩
    have hl : l.Nodup := by simpa [StoreWrite.sound] using hw
    by_cases hk : k = c
    · subst hk; simpa [Store.apply] using hl
    · simpa [Store.apply, Fin.val_inj, Ne.symm hk] using hr k
  | _ => exact ⟨hs, hr⟩

theorem Store.Sound.applyAll {st : Store} (h : st.Sound) {ws : List StoreWrite} (hw : ∀ w ∈ ws, w.sound = true) :
    (st.applyAll ws).Sound := by
  induction ws generalizing st with
  | nil => exact h
  | cons w ws ih =>
    exact ih (h.apply (hw w (List.mem_cons_self ..))) fun x hx => hw x (List.mem_cons_of_mem _ hx)

end Sys2Proof.Machine
end

section
/-! SUPPORT. What the pack register, the retained store and the shortage computation read and write (the books), and the
operations that leave all of it alone. -/

namespace Sys2Proof.Machine

/-- The part of the state that the register's and the shortages' invariants speak of. -/
structure Books where
  register : Register
  store : Store
  inFlight : List StoreWrite
  minute : Nat
  lookahead : Nat
  ready : Vector Nat 8
  reservations : List Reservation
  short : Vector Bool 8
  shortSet : Vector Bool 8

/-- The books of a state. -/
def State.books (s : State) : Books :=
  ⟨s.register, s.store, s.inFlight, s.minute, s.disp.lookahead, s.disp.ready, s.disp.reservations, s.disp.short,
    s.link.shortSet⟩

/-- An operation that leaves the books alone does so when it is done for each member of a list. -/
theorem State.foldl_books {α : Type} {f : State → α → State} (h : ∀ s x, (f s x).books = s.books) (l : List α)
    (s : State) : (l.foldl f s).books = s.books := by
  induction l generalizing s with
  | nil => rfl
  | cons x xs ih => rw [List.foldl_cons, ih, h]

section
variable (s : State) (b : BayNo)

/-! ## Updates of one record -/

/-- All sequencers set at once. -/
def State.setBays (s : State) (v : Vector Bay 24) : State := { s with bays := v }

@[simp] theorem State.setBays_books (v : Vector Bay 24) : (s.setBays v).books = s.books := rfl
@[simp] theorem State.setBays_register (v : Vector Bay 24) : (s.setBays v).register = s.register := rfl
@[simp] theorem State.setBays_disp (v : Vector Bay 24) : (s.setBays v).disp = s.disp := rfl
@[simp] theorem State.setBays_link (v : Vector Bay 24) : (s.setBays v).link = s.link := rfl
@[simp] theorem State.setBays_bays (v : Vector Bay 24) : (s.setBays v).bays = v := rfl

@[simp] theorem State.modBay_books (f : Bay → Bay) : (s.modBay b f).books = s.books := rfl
@[simp] theorem State.modGrant_books (f : Grant → Grant) : (s.modGrant b f).books = s.books := rfl
@[simp] theorem State.modLine_books (f : LineRec → LineRec) : (s.modLine b f).books = s.books := rfl
@[simp] theorem State.modSession_books (f : Session → Session) : (s.modSession b f).books = s.books := rfl
@[simp] theorem State.setFault_books (r : Option FaultRec) : (s.setFault b r).books = s.books := rfl
@[simp] theorem State.setQueue_books (l : LevelNo) (q : List BayNo) : (s.setQueue l q).books = s.books := rfl
@[simp] theorem State.setIssues_books (l : List Issue) : (s.setIssues l).books = s.books := rfl
@[simp] theorem State.setPrompt_books (l : List BayNo) : (s.setPrompt l).books = s.books := rfl
@[simp] theorem State.setReceiver_books (r : Receiver) : (s.setReceiver r).books = s.books := rfl
@[simp] theorem State.raise_books (c : Cause) : (s.raise c).books = s.books := rfl
@[simp] theorem State.reply_books (k : Byte) (st : Status) (cs : List Byte) : (s.reply k st cs).books = s.books := rfl
@[simp] theorem State.drawn_books : s.drawn.books = s.books := rfl
@[simp] theorem State.setShed_books (v : Option ShedRec) : (s.setShed v).books = s.books := rfl
@[simp] theorem State.setFeederCap_books (f : FeederNo) (cap : Nat) : (s.setFeederCap f cap).books = s.books := rfl
@[simp] theorem State.enqueue_books (l : LevelNo) : (s.enqueue l b).books = s.books := rfl
@[simp] theorem State.unqueue_books (l : LevelNo) : (s.unqueue l b).books = s.books := rfl
@[simp] theorem State.requeue_books (l : LevelNo) : (s.requeue l b).books = s.books := rfl
@[simp] theorem State.dropComplete_books : s.dropComplete.books = s.books := rfl
@[simp] theorem State.partDocked_books (m t : Nat) : (s.partDocked m t).books = s.books := rfl
@[simp] theorem State.setIdentity_books (i : Identity) : (s.setIdentity b i).books = s.books := rfl
@[simp] theorem State.stampDock_books : (s.stampDock b).books = s.books := rfl
@[simp] theorem State.walkPast_books : (s.walkPast b).books = s.books := rfl
@[simp] theorem State.sendPoll_books (r : Bool) : (s.sendPoll b r).books = s.books := rfl
@[simp] theorem State.discardFrame_books : s.discardFrame.books = s.books := rfl
@[simp] theorem State.clearAlloc_books : s.clearAlloc.books = s.books := rfl
@[simp] theorem State.clearFaults_books : s.clearFaults.books = s.books := rfl
@[simp] theorem State.enterStage_books (k : StageNo) (m : Bool) : (s.enterStage b k m).books = s.books := rfl
@[simp] theorem State.applyScanInterval_books (v : SiteSettings) : (s.applyScanInterval v).books = s.books := rfl
@[simp] theorem State.openSession_books (p : ProfileNo) (w : Bool) (e : Ending) :
    (s.openSession b p w e).books = s.books := rfl

/-! ## Drives, passes, requests and levels -/

@[simp] theorem State.promptAdd_books : (s.promptAdd b).books = s.books := by
  unfold State.promptAdd
  split <;> rfl

@[simp] theorem State.redrive_books : (s.redrive b).books = s.books := by
  simp only [State.redrive]
  split
  · rw [State.promptAdd_books, State.modBay_books]
  · rfl

@[simp] theorem State.enterPass_books : s.enterPass.books = s.books := by
  simp only [State.enterPass, State.books]

@[simp] theorem State.pass_books : s.pass.books = s.books := by
  rw [State.pass, State.foldl_books State.redrive_books, State.enterPass_books]

@[simp] theorem State.setCarried_books (u : Nat) : (s.setCarried b u).books = s.books := by
  simp only [State.setCarried]
  split
  · rw [State.pass_books, State.modGrant_books]
  · rfl

@[simp] theorem State.enterRequest_books (r : Nat) : (s.enterRequest b r).books = s.books := by
  simp only [State.enterRequest]
  split
  · rfl
  · split <;> rfl

@[simp] theorem State.handRequest_books (r : Nat) : (s.handRequest b r).books = s.books := by
  unfold State.handRequest
  split
  · rfl
  · rw [State.pass_books, State.enterRequest_books]

@[simp] theorem State.releaseRequest_books : (s.releaseRequest b).books = s.books := by simp [State.releaseRequest]

@[simp] theorem State.enterLevel_books (l : LevelNo) : (s.enterLevel b l).books = s.books := by
  simp only [State.enterLevel]
  split <;> rfl

@[simp] theorem State.relevel_books : (s.relevel b).books = s.books := by
  unfold State.relevel
  split
  · rfl
  · rw [State.pass_books, State.enterLevel_books]

@[simp] theorem State.releaseAtRest_books : (s.releaseAtRest b).books = s.books := by
  unfold State.releaseAtRest
  split
  · rw [State.releaseRequest_books]
  · rfl

/-! ## Bay states and sessions -/

@[simp] theorem State.moveTo_books (st : BayState) : (s.moveTo b st).books = s.books := by simp [State.moveTo]
@[simp] theorem State.toVacant_books : (s.toVacant b).books = s.books := by simp [State.toVacant]
@[simp] theorem State.toFreshIdentify_books : (s.toFreshIdentify b).books = s.books := by simp [State.toFreshIdentify]
@[simp] theorem State.toStandby_books (e : Ending) : (s.toStandby b e).books = s.books := by simp [State.toStandby]
@[simp] theorem State.toCooling_books (n : Nat) : (s.toCooling b n).books = s.books := by simp [State.toCooling]
@[simp] theorem State.dock_books : (s.dock b).books = s.books := by simp [State.dock]
@[simp] theorem State.maskIn_books : (s.maskIn b).books = s.books := by simp [State.maskIn]

@[simp] theorem State.reidentify_books : (s.reidentify b).books = s.books := by
  unfold State.reidentify
  split <;> simp

@[simp] theorem State.endSession_books : (s.endSession b).books = s.books := by
  unfold State.endSession
  split
  · simp
  · rfl

@[simp] theorem State.toRelease_books : (s.toRelease b).books = s.books := by simp [State.toRelease]

@[simp] theorem State.presentAt_books : (s.presentAt b).books = s.books := by
  unfold State.presentAt
  split <;> simp

@[simp] theorem State.handOff_books (t i r : Nat) : (s.handOff b t i r).books = s.books := by
  simp only [State.handOff]
  split
  · split <;> simp
  · rfl

@[simp] theorem State.rearm_books (k : StageNo) : (s.rearm b k).books = s.books := by simp [State.rearm]

@[simp] theorem State.clearBay_books : (s.clearBay b).books = s.books := by
  unfold State.clearBay
  split <;> simp

/-! ## The scanner and the clock events -/

@[simp] theorem State.checkRound_books : s.checkRound.books = s.books := by
  unfold State.checkRound
  split <;> rfl

@[simp] theorem State.endSlot_books : s.endSlot.books = s.books := by
  unfold State.endSlot
  rw [State.checkRound_books]
  rfl

@[simp] theorem State.beginRound_books : s.beginRound.books = s.books := by
  unfold State.beginRound
  rw [State.checkRound_books]
  rfl

@[simp] theorem State.pollRegular_books : s.pollRegular.books = s.books := by
  unfold State.pollRegular
  split <;> simp

@[simp] theorem State.pollPrompt_books : s.pollPrompt.books = s.books := by
  unfold State.pollPrompt
  split <;> simp

@[simp] theorem State.endHold_books : s.endHold.books = s.books := by
  unfold State.endHold
  rw [State.pass_books]
  rfl

@[simp] theorem State.expireTurn_books : (s.expireTurn b).books = s.books := by
  unfold State.expireTurn
  split <;> simp [State.releaseTurn]

@[simp] theorem State.endShed_books : s.endShed.books = s.books := by simp [State.endShed]
@[simp] theorem State.loseStage_books : (s.loseStage b).books = s.books := by simp [State.loseStage]

@[simp] theorem State.applyShed_books (c d : Nat) : (s.applyShed c d).books = s.books := by
  unfold State.applyShed
  split
  · simp
  · split <;> simp

@[simp] theorem State.applySiteCap_books (v : SiteSettings) : (s.applySiteCap v).books = s.books := by
  simp only [State.applySiteCap]
  split
  · rfl
  · rw [State.pass_books]; rfl

end

/-! ## The fields of the books -/

section
variable {s t : State}

theorem State.register_of_books (h : t.books = s.books) : t.register = s.register := congrArg Books.register h
theorem State.store_of_books (h : t.books = s.books) : t.store = s.store := congrArg Books.store h
theorem State.inFlight_of_books (h : t.books = s.books) : t.inFlight = s.inFlight := congrArg Books.inFlight h
theorem State.minute_of_books (h : t.books = s.books) : t.minute = s.minute := congrArg Books.minute h
theorem State.lookahead_of_books (h : t.books = s.books) : t.disp.lookahead = s.disp.lookahead :=
  congrArg Books.lookahead h
theorem State.ready_of_books (h : t.books = s.books) : t.disp.ready = s.disp.ready := congrArg Books.ready h
theorem State.reservations_of_books (h : t.books = s.books) : t.disp.reservations = s.disp.reservations :=
  congrArg Books.reservations h
theorem State.short_of_books (h : t.books = s.books) : t.disp.short = s.disp.short := congrArg Books.short h
theorem State.shortSet_of_books (h : t.books = s.books) : t.link.shortSet = s.link.shortSet :=
  congrArg Books.shortSet h

end

end Sys2Proof.Machine
end

section
/-! SUPPORT. What an operation of the running part keeps: the register in agreement with the store (R10, R21) and the
shortage states current (R117). -/

namespace Sys2Proof.Machine

/-! ## The register and its images -/

/-- Register and images within 96 records, at every cut of the writes, and one list of tags in the register and in the
store with
its writes completed (R5, R21): `RecordsFit` as a running part meets it. -/
def State.Synced (s : State) : Prop :=
  s.register.packs.length ≤ Config.maxPacks ∧
  (∀ n ≤ s.inFlight.length, (s.store.applyAll (s.inFlight.take n)).packs.length ≤ Config.maxPacks) ∧
  (s.store.applyAll s.inFlight).packs.map (·.tag) = s.register.packs.map (·.tag)

/-- The operation keeps the pack register's invariant, and register and store in step. -/
structure State.KeepsRegister (s t : State) : Prop where
  agrees : s.RegisterOk → t.RegisterOk
  synced : s.RegisterOk → s.Synced → t.Synced

/-- The operation keeps the register's invariants, computes the shortage of every class whose terms it changes, and raises
attention SHORT for every class that becomes short. -/
structure State.Keeps (s t : State) : Prop extends s.KeepsRegister t where
  shortages : s.ShortagesOk → t.ShortagesOk
  raised : ∀ c : ClassNo, t.disp.short[c] = true → s.disp.short[c] = true ∨ t.link.shortSet[c] = true
  flagged : ∀ c : ClassNo, s.link.shortSet[c] = true → t.link.shortSet[c] = true

section
variable {s t u : State}

theorem State.KeepsRegister.trans (h : s.KeepsRegister t) (h' : t.KeepsRegister u) : s.KeepsRegister u :=
  ⟨fun a => h'.agrees (h.agrees a), fun a y => h'.synced (h.agrees a) (h.synced a y)⟩

theorem State.Keeps.trans (h : s.Keeps t) (h' : t.Keeps u) : s.Keeps u where
  toKeepsRegister := h.toKeepsRegister.trans h'.toKeepsRegister
  shortages k := h'.shortages (h.shortages k)
  raised c hc := (h'.raised c hc).elim (fun ht => (h.raised c ht).imp_right (h'.flagged c)) Or.inr
  flagged c hc := h'.flagged c (h.flagged c hc)

/-- An operation on register and store alone is judged by these three fields. -/
theorem State.KeepsRegister.of_eq (hr : t.register = s.register) (hs : t.store = s.store) (hw : t.inFlight = s.inFlight) :
    s.KeepsRegister t := by
  constructor <;> simp [State.RegisterOk, State.Synced, hr, hs, hw]

/-- A class's shortage follows from its record, its ready count, the reservations, the minute and the lookahead (R116). -/
theorem State.isShort_congr {c : ClassNo} (hc : t.classRec c = s.classRec c) (hr : t.disp.ready[c] = s.disp.ready[c])
    (hv : t.disp.reservations = s.disp.reservations) (hm : t.minute = s.minute)
    (hl : t.disp.lookahead = s.disp.lookahead) : t.isShort c = s.isShort c := by
  have hd : ∀ twin, t.demand c twin = s.demand c twin := by simp [State.demand, State.counts, hv, hm, hl]
  simp only [State.isShort, hc, hr, hd]

theorem State.classRec_of_books (h : t.books = s.books) (c : ClassNo) : t.classRec c = s.classRec c := by
  rw [State.classRec, State.register_of_books h, State.classRec]

theorem State.isShort_of_books (h : t.books = s.books) (c : ClassNo) : t.isShort c = s.isShort c :=
  State.isShort_congr (State.classRec_of_books h c) (by rw [State.ready_of_books h])
    (State.reservations_of_books h) (State.minute_of_books h) (State.lookahead_of_books h)

/-- An operation that leaves the books alone keeps all. -/
theorem State.Keeps.of_books (h : t.books = s.books) : s.Keeps t where
  toKeepsRegister :=
    .of_eq (State.register_of_books h) (State.store_of_books h) (State.inFlight_of_books h)
  shortages k c := by rw [State.short_of_books h, State.isShort_of_books h, k c]
  raised c hc := .inl (by rwa [State.short_of_books h] at hc)
  flagged c hc := by rwa [State.shortSet_of_books h]

theorem State.Keeps.refl (s : State) : s.Keeps s := .of_books rfl

/-- What each member of a list keeps in every state, the whole list keeps. -/
theorem State.Keeps.foldl {α : Type} {f : State → α → State} (h : ∀ (s : State) x, s.Keeps (f s x)) (l : List α)
    (s : State) :
    s.Keeps (l.foldl f s) := by
  induction l generalizing s with
  | nil => exact .refl s
  | cons x xs ih => exact (h s x).trans (ih (f s x))

theorem State.KeepsRegister.foldl {α : Type} {f : State → α → State} (h : ∀ (s : State) x, s.KeepsRegister (f s x))
    (l : List α) (s : State) : s.KeepsRegister (l.foldl f s) := by
  induction l generalizing s with
  | nil => exact (State.Keeps.refl s).toKeepsRegister
  | cons x xs ih => exact (h s x).trans (ih (f s x))

/-- An operation on the register and its writes that keeps those, and no class's low-water mark or twin field changed,
keeps
all. -/
theorem State.KeepsRegister.keeps (h : s.KeepsRegister t) (hc : t.register.classes = s.register.classes)
    (hd : t.disp = s.disp) (hm : t.minute = s.minute) (hl : t.link.shortSet = s.link.shortSet) : s.Keeps t where
  toKeepsRegister := h
  shortages k c := by
    rw [hd, k c, State.isShort_congr (by simp [State.classRec, hc]) (by rw [hd]) (by rw [hd]) hm (by rw [hd])]
  raised c hc := .inl (by rwa [hd] at hc)
  flagged c hc := by rwa [hl]

/-! ## Writes -/

/-- A register in agreement and some more sound writes keep the register's invariant. -/
theorem State.RegisterOk.of_writes (h : s.RegisterOk) (hg : t.register.Agrees) (hs : t.store = s.store)
    {ws : List StoreWrite} (hf : t.inFlight = s.inFlight ++ ws) (hw : ∀ w ∈ ws, w.sound = true) : t.RegisterOk := by
  refine ⟨hg, hs ▸ h.2.1, fun x hx => ?_⟩
  rw [hf, List.mem_append] at hx
  exact hx.elim (h.2.2 x) (hw x)

/-- The store with all of a state's writes completed is sound. -/
theorem State.RegisterOk.completed (h : s.RegisterOk) : (s.store.applyAll s.inFlight).Sound := h.2.1.applyAll h.2.2

/-- One more write, after which the store again holds the register's tags, keeps register and store in step. -/
theorem State.Synced.write (hy : s.Synced) {w : StoreWrite} (hs : t.store = s.store) (hf : t.inFlight = s.inFlight ++ [w])
    (hlen : t.register.packs.length ≤ Config.maxPacks)
    (htags : ((s.store.applyAll s.inFlight).apply w).packs.map (·.tag) = t.register.packs.map (·.tag)) : t.Synced := by
  have hall : (t.store.applyAll t.inFlight).packs.map (·.tag) = t.register.packs.map (·.tag) := by
    rw [hs, hf, Store.applyAll_append, htags]
  refine ⟨hlen, fun n hn => ?_, hall⟩
  rcases Nat.lt_or_ge s.inFlight.length n with h | h
  · rw [List.take_of_length_le (by rw [hf]; simpa using h)]
    have hl := congrArg List.length hall
    simp only [List.length_map] at hl
    omega
  · rw [hs, hf, List.take_append_of_le_length h]
    exact hy.2.1 n h

/-- A write that changes no image's tag keeps all. -/
theorem State.write_keeps {w : StoreWrite} (hw : w.sound = true)
    (htags : s.RegisterOk → s.Synced →
      ((s.store.applyAll s.inFlight).apply w).packs.map (·.tag) = (s.store.applyAll s.inFlight).packs.map (·.tag)) :
    s.Keeps (s.write w) :=
  State.KeepsRegister.keeps
    ⟨fun h => h.of_writes h.1 rfl rfl (by simpa using hw),
      fun h hy => hy.write rfl rfl hy.1 ((htags h hy).trans hy.2.2)⟩ rfl rfl rfl rfl

theorem State.write_site_keeps (v : SiteSettings) : s.Keeps (s.write (.site v)) := State.write_keeps rfl fun _ _ => rfl
theorem State.write_feederCap_keeps (f : FeederNo) (n : Nat) : s.Keeps (s.write (.feederCap f n)) :=
  State.write_keeps rfl fun _ _ => rfl
theorem State.write_cls_keeps (c : ClassNo) (r : ClassRec) : s.Keeps (s.write (.cls c r)) :=
  State.write_keeps rfl fun _ _ => rfl
theorem State.write_header_keeps (p : ProfileNo) (h : Header) : s.Keeps (s.write (.header p h)) :=
  State.write_keeps rfl fun _ _ => rfl
theorem State.write_stage_keeps (p : ProfileNo) (k : StageNo) (g : Stage) : s.Keeps (s.write (.stage p k g)) :=
  State.write_keeps rfl fun _ _ => rfl
theorem State.write_bayCfg_keeps (b : BayNo) (g : BayCfg) : s.Keeps (s.write (.bayCfg b g)) :=
  State.write_keeps rfl fun _ _ => rfl
theorem State.write_mask_keeps (m : Vector Bool 8) : s.Keeps (s.write (.mask m)) := State.write_keeps rfl fun _ _ => rfl
theorem State.write_charge_keeps (t q : Nat) : s.Keeps (s.write (.charge t q)) :=
  State.write_keeps rfl fun _ _ => putCharge_tags _ _ _

/-- The write of a record that the register holds keeps all. -/
theorem State.write_pack_keeps {r : PackRec} (h : r ∈ s.register.packs) : s.Keeps (s.write (.pack r)) :=
  State.write_keeps rfl fun ok hy =>
    putPack_tags_of_mem ok.completed.1 (by rw [hy.2.2]; exact List.mem_map_of_mem (f := (·.tag)) h)

theorem State.savePack_keeps (s : State) (t : Nat) : s.Keeps (s.savePack t) := by
  unfold State.savePack
  split
  · next h => exact State.write_pack_keeps (mem_of_findPack h).1
  · exact .refl s

theorem State.saveCharge_keeps (s : State) (t : Nat) : s.Keeps (s.saveCharge t) := by
  unfold State.saveCharge
  split
  · exact State.write_charge_keeps _ _
  · exact .refl s

theorem State.saveChargeAt_keeps (s : State) (b : BayNo) : s.Keeps (s.saveChargeAt b) := by
  unfold State.saveChargeAt
  split
  · exact s.saveCharge_keeps _
  · exact .refl s

theorem State.saveChargesAt_keeps (s : State) (b : BayNo) : s.Keeps (s.saveChargesAt b) :=
  .foldl State.saveCharge_keeps _ s

/-! ## Pack records -/

/-- A change of the working records. -/
def State.mapPacks (s : State) (f : PackRec → PackRec) : State :=
  { s with register := { s.register with packs := s.register.packs.map f } }

theorem State.modPack_eq_mapPacks (s : State) (t : Nat) (f : PackRec → PackRec) :
    s.modPack t f = s.mapPacks fun r => if r.tag = t then f r else r := rfl

/-- A change of the working records that leaves their tags and classes keeps all. -/
theorem State.mapPacks_keeps (s : State) {f : PackRec → PackRec} (hf : ∀ r, (f r).key = r.key) :
    s.Keeps (s.mapPacks f) := by
  have hk : (s.register.packs.map f).map PackRec.key = s.register.packs.map PackRec.key := by
    simp [Function.comp_def, hf]
  refine State.KeepsRegister.keeps ⟨?_, ?_⟩ rfl rfl rfl rfl
  · rintro ⟨hg, hs, hw⟩
    exact ⟨hg.congr hk fun _ => .refl _, hs, hw⟩
  · rintro - ⟨hlen, hcut, htags⟩
    exact ⟨by simpa [State.mapPacks] using hlen, hcut, htags.trans (tags_of_keys hk).symm⟩

theorem State.modPack_keeps (s : State) (t : Nat) {f : PackRec → PackRec} (hf : ∀ r, (f r).key = r.key) :
    s.Keeps (s.modPack t f) :=
  s.mapPacks_keeps fun r => by split <;> simp [hf]

theorem State.setMark_keeps (s : State) (t : Nat) (m : Option Nat) : s.Keeps (s.setMark t m) :=
  s.modPack_keeps t fun _ => rfl

/-- A record changed, its tag and class kept, and written. -/
theorem State.modPack_savePack_keeps (s : State) (t : Nat) {f : PackRec → PackRec} (hf : ∀ r, (f r).key = r.key) :
    s.Keeps ((s.modPack t f).savePack t) := (s.modPack_keeps t hf).trans (State.savePack_keeps _ t)

theorem State.setPlace_keeps (s : State) (t : Nat) (p : Place) : s.Keeps (s.setPlace t p) :=
  s.modPack_savePack_keeps t fun _ => rfl

theorem State.setChargeAt_keeps (s : State) (b : BayNo) (q : Nat) : s.Keeps (s.setChargeAt b q) := by
  unfold State.setChargeAt
  split
  · exact .refl s
  · exact s.modPack_keeps _ fun _ => rfl
  · exact .of_books rfl

theorem State.setKnownAt_keeps (s : State) (b : BayNo) : s.Keeps (s.setKnownAt b) := by
  unfold State.setKnownAt
  split
  · exact .refl s
  · exact s.modPack_savePack_keeps _ fun _ => rfl
  · exact .of_books rfl

theorem State.resetEqualizeAt_keeps (s : State) (b : BayNo) : s.Keeps (s.resetEqualizeAt b) := by
  unfold State.resetEqualizeAt
  split
  · exact s.modPack_savePack_keeps _ fun _ => rfl
  · exact .refl s

theorem State.loseAt_keeps (s : State) (b : BayNo) : s.Keeps (s.loseAt b) :=
  .foldl (fun s _ => s.setPlace_keeps _ _) _ s

theorem State.settleAt_keeps (s : State) (b : BayNo) (t : Option Nat) (c : Cause) : s.Keeps (s.settleAt b t c) :=
  .foldl (f := fun s (r : PackRec) => (s.setPlace r.tag .unaccounted).raise c)
    (fun s r => (s.setPlace_keeps r.tag .unaccounted).trans (.of_books rfl)) _ s

/-! ## What record changes leave alone -/

/-- The state without its pack records and its writes on their way. -/
def State.sansPacks (s : State) : State := { s with register := { s.register with packs := [] }, inFlight := [] }

@[simp] theorem State.mapPacks_sansPacks (s : State) (f : PackRec → PackRec) :
    (s.mapPacks f).sansPacks = s.sansPacks := rfl
@[simp] theorem State.modPack_sansPacks (s : State) (t : Nat) (f : PackRec → PackRec) :
    (s.modPack t f).sansPacks = s.sansPacks := rfl
@[simp] theorem State.setMark_sansPacks (s : State) (t : Nat) (m : Option Nat) :
    (s.setMark t m).sansPacks = s.sansPacks := rfl
@[simp] theorem State.clearMarks_sansPacks (s : State) : s.clearMarks.sansPacks = s.sansPacks := rfl
@[simp] theorem State.write_sansPacks (s : State) (w : StoreWrite) : (s.write w).sansPacks = s.sansPacks := rfl

@[simp] theorem State.savePack_sansPacks (s : State) (t : Nat) : (s.savePack t).sansPacks = s.sansPacks := by
  unfold State.savePack
  split <;> rfl

@[simp] theorem State.saveCharge_sansPacks (s : State) (t : Nat) : (s.saveCharge t).sansPacks = s.sansPacks := by
  unfold State.saveCharge
  split <;> rfl

@[simp] theorem State.saveChargeAt_sansPacks (s : State) (b : BayNo) : (s.saveChargeAt b).sansPacks = s.sansPacks := by
  unfold State.saveChargeAt
  split
  · rw [State.saveCharge_sansPacks]
  · rfl

@[simp] theorem State.setPlace_sansPacks (s : State) (t : Nat) (p : Place) :
    (s.setPlace t p).sansPacks = s.sansPacks := by
  rw [State.setPlace, State.savePack_sansPacks, State.modPack_sansPacks]

/-- What is left alone at each member of a list is left alone by the whole list. -/
theorem State.foldl_sansPacks {α : Type} {f : State → α → State} (h : ∀ s x, (f s x).sansPacks = s.sansPacks) (l : List α)
    (s : State) : (l.foldl f s).sansPacks = s.sansPacks := by
  induction l generalizing s with
  | nil => rfl
  | cons x xs ih => rw [List.foldl_cons, ih, h]

section
variable {s t : State}

theorem State.disp_of_sansPacks (h : t.sansPacks = s.sansPacks) : t.disp = s.disp := by
  simpa [State.sansPacks] using congrArg State.disp h

theorem State.link_of_sansPacks (h : t.sansPacks = s.sansPacks) : t.link = s.link := by
  simpa [State.sansPacks] using congrArg State.link h

theorem State.minute_of_sansPacks (h : t.sansPacks = s.sansPacks) : t.minute = s.minute := by
  simpa [State.sansPacks] using congrArg State.minute h

theorem State.bays_of_sansPacks (h : t.sansPacks = s.sansPacks) : t.bays = s.bays := by
  simpa [State.sansPacks] using congrArg State.bays h

theorem State.classes_of_sansPacks (h : t.sansPacks = s.sansPacks) : t.register.classes = s.register.classes := by
  simpa [State.sansPacks] using congrArg (fun u => u.register.classes) h

theorem State.rotation_of_sansPacks (h : t.sansPacks = s.sansPacks) : t.register.rotation = s.register.rotation := by
  simpa [State.sansPacks] using congrArg (fun u => u.register.rotation) h

/-- A class's shortage does not depend on the records themselves. -/
theorem State.isShort_of_sansPacks (h : t.sansPacks = s.sansPacks) (c : ClassNo) : t.isShort c = s.isShort c := by
  have hd := State.disp_of_sansPacks h
  exact State.isShort_congr (by rw [State.classRec, State.classes_of_sansPacks h, State.classRec]) (by rw [hd]) (by rw [hd])
    (State.minute_of_sansPacks h) (by rw [hd])

end

/-! ## Rotation lists -/

/-- A rotation list of the same tags in another order, written, keeps all (R10). -/
theorem State.setRotation_keeps (s : State) (c : ClassNo) (l : List Nat)
    (h : s.register.Agrees → l.Perm (s.rotation c)) : s.Keeps (s.setRotation c l) := by
  refine State.KeepsRegister.keeps ⟨?_, ?_⟩ rfl rfl rfl rfl
  · rintro ⟨hg, hs, hw⟩
    have hl : l.Nodup := (h hg).nodup_iff.2 (hg.2 c).1
    refine State.RegisterOk.of_writes ⟨hg, hs, hw⟩ (hg.congr rfl fun k => ?_) rfl rfl
      (by simpa [StoreWrite.sound] using hl)
    by_cases hk : k = c
    · subst hk; simpa [State.setRotation, State.rotation] using h hg
    · simp [State.setRotation, Fin.val_inj, Ne.symm hk]
  · intro _ hy
    exact hy.write rfl rfl hy.1 hy.2.2

/-- A tag taken out of a list that holds it once and put back at its tail. -/
theorem perm_filter_ne_append {l : List Nat} (hl : l.Nodup) {t : Nat} (ht : t ∈ l) :
    (l.filter (fun x => decide (x ≠ t)) ++ [t]).Perm l := by
  have h : l.filter (fun x => decide (x ≠ t)) = l.erase t := by
    rw [hl.erase_eq_filter]
    exact List.filter_congr fun x _ => by rw [Bool.eq_iff_iff]; simp
  rw [h]
  exact (List.perm_append_singleton t _).trans (List.perm_cons_erase ht).symm

/-- Moving a registered tag to its tail keeps all. -/
theorem State.toTail_keeps (s : State) (r : PackRec) (h : r.key ∈ s.register.packs.map PackRec.key) :
    s.Keeps (s.toTail r) := by
  refine s.setRotation_keeps _ _ fun hg => ?_
  have hmem := ((Register.agrees_iff _).1 hg).2 r.cls
  exact perm_filter_ne_append hmem.1 ((hmem.2 r.tag).2 h)

/-! ## Added and deleted records -/

/-- A new record with its tag at the head of its list keeps agreement (R10). -/
theorem Register.Agrees.add {g : Register} (hg : g.Agrees) {r : PackRec} (htag : r.tag ∉ g.packs.map (·.tag)) :
    (r.tag :: g.rotation[r.cls]).Nodup ∧
      Register.Agrees ⟨g.classes, putPack r g.packs, g.rotation.set r.cls (r.tag :: g.rotation[r.cls])⟩ := by
  have hfresh : r.tag ∉ g.rotation[r.cls] := fun hmem => by
    obtain ⟨x, hx, hxt, -⟩ := (hg.2 r.cls).2.1 _ hmem
    exact htag (List.mem_map.2 ⟨x, hx, hxt⟩)
  have hnew : (r.tag :: g.rotation[r.cls]).Nodup := List.nodup_cons.2 ⟨hfresh, (hg.2 r.cls).1⟩
  have hput : ∀ x, x ∈ putPack r g.packs ↔ x = r ∨ x ∈ g.packs := fun x => by
    rw [mem_putPack hg.1]
    exact or_congr_right (and_iff_left_of_imp fun hx he => htag (he ▸ List.mem_map_of_mem hx))
  refine ⟨hnew, packsSorted_putPack r hg.1, fun c => ?_⟩
  obtain ⟨hnd, hin, hout⟩ := hg.2 c
  by_cases hc : c = r.cls
  · subst hc
    simp only [Fin.getElem_fin, Vector.getElem_set_self, hput]
    refine ⟨hnew, fun t ht => ?_, fun x hx hxc => ?_⟩
    · rcases List.mem_cons.1 ht with rfl | ht
      · exact ⟨r, .inl rfl, rfl, rfl⟩
      · obtain ⟨x, hx, h⟩ := hin t ht
        exact ⟨x, .inr hx, h⟩
    · rcases hx with rfl | hx
      · exact List.mem_cons_self ..
      · exact List.mem_cons_of_mem _ (hout x hx hxc)
  · have hne : (r.cls : Nat) ≠ c := fun h => hc (Fin.ext h.symm)
    simp only [Fin.getElem_fin, Vector.getElem_set_ne _ _ hne, hput]
    refine ⟨hnd, fun t ht => ?_, fun x hx hxc => ?_⟩
    · obtain ⟨x, hx, h⟩ := hin t ht
      exact ⟨x, .inr hx, h⟩
    · rcases hx with rfl | hx
      · exact absurd hxc.symm hc
      · exact hout x hx hxc

/-- A record deleted with its rotation-list entry keeps agreement (R10, R18). -/
theorem Register.Agrees.delete {g : Register} (hg : g.Agrees) {r : PackRec} (hr : findPack g.packs r.tag = some r) :
    Register.Agrees ⟨g.classes, dropPack r.tag g.packs,
      g.rotation.set r.cls (g.rotation[r.cls].filter fun t => decide (t ≠ r.tag))⟩ := by
  have hdrop : ∀ x, x ∈ dropPack r.tag g.packs ↔ x ∈ g.packs ∧ x.tag ≠ r.tag := by simp [dropPack]
  refine ⟨packsSorted_dropPack r.tag hg.1, fun c => ?_⟩
  obtain ⟨hnd, hin, hout⟩ := hg.2 c
  by_cases hc : c = r.cls
  · subst hc
    simp only [Fin.getElem_fin, Vector.getElem_set_self, hdrop]
    refine ⟨hnd.filter _, fun t ht => ?_, fun x hx hxc => ?_⟩
    · obtain ⟨ht, hne⟩ := List.mem_filter.1 ht
      obtain ⟨x, hx, rfl, hxc⟩ := hin t ht
      exact ⟨x, ⟨hx, by simpa using hne⟩, rfl, hxc⟩
    · exact List.mem_filter.2 ⟨hout x hx.1 hxc, by simpa using hx.2⟩
  · have hne : (r.cls : Nat) ≠ c := fun h => hc (Fin.ext h.symm)
    simp only [Fin.getElem_fin, Vector.getElem_set_ne _ _ hne, hdrop]
    refine ⟨hnd, fun t ht => ?_, fun x hx hxc => hout x hx.1 hxc⟩
    obtain ⟨x, hx, rfl, hxc⟩ := hin t ht
    refine ⟨x, ⟨hx, fun he => hc ?_⟩, rfl, hxc⟩
    have hxr : x = r := Option.some.inj ((findPack_of_mem hg.1 hx).symm.trans (he ▸ hr))
    rw [← hxc, hxr]

/-- A new record, where there is room for it, with its tag at the head of its list, keeps all (R5, R10). -/
theorem State.addPack_keeps (s : State) (r : PackRec) (hn : s.pack r.tag = none)
    (hroom : s.register.packs.length < Config.maxPacks) : s.Keeps (s.addPack r) := by
  have htag : r.tag ∉ s.register.packs.map (·.tag) := (findPack_eq_none_iff _ _).1 hn
  refine State.KeepsRegister.keeps ⟨fun h => ?_, fun _ hy => ?_⟩ rfl rfl rfl rfl
  · obtain ⟨hnew, hadd⟩ := h.1.add htag
    refine h.of_writes (ws := [.pack r, .rotation r.cls (r.tag :: s.rotation r.cls)]) hadd rfl
      (by simp [State.addPack, State.setRotation]) ?_
    simpa [StoreWrite.sound, State.rotation] using hnew
  · have hlen : (putPack r s.register.packs).length ≤ Config.maxPacks := (length_putPack_le r _).trans hroom
    have h1 : (({ s with register := { s.register with packs := putPack r s.register.packs } } : State).write
        (.pack r)).Synced :=
      hy.write (w := .pack r) rfl rfl hlen (Store.apply_pack_tags hy.2.2 r)
    exact h1.write (w := .rotation r.cls (r.tag :: s.rotation r.cls)) rfl rfl hlen h1.2.2

/-- Deleting a record with its rotation-list entry keeps all (R10, R18). -/
theorem State.deletePack_keeps (s : State) {r : PackRec} (hr : s.pack r.tag = some r) : s.Keeps (s.deletePack r) := by
  refine State.KeepsRegister.keeps ⟨fun h => ?_, fun _ hy => ?_⟩ rfl rfl rfl rfl
  · have hkept : ((s.rotation r.cls).filter fun t => decide (t ≠ r.tag)).Nodup := (h.1.2 r.cls).1.filter _
    refine h.of_writes
      (ws := [.packGone r.tag, .rotation r.cls ((s.rotation r.cls).filter fun t => decide (t ≠ r.tag))])
      (h.1.delete hr) rfl (by simp [State.deletePack, State.setRotation]) ?_
    simpa [StoreWrite.sound] using hkept
  · have hlen : (dropPack r.tag s.register.packs).length ≤ Config.maxPacks :=
      (List.length_filter_le _ _).trans hy.1
    have h1 : (({ s with register := { s.register with packs := dropPack r.tag s.register.packs } } : State).write
        (.packGone r.tag)).Synced :=
      hy.write (w := .packGone r.tag) rfl rfl hlen (by
        simp only [Store.apply, State.write_register, dropPack_tags, hy.2.2])
    exact h1.write (w := .rotation r.cls ((s.rotation r.cls).filter fun t => decide (t ≠ r.tag))) rfl rfl hlen h1.2.2

end

end Sys2Proof.Machine
end

section
/-! SUPPORT. Shortage computations and hand-overs of ready counts (R11, R117): what they set, and that an event that
computes the
classes whose terms it changed keeps every shortage current. -/

namespace Sys2Proof.Machine

/-! ## One shortage computation -/

/-- What a shortage computation does to the books: the class's state, and its place in the set of SHORT where it becomes
short. -/
theorem State.computeShort_books (s : State) (c : ClassNo) : (s.computeShort c).books =
    { s.books with
      short := s.disp.short.set c (s.isShort c)
      shortSet := if s.isShort c = true ∧ s.disp.short[c] = false then s.link.shortSet.set c true
        else s.link.shortSet } := by
  simp only [State.computeShort]
  split
  · next h =>
    have hset : s.disp.short.set c (s.isShort c) = s.disp.short := by rw [h]; simp
    rw [hset, if_neg (by rw [h]; simp)]
    rfl
  · next h =>
    rw [State.foldl_books State.relevel_books]
    cases hv : s.isShort c
    · rfl
    · have hc : s.disp.short[c] = false := by simpa [hv] using h
      rw [if_pos rfl, if_pos ⟨rfl, hc⟩]
      rfl

theorem State.computeShort_register (s : State) (c : ClassNo) : (s.computeShort c).register = s.register :=
  congrArg Books.register (s.computeShort_books c)

theorem State.computeShort_ready (s : State) (c : ClassNo) : (s.computeShort c).disp.ready = s.disp.ready :=
  congrArg Books.ready (s.computeShort_books c)

/-- A shortage computation sets its class's shortage state to what the class's terms give, and no other's (R117). -/
theorem State.computeShort_short (s : State) (c k : ClassNo) :
    (s.computeShort c).disp.short[k] = if k = c then s.isShort c else s.disp.short[k] := by
  have h : (s.computeShort c).disp.short = s.disp.short.set c (s.isShort c) :=
    congrArg Books.short (s.computeShort_books c)
  rw [h]
  by_cases hk : k = c
  · subst hk; simp
  · simp [hk, Fin.val_inj, Ne.symm hk]

/-- A shortage computation changes no class's terms. -/
theorem State.computeShort_isShort (s : State) (c k : ClassNo) : (s.computeShort c).isShort k = s.isShort k :=
  have h := s.computeShort_books c
  State.isShort_congr (by simp [State.classRec, s.computeShort_register c]) (by rw [s.computeShort_ready c])
    (congrArg Books.reservations h) (congrArg Books.minute h) (congrArg Books.lookahead h)

theorem State.computeShort_keepsRegister (s : State) (c : ClassNo) : s.KeepsRegister (s.computeShort c) :=
  have h := s.computeShort_books c
  .of_eq (congrArg Books.register h) (congrArg Books.store h) (congrArg Books.inFlight h)

/-- A class stays in the set of SHORT at a shortage computation. -/
theorem State.computeShort_flagged (s : State) (c k : ClassNo) (hk : s.link.shortSet[k] = true) :
    (s.computeShort c).link.shortSet[k] = true := by
  have h := congrArg Books.shortSet (s.computeShort_books c)
  rw [show (s.computeShort c).link.shortSet = _ from h]
  by_cases hc : k = c
  · subst hc; simp only [Fin.getElem_fin] at *; split <;> simp [hk]
  · simp only [Fin.getElem_fin] at *; split <;> simp [hk, Fin.val_inj, Ne.symm hc]

/-- A class that is short after a shortage computation was so before, or is in the set of SHORT (R117, R178). -/
theorem State.computeShort_raised (s : State) (c k : ClassNo) (hk : (s.computeShort c).disp.short[k] = true) :
    s.disp.short[k] = true ∨ (s.computeShort c).link.shortSet[k] = true := by
  rw [State.computeShort_short] at hk
  split at hk
  · next h =>
    subst h
    have hs := congrArg Books.shortSet (s.computeShort_books k)
    rw [show (s.computeShort k).link.shortSet = _ from hs]
    cases hc : s.disp.short[k]
    · exact .inr (by simp [hk])
    · exact .inl rfl
  · exact .inl hk

/-! ## Several shortage computations -/

section
variable (cs : List ClassNo) (s : State) (k : ClassNo)

theorem State.computeShorts_isShort : (cs.foldl State.computeShort s).isShort k = s.isShort k := by
  induction cs generalizing s with
  | nil => rfl
  | cons c cs ih => rw [List.foldl_cons, ih, State.computeShort_isShort]

theorem State.computeShorts_short :
    (cs.foldl State.computeShort s).disp.short[k] = if k ∈ cs then s.isShort k else s.disp.short[k] := by
  induction cs generalizing s with
  | nil => simp
  | cons c cs ih =>
    rw [List.foldl_cons, ih, State.computeShort_isShort, State.computeShort_short]
    by_cases hk : k = c <;> by_cases hcs : k ∈ cs <;> simp [hk, hcs]

theorem State.computeShorts_ready : (cs.foldl State.computeShort s).disp.ready = s.disp.ready := by
  induction cs generalizing s with
  | nil => rfl
  | cons c cs ih => rw [List.foldl_cons, ih, State.computeShort_ready]

theorem State.computeShorts_flagged (hk : s.link.shortSet[k] = true) :
    (cs.foldl State.computeShort s).link.shortSet[k] = true := by
  induction cs generalizing s with
  | nil => exact hk
  | cons c cs ih => exact ih _ (s.computeShort_flagged c k hk)

theorem State.computeShorts_raised (hk : (cs.foldl State.computeShort s).disp.short[k] = true) :
    s.disp.short[k] = true ∨ (cs.foldl State.computeShort s).link.shortSet[k] = true := by
  induction cs generalizing s with
  | nil => exact .inl hk
  | cons c cs ih =>
    rcases ih _ hk with h | h
    · exact (s.computeShort_raised c k h).imp_right (State.computeShorts_flagged cs _ k)
    · exact .inr h

end

/-- An operation that keeps the register, changes the terms of some classes only, and computes their shortage at its
end, keeps
all (R117). -/
theorem State.KeepsRegister.computeShorts {s t : State} (h : s.KeepsRegister t) (cs : List ClassNo)
    (hs : t.disp.short = s.disp.short) (hl : t.link.shortSet = s.link.shortSet)
    (hc : ∀ c, c ∉ cs → t.isShort c = s.isShort c) : s.Keeps (cs.foldl State.computeShort t) where
  toKeepsRegister := h.trans (.foldl State.computeShort_keepsRegister cs t)
  shortages k c := by
    rw [State.computeShorts_short, State.computeShorts_isShort]
    split
    · rfl
    · next hn => rw [hs, k c, hc c hn]
  raised c hr := (State.computeShorts_raised cs t c hr).imp_left fun h => by rwa [hs] at h
  flagged c hf := State.computeShorts_flagged cs t c (by rwa [hl])

theorem mem_allClasses (c : ClassNo) : c ∈ allClasses := List.mem_finRange c

theorem mem_allBays (b : BayNo) : b ∈ allBays := List.mem_finRange b

/-- An operation that keeps the register and computes every shortage at its end keeps all. -/
theorem State.KeepsRegister.computeAllShort {s t : State} (h : s.KeepsRegister t)
    (hs : t.disp.short = s.disp.short) (hl : t.link.shortSet = s.link.shortSet) : s.Keeps t.computeAllShort :=
  h.computeShorts allClasses hs hl fun c hc => absurd (mem_allClasses c) hc

theorem State.computeAllShort_keepsRegister (s : State) : s.KeepsRegister s.computeAllShort := by
  unfold State.computeAllShort
  exact State.KeepsRegister.foldl State.computeShort_keepsRegister allClasses s

/-- A class that is short once all shortages are computed was so before, or is in the set of SHORT. -/
theorem State.computeAllShort_raised (s : State) (c : ClassNo) (hc : s.computeAllShort.disp.short[c] = true) :
    s.disp.short[c] = true ∨ s.computeAllShort.link.shortSet[c] = true := by
  unfold State.computeAllShort at hc ⊢
  exact State.computeShorts_raised allClasses s c hc

/-- Every shortage is current once all are computed. -/
theorem State.computeAllShort_shortagesOk (s : State) : s.computeAllShort.ShortagesOk := fun c => by
  rw [State.computeAllShort, State.computeShorts_short, State.computeShorts_isShort, if_pos (mem_allClasses c)]

/-! ## Ready counts handed over -/

theorem State.setReady_isShort (s : State) (n : Nat) {c k : ClassNo} (hk : k ≠ c) :
    (s.setReady c n).isShort k = s.isShort k :=
  State.isShort_congr rfl (by simp [State.setReady, Fin.val_inj, Ne.symm hk]) rfl rfl rfl

theorem State.handReady_keeps (s : State) (c : ClassNo) : s.Keeps (s.handReady c) := by
  unfold State.handReady
  split
  · exact .refl s
  · exact State.KeepsRegister.computeShorts (s := s) (t := s.setReady c _) (.of_eq rfl rfl rfl) [c] rfl rfl
      fun k hk => s.setReady_isShort _ (by simpa using hk)

theorem State.handAllReady_keeps (s : State) : s.Keeps s.handAllReady := .foldl State.handReady_keeps _ s

theorem State.handUnless_keeps (own : Bool) (s : State) : s.Keeps (State.handUnless own s) := by
  cases own
  · exact s.handAllReady_keeps
  · exact .refl s

/-- Entering ready counts for every class enters them all, and changes no other field. -/
theorem State.setReadys_eq (f : ClassNo → Nat) (s : State) :
    allClasses.foldl (fun t c => t.setReady c (f c)) s = { s with disp := { s.disp with ready := Vector.ofFn f } } := by
  have step : ∀ (cs : List ClassNo) (t : State), cs.foldl (fun t c => t.setReady c (f c)) t =
      { t with disp := { t.disp with ready := Vector.ofFn fun k => if k ∈ cs then f k else t.disp.ready[k] } } := by
    intro cs
    induction cs with
    | nil => intro t; simp [Vector.ofFn_getElem]
    | cons c cs ih =>
      intro t
      have hready : (Vector.ofFn fun k => if k ∈ cs then f k else (t.setReady c (f c)).disp.ready[k]) =
          Vector.ofFn fun k => if k ∈ c :: cs then f k else t.disp.ready[k] := by
        refine Vector.ext fun i hi => ?_
        by_cases hc : c.val = i
        · subst hc; simp [State.setReady]
        · have hne : (⟨i, hi⟩ : ClassNo) ≠ c := fun h => hc (by rw [← h])
          simp [State.setReady, hc, hne]
      rw [List.foldl_cons, ih, hready]
      rfl
  rw [step]
  simp [mem_allClasses]

/-- The end of an event of the dispatcher's own, in which the register was kept and the terms of the named classes alone
changed, keeps all (R117). -/
theorem State.KeepsRegister.closeEvent {s t : State} (h : s.KeepsRegister t) (cs : List ClassNo)
    (hs : t.disp.short = s.disp.short) (hl : t.link.shortSet = s.link.shortSet)
    (hc : ∀ c, c ∉ cs → t.isShort c = s.isShort c) : s.Keeps (t.closeEvent cs) := by
  simp only [State.closeEvent]
  rw [State.setReadys_eq]
  refine State.KeepsRegister.computeShorts
    (t := { t with disp := { t.disp with ready := Vector.ofFn t.readyCount } })
    (h.trans (.of_eq rfl rfl rfl)) _ hs hl fun c hn => ?_
  rw [List.mem_filter, not_and, Bool.or_eq_true, not_or] at hn
  obtain ⟨hready, hncs⟩ := hn (mem_allClasses c)
  rw [← hc c (by simpa using hncs)]
  exact State.isShort_congr rfl (by simpa using hready) rfl rfl rfl

theorem State.Keeps.closeEvent {s t : State} (h : s.Keeps t) : s.Keeps (t.closeEvent []) :=
  h.trans (State.KeepsRegister.closeEvent (.of_eq rfl rfl rfl) [] rfl rfl fun _ _ => rfl)

end Sys2Proof.Machine
end

section
/-! SUPPORT. The operations of sessions, faults, identification, evaluation and good reports keep the register and the
shortages (R10, R117). -/

namespace Sys2Proof.Machine

/-- An operation that leaves the books alone may follow. -/
theorem State.Keeps.quiet {s t u : State} (h : s.Keeps t) (hu : u.books = t.books) : s.Keeps u :=
  h.trans (.of_books hu)

/-- What keeps all may come after what does. -/
theorem State.Keeps.after {s t u : State} (h' : t.Keeps u) (h : s.Keeps t) : s.Keeps u := h.trans h'

/-- What keeps all may come after what leaves the books alone. -/
theorem State.Keeps.onBooks {s t u : State} (h' : t.Keeps u) (ht : t.books = s.books) : s.Keeps u :=
  (State.Keeps.of_books ht).trans h'

section
variable (s : State) (b : BayNo)

/-! ## Faults -/

theorem State.quarantinePack_keeps (t : Nat) (k : FaultKind) : s.Keeps (s.quarantinePack t k) := by
  unfold State.quarantinePack
  split
  · split
    · exact s.modPack_savePack_keeps t fun _ => rfl
    · exact .refl s
  · exact .refl s

theorem State.quarantineFor_keeps (ks : List FaultKind) : s.Keeps (s.quarantineFor b ks) := by
  unfold State.quarantineFor
  split
  · exact s.quarantinePack_keeps _ _
  · exact .refl s

theorem State.cancelPart_keeps : s.Keeps (s.cancelPart b) :=
  .quiet (.foldl (fun s t => s.setMark_keeps t none) _ s) rfl

/-- A latch keeps all (R143, R144). -/
theorem State.latch_keeps (k : FaultKind) (ks : List FaultKind) (n : Option Nat) (c : Option ClassNo) (own : Bool) :
    s.Keeps (s.latch b k ks n c own) := by
  simp only [State.latch]
  refine State.Keeps.quiet ?_ (State.relevel_books _ b)
  refine (State.handUnless_keeps own _).after ?_
  refine State.Keeps.quiet ?_ ((State.moveTo_books _ b .fault).trans (State.modBay_books _ b _))
  refine (State.quarantineFor_keeps _ b _).after ?_
  refine State.Keeps.quiet ?_ (State.endSession_books _ b)
  refine (State.saveChargesAt_keeps _ b).after ?_
  split
  · exact (State.cancelPart_keeps _ b).onBooks rfl
  · exact .of_books rfl

theorem State.joinFault_keeps (k : FaultKind) : s.Keeps (s.joinFault b k) := by
  unfold State.joinFault
  split
  · exact .refl s
  · split
    · exact .refl s
    · exact (State.quarantineFor_keeps _ b [k]).onBooks rfl

theorem State.raiseFault_keeps (k : FaultKind) : s.Keeps (s.raiseFault b k) := by
  unfold State.raiseFault
  split
  · exact s.joinFault_keeps b k
  · exact s.latch_keeps b k [] none none false

/-! ## Session start and the return from RELEASE -/

theorem State.startSession_keeps (toCharge warm own : Bool) : s.Keeps (s.startSession b toCharge warm own) := by
  unfold State.startSession
  split
  · exact s.latch_keeps b .profile [] none none own
  · split <;> exact .of_books (by simp)

theorem State.startByCharge_keeps (warm own : Bool) : s.Keeps (s.startByCharge b warm own) :=
  s.startSession_keeps b _ warm own

theorem State.returnToMaintain_keeps : s.Keeps (s.returnToMaintain b) := by
  unfold State.returnToMaintain
  split
  · exact s.latch_keeps b .profile [] none none true
  · split <;> exact .of_books (by simp)

theorem State.returnFromRelease_keeps : s.Keeps (s.returnFromRelease b) := by
  unfold State.returnFromRelease
  split
  · exact s.returnToMaintain_keeps b
  · exact .of_books (by simp)
  · exact .refl s

/-! ## Identification -/

theorem PackRec.docked_key (r : PackRec) (b : BayNo) (ch : Option Chemistry) : (r.docked b ch).key = r.key := rfl

theorem State.acceptKnown_keeps (t : Nat) : s.Keeps (s.acceptKnown b t) := by
  unfold State.acceptKnown
  split
  · exact .refl s
  · refine State.Keeps.trans ?_ (State.modPack_savePack_keeps _ t fun r => r.docked_key b _)
    split <;> exact .of_books (by simp)

theorem State.goOn_keeps (tm : Int) : s.Keeps (s.goOn b tm) := by
  unfold State.goOn
  split
  · exact .refl s
  · split
    · exact .of_books (by simp)
    · exact s.startByCharge_keeps b false false

/-- A verdict that registers a pack is of a tag without a record, in a register with room (R15). -/
theorem State.verdict_registers {rep : Report} {t : Nat} {c : ClassNo} (h : s.verdict b rep = .accepted t c false) :
    s.pack t = none ∧ s.register.packs.length < Config.maxPacks := by
  unfold State.verdict at h
  split at h
  · split at h
    · unfold State.knownVerdict at h
      split at h
      · cases h
      · split at h
        · cases h
        · split at h <;> cases h
    · next hn =>
      unfold State.unknownVerdict at h
      split at h
      · cases h
      · split at h
        · cases h
        · split at h
          · unfold State.anonymousVerdict at h
            split at h <;> cases h
          · next hfull =>
            cases h
            exact ⟨hn, by simpa [State.registerFull] using hfull⟩
  · unfold State.anonymousVerdict at h
    split at h <;> cases h

/-- Acting on a verdict keeps all, where a registering one is of a tag without a record and finds room. -/
theorem State.actOnVerdict_keeps (tm : Int) (v : Verdict)
    (hv : ∀ t c, v = .accepted t c false → s.pack t = none ∧ s.register.packs.length < Config.maxPacks) :
    s.Keeps (s.actOnVerdict b tm v) := by
  unfold State.actOnVerdict
  split
  · next t _ => exact (State.goOn_keeps _ b tm).after ((s.acceptKnown_keeps b t).quiet rfl)
  · next t c =>
    obtain ⟨hn, hroom⟩ := hv t c rfl
    exact (State.goOn_keeps _ b tm).after ((s.addPack_keeps (PackRec.fresh t c (.bay b)) hn hroom).quiet rfl)
  · next t _ => exact (s.acceptKnown_keeps b t).quiet (by simp)
  · exact (State.goOn_keeps _ b tm).onBooks rfl
  · exact s.latch_keeps b .mismatch [] none none false
  · exact s.latch_keeps b .duplicate [] none _ false

/-- The same for a verdict of an earlier state of the same register. -/
theorem State.actOnVerdict_keeps_of_verdict {s t : State} (ht : t.books = s.books) (tm : Int) (rep : Report) :
    t.Keeps (t.actOnVerdict b tm (s.verdict b rep)) :=
  t.actOnVerdict_keeps b tm _ fun g c h => by
    have hs := s.verdict_registers b h
    rwa [State.pack, State.register_of_books ht]

theorem State.identify_keeps (rep : Report) : s.Keeps (s.identify b rep) := by
  unfold State.identify
  split
  · split
    · exact (State.actOnVerdict_keeps_of_verdict b (s.raise_books _) _ rep).onBooks rfl
    · exact State.actOnVerdict_keeps_of_verdict b rfl _ rep
  · simp only
    split
    · exact (State.actOnVerdict_keeps_of_verdict b (s.modBay_books b _) _ rep).onBooks rfl
    · exact .of_books rfl

/-! ## Evaluation -/

theorem State.leaveStage_keeps (st : Stage) : s.Keeps (s.leaveStage b st) := by
  unfold State.leaveStage
  split
  · exact s.resetEqualizeAt_keeps b
  · exact .refl s

theorem State.goOnInCharge_keeps : s.Keeps (s.goOnInCharge b) := by
  unfold State.goOnInCharge
  split
  · exact (State.handAllReady_keeps _).onBooks (by simp)
  · exact .of_books (by simp)

theorem State.doGoto_keeps (st : Stage) (k : StageNo) : s.Keeps (s.doGoto b st k) := by
  simp only [State.doGoto]
  split
  · exact (s.leaveStage_keeps b st).quiet (by simp)
  · exact (State.goOnInCharge_keeps _ b).after ((s.leaveStage_keeps b st).quiet (by simp))

theorem State.doCall_keeps (se : Session) (k : StageNo) (st : Stage) (j : StageNo) (r : Bool) :
    s.Keeps (s.doCall b se k st j r) := by
  unfold State.doCall
  split
  · exact s.latch_keeps b .profile [] none none false
  · exact (State.goOnInCharge_keeps _ b).after ((s.leaveStage_keeps b st).quiet (by simp))

theorem State.doReturn_keeps (se : Session) (st : Stage) : s.Keeps (s.doReturn b se st) := by
  unfold State.doReturn
  split
  · exact s.latch_keeps b .profile [] none none false
  · simp only
    split <;> exact (s.leaveStage_keeps b st).quiet (by simp)

theorem State.completeCharge_keeps (st : Stage) : s.Keeps (s.completeCharge b st) := by
  have h1 : s.Keeps ((((s.leaveStage b st).modSession b fun x =>
      { x with outcome := .complete, frames := [] }).saveChargeAt b)) :=
    ((s.leaveStage_keeps b st).quiet (by simp)).trans (State.saveChargeAt_keeps _ b)
  simp only [State.completeCharge]
  split <;> exact (State.handAllReady_keeps _).after (h1.quiet (by simp))

theorem State.doComplete_keeps (st : Stage) : s.Keeps (s.doComplete b st) := by
  unfold State.doComplete
  split
  · exact (s.leaveStage_keeps b st).quiet (by simp)
  · exact s.completeCharge_keeps b st

theorem State.takeAction_keeps (se : Session) (k : StageNo) (st : Stage) (a : Action) :
    s.Keeps (s.takeAction b se k st a) := by
  cases a with
  | goto j => exact s.doGoto_keeps b st j
  | callResume j => exact s.doCall_keeps b se k st j true
  | callRestart j => exact s.doCall_keeps b se k st j false
  | ret => exact s.doReturn_keeps b se st
  | complete => exact s.doComplete_keeps b st
  | fault n => exact s.latch_keeps b .profileStop [] (some n) none false

theorem State.evaluateAt_keeps (rep : Report) (prev : Nat) (on : Bool) (se : Session) (k : StageNo) (st : Stage)
    (cr : ClassRec) : s.Keeps (s.evaluateAt b rep prev on se k st cr) := by
  have h3 : ∀ se' fl, s.Keeps (s.enterEvaluation b se se' st cr rep prev fl) := fun se' fl =>
    (State.Keeps.of_books (State.modBay_books _ b _)).trans (State.setChargeAt_keeps _ b _)
  simp only [State.evaluateAt]
  split
  · exact (State.latch_keeps _ b .timeout [] none none false).after (h3 _ _)
  · split
    · refine State.Keeps.quiet ?_ ((State.modSession_books _ b _).trans (State.handOff_books _ b _ _ _))
      exact h3 _ _
    · refine State.Keeps.quiet ?_ (State.handOff_books _ b _ _ _)
      exact (State.takeAction_keeps _ b _ _ _ _).after (h3 _ _)

theorem State.evaluate_keeps (rep : Report) (prev : Nat) (on : Bool) : s.Keeps (s.evaluate b rep prev on) := by
  unfold State.evaluate
  split
  · split
    · exact s.evaluateAt_keeps b rep prev on _ _ _ _
    · exact .refl s
  · exact .refl s

theorem State.endAssess_keeps (rep : Report) (cr : ClassRec) : s.Keeps (s.endAssess b rep cr) := by
  simp only [State.endAssess]
  have h : s.Keeps ((s.setChargeAt b (estimateCharge cr rep.vm)).setKnownAt b) :=
    (State.setKnownAt_keeps _ b).after (s.setChargeAt_keeps b _)
  exact h.quiet (by simp)

/-! ## Confirming parts, and removals -/

theorem State.confirmPack_keeps (m t : Nat) : s.Keeps (s.confirmPack m t) := by
  unfold State.confirmPack
  split
  · exact .refl s
  · next r hr =>
    have hkey : ∀ x : PackRec, ({ x with place := .machine m, mark := none, lastMachine := some m } : PackRec).key
        = x.key :=
      fun _ => rfl
    have hin : r.key ∈ ((s.modPack t fun r => { r with
        place := .machine m, mark := none, lastMachine := some m }).savePack
        t).register.packs.map PackRec.key := by
      have hsave : ∀ u : State, (u.savePack t).register = u.register := fun u => by
        unfold State.savePack; split <;> rfl
      rw [hsave, State.modPack]
      simp only [List.map_map]
      refine List.mem_map.2 ⟨r, (mem_of_findPack hr).1, ?_⟩
      simp only [Function.comp_apply]
      split <;> rfl
    exact (State.saveCharge_keeps _ t).after ((s.modPack_savePack_keeps t hkey).trans (State.toTail_keeps _ r hin))

theorem State.confirmPacks_keeps (m : Nat) (ts : List Nat) : s.Keeps (s.confirmPacks m ts) :=
  .foldl (fun s t => s.confirmPack_keeps m t) ts s

theorem State.removalOf_keeps (manual : Bool) (i : Issue) : s.Keeps (s.removalOf b manual i) := by
  simp only [State.removalOf]
  split
  · exact .foldl (fun s t => s.setPlace_keeps t _) _ s
  · exact s.confirmPacks_keeps _ _

theorem State.takeRemoval_keeps : s.Keeps (s.takeRemoval b) := by
  simp only [State.takeRemoval]
  split
  · exact (s.removalOf_keeps b _ _).quiet rfl
  · exact .of_books rfl

theorem State.leftInIdentify_keeps : s.Keeps (s.leftInIdentify b) := by
  unfold State.leftInIdentify
  split
  · exact .of_books (by simp)
  · exact (s.loseAt_keeps b).quiet (by simp)

theorem State.loseIdentity_keeps : s.Keeps (s.loseIdentity b) := by
  unfold State.loseIdentity
  split
  · exact s.setPlace_keeps _ _
  · exact .refl s

theorem State.unexpectedRemoval_keeps : s.Keeps (s.unexpectedRemoval b) := by
  have h : s.Keeps ((s.endSession b).loseIdentity b) :=
    (State.loseIdentity_keeps _ b).onBooks (s.endSession_books b)
  exact (State.handAllReady_keeps _).after (h.quiet (by simp))

theorem State.releaseRemoval_keeps : s.Keeps (s.releaseRemoval b) :=
  (s.takeRemoval_keeps b).quiet (State.toVacant_books _ b)

theorem State.leftInFault_keeps : s.Keeps (s.leftInFault b) := by
  unfold State.leftInFault
  split
  · split
    · exact (State.loseAt_keeps _ b).onBooks rfl
    · exact .refl s
  · exact .refl s

/-! ## A good report -/

theorem State.reconcile_keeps (rep : Report) : s.Keeps (s.reconcile b rep) := by
  simp only [State.reconcile]
  split
  · exact .refl s
  · split
    · exact s.settleAt_keeps b _ _
    · exact (s.settleAt_keeps b _ _).quiet rfl

theorem State.absentAt_keeps : s.Keeps (s.absentAt b) := by
  unfold State.absentAt
  split
  · exact .refl s
  · exact s.leftInIdentify_keeps b
  · exact s.unexpectedRemoval_keeps b
  · exact s.unexpectedRemoval_keeps b
  · exact s.unexpectedRemoval_keeps b
  · exact s.unexpectedRemoval_keeps b
  · exact s.unexpectedRemoval_keeps b
  · exact s.releaseRemoval_keeps b
  · exact s.leftInFault_keeps b
  · exact .refl s

theorem State.presence_keeps (rep : Report) : s.Keeps (s.presence b rep) := by
  unfold State.presence
  split
  · exact .of_books (by simp)
  · exact s.absentAt_keeps b

theorem State.coolingTest_keeps (rep : Report) : s.Keeps (s.coolingTest b rep) := by
  unfold State.coolingTest
  split
  · exact .refl s
  · split
    · exact s.startByCharge_keeps b false false
    · exact .refl s

theorem State.restTest_keeps (rep : Report) : s.Keeps (s.restTest b rep) := by
  unfold State.restTest
  split
  · split
    · exact s.endAssess_keeps b rep _
    · exact .refl s
  · exact .refl s

theorem State.stateWork_keeps (rep : Report) (prev : Nat) (on : Bool) : s.Keeps (s.stateWork b rep prev on) := by
  unfold State.stateWork
  split
  · exact s.identify_keeps b rep
  · exact s.coolingTest_keeps b rep
  · exact s.restTest_keeps b rep
  · exact s.evaluate_keeps b rep prev on
  · exact s.evaluate_keeps b rep prev on
  · exact .refl s

theorem State.testsAndWork_keeps (rep : Report) (prev : Nat) (on answered : Bool) :
    s.Keeps (s.testsAndWork b rep prev on answered) := by
  simp only [State.testsAndWork]
  split
  · exact .foldl (fun s k => s.joinFault_keeps b k) _ s
  · split
    · exact s.stateWork_keeps b rep prev on
    · exact s.latch_keeps b _ _ none _ false

theorem State.goodReportAt_keeps (rep : Report) (on answered : Bool) : s.Keeps (s.goodReportAt b rep on answered) := by
  have h2 : s.Keeps (((s.modBay b fun y => { y with latest := some ⟨rep, s.now⟩ }).reconcile b rep).presence b rep) :=
    (State.presence_keeps _ b rep).after ((State.reconcile_keeps _ b rep).onBooks rfl)
  simp only [State.goodReportAt]
  refine State.Keeps.trans ?_ (State.handAllReady_keeps _)
  split
  · exact h2
  · exact h2.trans (State.testsAndWork_keeps _ b rep _ on answered)

theorem State.deliver_keeps (rep : Report) : s.Keeps (s.deliver b rep) := by
  simp only [State.deliver]
  split
  · exact .of_books (by simp)
  · exact (State.goodReportAt_keeps _ b rep _ _).onBooks (by simp)

theorem State.miss_keeps : s.Keeps (s.miss b) := by
  simp only [State.miss]
  split
  · exact .refl s
  · split
    · exact (State.raiseFault_keeps _ b .stageLost).onBooks rfl
    · exact .of_books rfl

theorem State.missSlot_keeps : s.Keeps (s.missSlot b) :=
  (State.miss_keeps _ b).onBooks s.endSlot_books

theorem State.answerSlot_keeps (bytes : List Byte) : s.Keeps (s.answerSlot b bytes) := by
  unfold State.answerSlot
  split
  · exact (State.deliver_keeps _ b _).onBooks s.endSlot_books
  · exact s.missSlot_keeps b

theorem State.receive_keeps (bytes : List Byte) : s.Keeps (s.receive bytes) := by
  unfold State.receive
  split
  · exact s.answerSlot_keeps _ _
  · exact .refl s

theorem State.timeoutSlot_keeps : s.Keeps s.timeoutSlot := by
  unfold State.timeoutSlot
  split
  · exact s.missSlot_keeps _
  · exact .refl s

theorem State.timeoutThird_keeps : s.Keeps s.timeoutThird := by
  unfold State.timeoutThird
  split
  · split
    · exact s.missSlot_keeps _
    · exact .refl s
  · exact .refl s

end

end Sys2Proof.Machine
end

section
/-! SUPPORT. The commands keep the register and the shortages (R10, R117): each at its owner, refused or taken. -/

namespace Sys2Proof.Machine

/-- What a whole event of the running part gives of the register and the shortages. Within READ ATTENTION and CLEAR the
set of
SHORT is emptied, so that only the classes that become short in the event are in it for sure (R178, R179, R181). -/
structure State.Advances (s t : State) : Prop extends s.KeepsRegister t where
  shortages : s.ShortagesOk → t.ShortagesOk
  raised : ∀ c : ClassNo, t.disp.short[c] = true → s.disp.short[c] = true ∨ t.link.shortSet[c] = true

theorem State.Keeps.advances {s t : State} (h : s.Keeps t) : s.Advances t := ⟨h.toKeepsRegister, h.shortages, h.raised⟩

/-- An event may end in what leaves the books alone. -/
theorem State.Advances.quiet {s t u : State} (h : s.Advances t) (hu : u.books = t.books) : s.Advances u where
  toKeepsRegister := h.toKeepsRegister.trans (State.Keeps.of_books hu).toKeepsRegister
  shortages k := (State.Keeps.of_books hu).shortages (h.shortages k)
  raised c hc := by
    rw [State.short_of_books hu] at hc
    rw [State.shortSet_of_books hu]
    exact h.raised c hc

/-- A property of the state that a taken command leaves. -/
def Answer.Leaves (P : State → Prop) : Answer → Prop
  | .refused _ => True
  | .taken t _ => P t

theorem Answer.Leaves.mono {P Q : State → Prop} {a : Answer} (h : a.Leaves P) (hPQ : ∀ t, P t → Q t) : a.Leaves Q := by
  cases a with
  | refused st => trivial
  | taken t cs => exact hPQ t h

section
variable (s : State)

/-! ## Settings -/

theorem State.applyLookahead_keeps (v : SiteSettings) : s.Keeps (s.applyLookahead v) := by
  simp only [State.applyLookahead]
  split
  · next h => exact .of_books (by simp [State.books, h])
  · exact State.KeepsRegister.computeAllShort (s := s)
      (t := { s with disp := { s.disp with lookahead := v.lookahead, window := v.window } }) (.of_eq rfl rfl rfl) rfl rfl

theorem takeSetSite_keeps (a : SiteArgs) : (takeSetSite a s).Leaves s.Keeps := by
  unfold takeSetSite
  split
  · trivial
  · next v _ =>
    refine State.Keeps.quiet ?_ (State.applyScanInterval_books _ v)
    exact (State.applyLookahead_keeps _ v).after ((s.write_site_keeps v).quiet (State.applySiteCap_books _ v))

theorem takeSetFeeder_keeps (f n : Nat) : (takeSetFeeder f n s).Leaves s.Keeps := by
  unfold takeSetFeeder
  split
  · trivial
  · next k _ =>
    have h : s.Keeps ((s.setFeederCap k (min n 600)).write (.feederCap k (min n 600))) :=
      (State.write_feederCap_keeps k _).onBooks rfl
    simp only [Answer.Leaves]
    split
    · exact h
    · exact h.quiet (State.pass_books _)

/-- A class record replaced and written keeps the register. -/
theorem State.setClassRec_keepsRegister (c : ClassNo) (r : ClassRec) : s.KeepsRegister (s.setClassRec c r) :=
  ⟨fun h => h.of_writes (ws := [.cls c r]) h.1 rfl rfl (by simp [StoreWrite.sound]),
    fun _ hy => hy.write (w := .cls c r) rfl rfl hy.1 hy.2.2⟩

theorem State.setClassRec_classRec (c k : ClassNo) (r : ClassRec) :
    (s.setClassRec c r).classRec k = if k = c then some r else s.classRec k := by
  unfold State.setClassRec State.classRec
  by_cases hk : k = c
  · subst hk; simp
  · simp [hk, Fin.val_inj, Ne.symm hk]

/-- Another class's record changes no class's shortage. -/
theorem State.setClassRec_isShort {c k : ClassNo} (hk : k ≠ c) (r : ClassRec) :
    (s.setClassRec c r).isShort k = s.isShort k :=
  State.isShort_congr (by rw [State.setClassRec_classRec, if_neg hk]) rfl rfl rfl rfl

theorem State.capCharge_keeps (n : Nat) (r : PackRec) : s.Keeps (s.capCharge n r) := by
  unfold State.capCharge
  split
  · exact (State.saveCharge_keeps _ _).after (s.modPack_keeps r.tag (f := fun p => { p with charge := n }) fun _ => rfl)
  · exact .refl s

/-- The records of a class cut to a limit: the first half of `State.capCharges`. -/
def State.capPacks (s : State) (c : ClassNo) (n : Nat) : State :=
  (s.register.packs.filter fun r => decide (r.cls = c)).foldl (fun t r => t.capCharge n r) s

theorem State.capCharges_eq (c : ClassNo) (n : Nat) :
    s.capCharges c n = (s.capPacks c n).setBays (Vector.ofFn fun b => ((s.capPacks c n).bay b).capAnonymous c n) := rfl

theorem State.capPacks_keeps (c : ClassNo) (n : Nat) : s.Keeps (s.capPacks c n) :=
  .foldl (fun s r => s.capCharge_keeps n r) _ s

theorem State.capCharges_keeps (c : ClassNo) (n : Nat) : s.Keeps (s.capCharges c n) := by
  rw [State.capCharges_eq]
  exact (s.capPacks_keeps c n).quiet (State.setBays_books _ _)

theorem State.coolEnds_keeps (b : BayNo) : s.Keeps (s.coolEnds b) :=
    (State.startByCharge_keeps _ b true false).onBooks rfl

theorem State.recool_keeps (n : Nat) (b : BayNo) : s.Keeps (s.recool n b) := by
  simp only [State.recool]
  split
  · exact .of_books rfl
  · split
    · exact s.coolEnds_keeps b
    · exact .of_books rfl

theorem State.capCharge_sansPacks (n : Nat) (r : PackRec) : (s.capCharge n r).sansPacks = s.sansPacks := by
  unfold State.capCharge
  split
  · rw [State.saveCharge_sansPacks, State.modPack_sansPacks]
  · rfl

theorem State.capPacks_sansPacks (c : ClassNo) (n : Nat) : (s.capPacks c n).sansPacks = s.sansPacks :=
  State.foldl_sansPacks (fun t r => t.capCharge_sansPacks n r) _ s

/-- Cutting a class's charges changes pack records and anonymous packs alone. -/
theorem State.capCharges_sansPacks (c : ClassNo) (n : Nat) : (s.capCharges c n).sansPacks =
    (s.setBays (Vector.ofFn fun b => (s.bay b).capAnonymous c n)).sansPacks := by
  have h := s.capPacks_sansPacks c n
  rw [State.capCharges_eq]
  generalize s.capPacks c n = u at h
  have hb : u.bay = s.bay := by
    funext b
    rw [State.bay, State.bays_of_sansPacks h, State.bay]
  rw [hb]
  exact congrArg (fun v => v.setBays (Vector.ofFn fun b => (s.bay b).capAnonymous c n)) h

theorem State.applyClass_keeps (c : ClassNo) (r : ClassRec) : s.Keeps (s.applyClass c r) := by
  have h1 : s.Keeps (((s.setClassRec c r).capCharges c (fullCharge r.capacity)).computeShort c) := by
    have h := (s.setClassRec c r).capCharges_sansPacks c (fullCharge r.capacity)
    refine State.KeepsRegister.computeShorts
      ((s.setClassRec_keepsRegister c r).trans (State.capCharges_keeps _ c _).toKeepsRegister) [c]
      (by rw [State.disp_of_sansPacks h, State.setBays_disp]; rfl)
      (by rw [State.link_of_sansPacks h, State.setBays_link]; rfl) fun k hk => ?_
    rw [State.isShort_of_sansPacks h, State.isShort_of_books (State.setBays_books _ _),
      s.setClassRec_isShort (by simpa using hk) r]
  simp only [State.applyClass]
  refine State.Keeps.after (t := ite _ _ _) (.foldl (fun t b => t.recool_keeps r.coolTimeout b) _ _) ?_
  split
  · exact h1
  · exact h1.quiet (State.pass_books _)

theorem takeSetClass_keeps (c : Nat) (a : ClassArgs) : (takeSetClass c a s).Leaves s.Keeps := by
  unfold takeSetClass
  split
  · trivial
  · split
    · trivial
    · split
      · trivial
      · exact s.applyClass_keeps _ _

/-- A record that differs in its OCV table alone leaves the class's shortage. -/
theorem State.setOcv_keeps {c : ClassNo} {r : ClassRec} (hr : s.classRec c = some r) (o : Option Ocv) :
    s.Keeps (s.setClassRec c { r with ocv := o }) := by
  refine State.KeepsRegister.computeShorts (s.setClassRec_keepsRegister c _) [] rfl rfl fun k _ => ?_
  by_cases hk : k = c
  · subst hk
    simp only [State.isShort, State.setClassRec_classRec, if_true, hr]
    rfl
  · exact s.setClassRec_isShort hk _

theorem takeSetOcv_keeps (c : Nat) (a : OcvArgs) : (takeSetOcv c a s).Leaves s.Keeps := by
  unfold takeSetOcv
  split
  · split
    · trivial
    · next hr =>
      split
      · trivial
      · exact s.setOcv_keeps hr _
  · trivial

theorem takeSetProfile_keeps (p : Nat) (a : ProfileArgs) : (takeSetProfile p a s).Leaves s.Keeps := by
  unfold takeSetProfile
  split
  · split
    · trivial
    · exact (State.write_header_keeps _ _).onBooks rfl
  · trivial

theorem takeSetStage_keeps (p k : Nat) (a : StageArgs) : (takeSetStage p k a s).Leaves s.Keeps := by
  unfold takeSetStage
  split
  · split
    · trivial
    · exact ((State.write_stage_keeps _ _ _).onBooks rfl).quiet (State.drawn_books _)
  · trivial

theorem takeShed_keeps (c d : Nat) : (takeShed c d s).Leaves s.Keeps := .of_books (State.applyShed_books _ _ _)

/-! ## Bay commands -/

theorem State.setCfg_keeps (b : BayNo) (g : BayCfg) : s.Keeps (s.setCfg b g) := (State.write_bayCfg_keeps b g).onBooks rfl

theorem State.maskOut_keeps (b : BayNo) : s.Keeps (s.maskOut b) := by
  simp only [State.maskOut]
  refine State.Keeps.quiet ?_ (State.checkRound_books _)
  exact (State.handAllReady_keeps _).onBooks (by simp)

theorem takeMaskBay_keeps (b : Nat) : (takeMaskBay b s).Leaves s.Keeps := by
  unfold takeMaskBay
  split
  · trivial
  · split
    · trivial
    · exact (State.maskOut_keeps _ _).after (s.setCfg_keeps _ _)

theorem takeUnmaskBay_keeps (b : Nat) : (takeUnmaskBay b s).Leaves s.Keeps := by
  unfold takeUnmaskBay
  split
  · trivial
  · split
    · trivial
    · exact (s.setCfg_keeps _ _).quiet (State.maskIn_books _ _)

theorem State.applyMasked_keeps (b : BayNo) (old new : Bool) : s.Keeps (s.applyMasked b old new) := by
  unfold State.applyMasked
  split
  · exact s.maskOut_keeps b
  · split
    · exact .of_books (s.maskIn_books b)
    · exact .refl s

theorem State.applyFeeder_books (b : BayNo) (old new : BayCfg) : (s.applyFeeder b old new).books = s.books := by
  unfold State.applyFeeder
  split <;> simp

theorem takeSetBay_keeps (b : Nat) (a : BayArgs) : (takeSetBay b a s).Leaves s.Keeps := by
  unfold takeSetBay
  split
  · split
    · trivial
    · refine State.Keeps.quiet ?_ (State.applyFeeder_books _ _ _ _)
      exact (State.applyMasked_keeps _ _ _ _).after (s.setCfg_keeps _ _)
  · trivial

theorem takeStopBay_keeps (b : Nat) : (takeStopBay b s).Leaves s.Keeps := by
  unfold takeStopBay
  split
  · trivial
  · split
    · trivial
    · refine (State.handAllReady_keeps _).after (State.Keeps.quiet ?_ (State.relevel_books _ _))
      exact State.Keeps.quiet (s.saveChargeAt_keeps _) (by rw [State.toStandby_books, State.endSession_books])

theorem takeStartBay_keeps (b : Nat) : (takeStartBay b s).Leaves s.Keeps := by
  unfold takeStartBay
  split
  · trivial
  · split
    · trivial
    · exact (State.handAllReady_keeps _).after (s.startByCharge_keeps _ false false)

theorem takeClearFault_keeps (b : Nat) : (takeClearFault b s).Leaves s.Keeps := by
  unfold takeClearFault
  split
  · trivial
  · split
    · split
      · trivial
      · exact .of_books (by simp [State.clearFaultAt])
    · trivial

/-! ## Issues and reservations -/

theorem State.releasePick_keeps (m : Nat) (p : Pick) : s.Keeps (State.releasePick m s p) := by
  unfold State.releasePick
  refine State.Keeps.quiet ?_ (State.toRelease_books _ _)
  split
  · exact s.setMark_keeps _ _
  · exact .refl s

theorem State.makeIssue_keeps (m : Nat) (c : Option ClassNo) (ps : List Pick) : s.Keeps (s.makeIssue m c ps) :=
  State.Keeps.quiet (.foldl (fun s p => s.releasePick_keeps m p) ps s) rfl

/-- The reservations of a class alone are its terms. -/
theorem State.setReservations_isShort {l : List Reservation} {k : ClassNo}
    (h : (l.filter fun v => decide (v.cls = k)) = s.disp.reservations.filter fun v => decide (v.cls = k)) :
    (s.setReservations l).isShort k = s.isShort k := by
  have hd : ∀ twin, (s.setReservations l).demand k twin = s.demand k twin := fun twin => by
    have split : ∀ (u : State) (r : List Reservation), (r.filter fun v => decide (v.cls = k) && u.counts v) =
        (r.filter fun v => decide (v.cls = k)).filter u.counts := fun u r => by
      rw [List.filter_filter]
      exact List.filter_congr fun v _ => Bool.and_comm _ _
    simp only [State.demand]
    rw [split, split, State.setReservations_reservations, h]
    rfl
  simp only [State.isShort, hd]
  rfl

/-- A consumed reservation leaves those of every class it is not of. -/
theorem consumeFirst_filter {p : Reservation → Bool} {c k : ClassNo} (hp : ∀ v, p v = true → v.cls = c) (hk : k ≠ c)
    (l : List Reservation) : ((consumeFirst p l).1.filter fun v => decide (v.cls = k)) =
      l.filter fun v => decide (v.cls = k) := by
  induction l with
  | nil => rfl
  | cons v vs ih =>
    unfold consumeFirst
    split
    · next hv =>
      have hvk : v.cls ≠ k := fun h => hk (h ▸ hp v hv)
      split <;> simp [hvk]
    · simp [List.filter_cons, ih]

theorem insertByDue_filter {v : Reservation} {k : ClassNo} (hk : v.cls ≠ k) (l : List Reservation) :
    ((insertByDue v l).filter fun v => decide (v.cls = k)) = l.filter fun v => decide (v.cls = k) := by
  induction l with
  | nil => simp [insertByDue, hk]
  | cons w ws ih =>
    unfold insertByDue
    split
    · simp [List.filter_cons, ih]
    · simp [hk]

theorem takeIssueClass_keeps (m c : Nat) : (takeIssueClass m c s).Leaves s.Keeps := by
  unfold takeIssueClass
  split
  · next c _ _ =>
    split
    · trivial
    · split
      · trivial
      · simp only
        split
        · trivial
        · refine State.Keeps.quiet ?_ (State.drawn_books _)
          simp only [State.issueClass]
          refine (s.makeIssue_keeps m (some c) ((s.selection c).filterMap PackRec.pick?)).trans ?_
          generalize s.makeIssue m (some c) ((s.selection c).filterMap PackRec.pick?) = u
          refine State.KeepsRegister.closeEvent (s := u)
            (t := u.setReservations (consumeFirst (u.consumable c) u.disp.reservations).1)
                (.of_eq rfl rfl rfl) [c] rfl rfl
            fun k hk => ?_
          exact State.setReservations_isShort _ (consumeFirst_filter (c := c)
            (fun v hv => by simp only [State.consumable, Bool.and_eq_true, decide_eq_true_eq] at hv; exact hv.1)
            (by simpa using hk) _)
  · trivial

theorem takeIssueBay_keeps (m b : Nat) (b' : Option Nat) : (takeIssueBay m b b' s).Leaves s.Keeps := by
  unfold takeIssueBay
  split
  · split
    · trivial
    · split
      · trivial
      · split
        · trivial
        · split
          · trivial
          · exact (s.makeIssue_keeps m none _).closeEvent
  · trivial

theorem State.confirmIssue_keeps (i : Issue) : s.Keeps (s.confirmIssue i) := by
  simp only [State.confirmIssue]
  exact (s.confirmPacks_keeps _ _).quiet rfl

theorem takeConfirm_keeps (m : Nat) : (takeConfirm m s).Leaves s.Keeps := by
  unfold takeConfirm
  split
  · trivial
  · split
    · trivial
    · split
      · trivial
      · exact s.confirmIssue_keeps _

theorem takeConfirmNext_keeps : (takeConfirmNext s).Leaves s.Keeps := by
  unfold takeConfirmNext
  split
  · trivial
  · exact s.confirmIssue_keeps _

theorem State.endPart_keeps (p : Part) : s.Keeps (s.endPart p) := by
  unfold State.endPart
  split
  · exact (State.returnFromRelease_keeps _ _).after (s.setMark_keeps _ none)
  · exact s.returnFromRelease_keeps _
  · next t _ _ =>
    exact State.Keeps.quiet ((State.setPlace_keeps _ t .unaccounted).after (s.setMark_keeps t none)) rfl
  · exact .refl s
  · exact .refl s

theorem State.endIssue_keeps (i : Issue) : s.Keeps (s.endIssue i) :=
  State.Keeps.onBooks (.foldl (fun s p => s.endPart_keeps p) i.parts _) rfl

theorem takeCancelIssue_keeps (m : Nat) : (takeCancelIssue m s).Leaves s.Keeps := by
  unfold takeCancelIssue
  split
  · trivial
  · split
    · trivial
    · exact (s.endIssue_keeps _).closeEvent

theorem State.lapse_keeps (m : Nat) : s.Keeps (s.lapse m) := by
  unfold State.lapse
  split
  · exact .refl s
  · exact ((s.endIssue_keeps _).quiet (State.raise_books _ .lapsed)).closeEvent

theorem takeReserve_keeps (c m d : Nat) : (takeReserve c m d s).Leaves s.Keeps := by
  unfold takeReserve
  split
  · trivial
  · next c _ =>
    split
    · trivial
    · split
      · trivial
      · split
        · trivial
        · exact State.KeepsRegister.computeShorts (s := s)
            (t := s.setReservations (insertByDue ⟨c, m, s.minute + d⟩ s.disp.reservations))
                (.of_eq rfl rfl rfl) [c] rfl rfl
            fun k hk => State.setReservations_isShort s (insertByDue_filter (v := ⟨c, m, s.minute + d⟩)
                (by simpa [eq_comm] using hk) _)

theorem takeDropReservations_keeps (c : Nat) : (takeDropReservations c s).Leaves s.Keeps := by
  unfold takeDropReservations
  split
  · trivial
  · next c _ =>
    refine State.KeepsRegister.computeShorts (s := s)
      (t := s.setReservations (s.disp.reservations.filter fun v => decide (v.cls ≠ c))) (.of_eq rfl rfl rfl) [c] rfl rfl
      fun k hk => s.setReservations_isShort ?_
    rw [List.filter_filter]
    refine List.filter_congr fun v _ => ?_
    have hkc : k ≠ c := by simpa using hk
    by_cases hv : v.cls = k
    · simp [hv, hkc]
    · simp [hv]

/-! ## Pack commands -/

theorem takeRegisterPack_keeps (t c m : Nat) : (takeRegisterPack t c m s).Leaves s.Keeps := by
  unfold takeRegisterPack
  split
  · split
    · trivial
    · split
      · trivial
      · next hn =>
        split
        · trivial
        · split
          · trivial
          · next hfull =>
            exact s.addPack_keeps (PackRec.fresh t _ _) (Option.not_isSome_iff_eq_none.1 hn)
                (by simpa [State.registerFull] using hfull)
  · trivial

theorem takeRemovePack_keeps (t : Nat) : (takeRemovePack t s).Leaves s.Keeps := by
  unfold takeRemovePack
  split
  · trivial
  · split
    · trivial
    · next r hr =>
      split
      · trivial
      · exact s.deletePack_keeps (by rw [(mem_of_findPack hr).2]; exact hr)

theorem takeReleasePack_keeps (t : Nat) : (takeReleasePack t s).Leaves s.Keeps := by
  unfold takeReleasePack
  split
  · trivial
  · split
    · trivial
    · split
      · trivial
      · exact (State.handAllReady_keeps _).after (s.modPack_savePack_keeps t fun _ => rfl)

theorem takeAssignPack_keeps (t m : Nat) : (takeAssignPack t m s).Leaves s.Keeps := by
  unfold takeAssignPack
  split
  · trivial
  · split
    · trivial
    · split
      · exact s.setPlace_keeps t _
      · trivial

/-! ## Attention and CLEAR -/

theorem takeReadAttention_advances : (takeReadAttention s).Leaves s.Advances :=
  ⟨.of_eq rfl rfl rfl, fun k c => k c, fun _ hc => .inl hc⟩

theorem takeSetAttentionMask_keeps (m : Vector Nat 8) : (takeSetAttentionMask m s).Leaves s.Keeps := by
  unfold takeSetAttentionMask
  split
  · trivial
  · exact (State.write_mask_keeps _).onBooks rfl

theorem State.clearCharges_keeps : s.Keeps s.clearCharges := .foldl (fun s b => s.saveChargeAt_keeps b) _ s

theorem State.clearMarks_keeps : s.Keeps s.clearMarks := s.mapPacks_keeps
    (f := fun r => { r with mark := none }) fun _ => rfl

/-- The lists emptied, a class's terms change, but the register is kept. -/
theorem State.clearLists_keepsRegister : s.KeepsRegister s.clearLists := by
  have h := State.Keeps.after (.foldl (fun u g => u.setPlace_keeps g .unaccounted)
    (s.tagsOfParts fun p => decide (p.state = .taken)) _) s.clearMarks_keeps
  exact h.toKeepsRegister.trans (.of_eq rfl rfl rfl)

theorem State.clearLists_sansPacks : s.clearLists.sansPacks = ((s.setIssues []).setReservations []).sansPacks := by
  have h := State.foldl_sansPacks (fun u g => u.setPlace_sansPacks g .unaccounted)
    (s.tagsOfParts fun p => decide (p.state = .taken)) s.clearMarks
  exact congrArg (fun u => (u.setIssues []).setReservations []) h

/-- The order of CLEAR's effects before its last computation: what the shared operations leave alone, and then that. -/
def State.clearedRack (s : State) : State :=
  (allBays.foldl State.relevel
    (allBays.foldl State.clearBay s.clearEdges.clearCharges.clearAlloc.clearLists.clearFaults)).pass

theorem State.clearAll_eq : s.clearAll = s.clearedRack.closeEvent allClasses := rfl

theorem State.clearedRack_books :
    s.clearedRack.books = s.clearEdges.clearCharges.clearAlloc.clearLists.books := by
  unfold State.clearedRack
  rw [State.pass_books, State.foldl_books State.relevel_books, State.foldl_books State.clearBay_books,
    State.clearFaults_books]

theorem State.clearedRack_keepsRegister : s.KeepsRegister s.clearedRack := by
  have h1 : s.clearEdges.Keeps s.clearEdges.clearCharges.clearAlloc := s.clearEdges.clearCharges_keeps.quiet rfl
  have h2 : s.KeepsRegister s.clearEdges := .of_eq rfl rfl rfl
  exact (h2.trans (h1.toKeepsRegister.trans (State.clearLists_keepsRegister _))).trans
    (State.Keeps.of_books s.clearedRack_books).toKeepsRegister

theorem State.clearCharges_sansPacks : s.clearCharges.sansPacks = s.sansPacks :=
  State.foldl_sansPacks (fun u b => u.saveChargeAt_sansPacks b) _ s

theorem State.clearedRack_short : s.clearedRack.disp.short = s.disp.short := by
  have h := State.disp_of_sansPacks s.clearEdges.clearCharges_sansPacks
  rw [State.short_of_books s.clearedRack_books, State.disp_of_sansPacks (State.clearLists_sansPacks _)]
  change s.clearEdges.clearCharges.disp.short = _
  rw [h]
  rfl

theorem takeClear_advances : (takeClear s).Leaves s.Advances := by
  have hshort : ∀ c, c ∈ allClasses.filter
      (fun c => decide (s.clearedRack.readyCount c ≠ s.clearedRack.disp.ready[c]) || decide (c ∈ allClasses)) :=
    fun c => List.mem_filter.2 ⟨mem_allClasses c, by simp [mem_allClasses c]⟩
  change s.Advances s.clearAll
  rw [State.clearAll_eq]
  have hr := s.clearedRack_keepsRegister
  have hs := s.clearedRack_short
  generalize s.clearedRack = u at hshort hr hs
  simp only [State.closeEvent]
  rw [State.setReadys_eq]
  have hk : u.KeepsRegister { u with disp := { u.disp with ready := Vector.ofFn u.readyCount } } := .of_eq rfl rfl rfl
  refine ⟨(hr.trans hk).trans (.foldl State.computeShort_keepsRegister _ _), fun _ c => ?_, fun c hc => ?_⟩
  · rw [State.computeShorts_short, State.computeShorts_isShort, if_pos (hshort c)]
  · exact (State.computeShorts_raised _ _ c hc).imp_left fun h => by rwa [← hs]

end

/-! ## Every command -/

/-- What the owner of any command does keeps the register and the shortages. -/
theorem ownerOf_advances {c : Instr} {f : State → Answer} (h : ownerOf c = some f) (s : State) :
    (f s).Leaves s.Advances := by
  have adv : ∀ {a : Answer}, a.Leaves s.Keeps → a.Leaves s.Advances := fun ha => ha.mono fun _ => State.Keeps.advances
  have same : ∀ {t : State} {cs : List Byte}, t.books = s.books → (Answer.taken t cs).Leaves s.Advances :=
    fun ht => (State.Keeps.of_books ht).advances
  cases c <;> simp only [ownerOf, Option.some.injEq, reduceCtorEq] at h <;> subst h
  case setSite a => exact adv (takeSetSite_keeps s a)
  case setFeeder f n => exact adv (takeSetFeeder_keeps s f n)
  case setClass c a => exact adv (takeSetClass_keeps s c a)
  case setOcv c a => exact adv (takeSetOcv_keeps s c a)
  case setProfile p a => exact adv (takeSetProfile_keeps s p a)
  case setStage p k a => exact adv (takeSetStage_keeps s p k a)
  case setBay b a => exact adv (takeSetBay_keeps s b a)
  case maskBay b => exact adv (takeMaskBay_keeps s b)
  case unmaskBay b => exact adv (takeUnmaskBay_keeps s b)
  case stopBay b => exact adv (takeStopBay_keeps s b)
  case startBay b => exact adv (takeStartBay_keeps s b)
  case clearFault b => exact adv (takeClearFault_keeps s b)
  case issueClass m c => exact adv (takeIssueClass_keeps s m c)
  case issueBay m b b' => exact adv (takeIssueBay_keeps s m b b')
  case confirm m => exact adv (takeConfirm_keeps s m)
  case confirmNext => exact adv (takeConfirmNext_keeps s)
  case cancelIssue m => exact adv (takeCancelIssue_keeps s m)
  case reserve c m d => exact adv (takeReserve_keeps s c m d)
  case dropReservations c => exact adv (takeDropReservations_keeps s c)
  case shed c d => exact adv (takeShed_keeps s c d)
  case registerPack t c m => exact adv (takeRegisterPack_keeps s t c m)
  case removePack t => exact adv (takeRemovePack_keeps s t)
  case releasePack t => exact adv (takeReleasePack_keeps s t)
  case assignPack t m => exact adv (takeAssignPack_keeps s t m)
  case readAttention => exact takeReadAttention_advances s
  case setAttentionMask m => exact adv (takeSetAttentionMask_keeps s m)
  case clear => exact takeClear_advances s
  case readBay b =>
    simp only [takeReadBay]
    split
    · trivial
    · exact same (State.drawn_books _)
  case readPack t =>
    simp only [takeReadPack]
    split
    · trivial
    · split
      · trivial
      · exact same rfl
  case readClass c =>
    simp only [takeReadClass]
    split
    · trivial
    · exact same rfl
  case readGrants f n =>
    simp only [takeReadGrants]
    split
    · trivial
    · exact same rfl
  case readIssues => exact same rfl
  case readReservations => exact same rfl
  case readFault b =>
    simp only [takeReadFault]
    split
    · trivial
    · exact same rfl

end Sys2Proof.Machine
end

section
/-! SUPPORT. What one row can do: a command at its owner, an event of the running part, or a row of the supply, the
RESET pin
or the restore. -/

namespace Sys2Proof.Machine

/-- What the running part does at a row that is an event of its own: nothing where the event's condition does not hold
(log entry 3). -/
def eventOf : Instr → Option (State → State)
  | .startupHoldEnd => some fun t => if t.holdDue = true then t.endHold else t
  | .depotMinuteAdvance => some fun t => if t.minuteDue = true then t.nextMinute else t
  | .reservationGraceExpiry => some fun t => if t.graceDue = true then t.dropOverdue.computeAllShort else t
  | .issueLapse m => some fun t => t.lapse m
  | .turnExpiry b => some fun t => if t.turnDue b = true then t.expireTurn b else t
  | .shedExpiry => some fun t => if t.shedDue = true then t.endShed else t
  | .coolExpiry b => some fun t => if t.coolDue b = true then (t.coolEnds b).handAllReady else t
  | .lostStageExpiry b => some fun t => if t.lostDue b = true then t.loseStage b else t
  | .roundStart => some fun t => if t.roundDue = true then t.beginRound else t
  | .regularPoll => some State.pollRegular
  | .promptPoll => some State.pollPrompt
  | .reportReceived bytes => some fun t => t.receive bytes
  | .pollSlotTimeout => some State.timeoutSlot
  | .thirdConsecutiveMiss => some State.timeoutThird
  | .frameComplete k body check => some fun t => if t.framing = true then t.completeFrame k body check else t
  | .frameDiscardedBusy => some fun t => if (t.framing && t.busy) = true then t.discardFrame else t
  | .byteGapTimeout => some fun t => if t.framing = true then t.setReceiver .hunt else t
  | .lengthOutOfRange l => some fun t => if (t.framing && badLength l) = true then t.setReceiver .hunt else t
  | .replySent => some fun t => { t with link := { t.link with reply := none } }
  | .startMarkerReceived => some fun t => if t.hunting = true then t.setReceiver .frame else t
  | _ => none

/-- Every row is a command at its owner, an event of the running part, or a power row. -/
theorem exec_cases (c : Instr) :
    (∃ k f, ownerOf c = some f ∧ ∀ s, exec c s = .next (s.command k f)) ∨
      (∃ f, eventOf c = some f ∧ ∀ s, exec c s = .next (s.event f)) ∨ powerRow c = true := by
  cases c
  case powerOn | powerLoss | resetPinAssert | resetPinRelease | restoreEnd => exact .inr (.inr rfl)
  case startupHoldEnd | depotMinuteAdvance | reservationGraceExpiry | issueLapse | turnExpiry | shedExpiry | coolExpiry |
      lostStageExpiry | roundStart | regularPoll | promptPoll | reportReceived | pollSlotTimeout | thirdConsecutiveMiss |
      frameComplete | frameDiscardedBusy | byteGapTimeout | lengthOutOfRange | replySent | startMarkerReceived =>
    exact .inr (.inl ⟨_, rfl, fun _ => rfl⟩)
  all_goals exact .inl ⟨_, _, rfl, fun _ => rfl⟩

/-- While the part does not run, every row but a power row leaves the state as it is, with its writes completed (R182). -/
theorem exec_of_not_running {c : Instr} (hc : powerRow c = false) {s : State} (h : s.running = false) :
    exec c s = .next s.settle := by
  rcases exec_cases c with ⟨k, f, -, he⟩ | ⟨f, -, he⟩ | hp
  · rw [he, State.command_of_not_running h]
  · rw [he, State.event_of_not_running h]
  · rw [hc] at hp; cases hp

/-- A relation between the state in which a row is taken and the state it leaves holds at every row of the running part,
where
it holds at every owner and every event but the arrival of a frame, and does not see the link's receiver and replies. -/
theorem exec_running {R : State → State → Prop} (hrefl : ∀ s, R s s)
    (hreply : ∀ s t k st cs, R s t → R s (t.reply k st cs)) (hreceiver : ∀ s r, R s (s.setReceiver r))
    (hdiscard : ∀ s, R s s.discardFrame) (howner : ∀ c f, ownerOf c = some f → ∀ s, (f s).Leaves (R s))
    (hevent : ∀ c f, eventOf c = some f → (∀ k b x, c ≠ .frameComplete k b x) → ∀ s, R s (f s))
    {c : Instr} (hc : powerRow c = false) {s : State} (h : s.running = true) :
    ∃ t, exec c s = .next t ∧ R s.settle t := by
  have answer : ∀ c f, ownerOf c = some f → ∀ u k, R u (u.answerWith k (f u)) := fun c f hf u k => by
    have hl := howner c f hf u
    cases ha : f u with
    | refused st => exact hreply u u k st [] (hrefl u)
    | taken t cs =>
      rw [ha] at hl
      exact hreply u t k .ok cs hl
  rcases exec_cases c with ⟨k, f, hf, he⟩ | ⟨f, hf, he⟩ | hp
  · refine ⟨_, he s, ?_⟩
    cases hb : s.busy
    · rw [State.command_of_accepts ⟨h, hb⟩]
      exact answer c f hf _ k
    · rw [State.command_of_busy h hb]
      exact hdiscard _
  · refine ⟨_, he s, ?_⟩
    rw [State.event_of_running h]
    by_cases hframe : ∃ k b x, c = .frameComplete k b x
    · obtain ⟨k, body, x, rfl⟩ := hframe
      cases hf
      dsimp only
      split
      · unfold State.completeFrame State.judge
        split
        · exact hreceiver _ _
        · split
          · exact hdiscard _
          · split
            · exact hreply _ _ k .check [] (hrefl _)
            · split
              · exact hreply _ _ k .kind [] (hrefl _)
              · exact hreply _ _ k .length [] (hrefl _)
              · split
                · next f hf => exact answer _ f hf _ k
                · exact hreply _ _ k .kind [] (hrefl _)
      · exact hrefl _
    · push Not at hframe
      exact hevent c f hf hframe _
  · rw [hc] at hp; cases hp

/-! ## The register and the shortages at every row -/

/-- An event that takes place under a condition, or nothing. -/
theorem State.Keeps.ite {s t : State} (h : s.Keeps t) (p : Prop) [Decidable p] : s.Keeps (if p then t else s) := by
  split
  · exact h
  · exact .refl s

theorem State.dropOverdue_keepsRegister (s : State) : s.KeepsRegister s.dropOverdue := by
  simp only [State.dropOverdue]
  split <;> exact .of_eq rfl rfl rfl

theorem State.dropOverdue_rest (s : State) :
    s.dropOverdue.disp.short = s.disp.short ∧ s.dropOverdue.link.shortSet = s.link.shortSet := by
  simp only [State.dropOverdue]
  split <;> exact ⟨rfl, rfl⟩

theorem State.dropOverdue_computeAllShort_keeps (s : State) : s.Keeps s.dropOverdue.computeAllShort :=
  s.dropOverdue_keepsRegister.computeAllShort s.dropOverdue_rest.1 s.dropOverdue_rest.2

theorem State.nextMinute_keeps (s : State) : s.Keeps s.nextMinute :=
  have h : s.KeepsRegister { s with minute := s.minute + 1 } := .of_eq rfl rfl rfl
  State.KeepsRegister.computeAllShort (h.trans (State.dropOverdue_keepsRegister _)) (State.dropOverdue_rest _).1
    (State.dropOverdue_rest _).2

/-- Every event of the running part keeps the register and the shortages. -/
theorem eventOf_keeps {c : Instr} {f : State → State} (h : eventOf c = some f)
    (hframe : ∀ k b x, c ≠ .frameComplete k b x)
    (s : State) : s.Keeps (f s) := by
  cases c <;> simp only [eventOf, Option.some.injEq, reduceCtorEq] at h <;> subst h
  case startupHoldEnd => exact (State.Keeps.of_books s.endHold_books).ite _
  case depotMinuteAdvance => exact s.nextMinute_keeps.ite _
  case reservationGraceExpiry => exact s.dropOverdue_computeAllShort_keeps.ite _
  case issueLapse m => exact s.lapse_keeps m
  case turnExpiry b => exact (State.Keeps.of_books (s.expireTurn_books b)).ite _
  case shedExpiry => exact (State.Keeps.of_books s.endShed_books).ite _
  case coolExpiry b => exact ((s.coolEnds_keeps b).trans (State.handAllReady_keeps _)).ite _
  case lostStageExpiry b => exact (State.Keeps.of_books (s.loseStage_books b)).ite _
  case roundStart => exact (State.Keeps.of_books s.beginRound_books).ite _
  case regularPoll => exact .of_books s.pollRegular_books
  case promptPoll => exact .of_books s.pollPrompt_books
  case reportReceived bytes => exact s.receive_keeps bytes
  case pollSlotTimeout => exact s.timeoutSlot_keeps
  case thirdConsecutiveMiss => exact s.timeoutThird_keeps
  case frameComplete k b x => exact absurd rfl (hframe k b x)
  case frameDiscardedBusy => exact (State.Keeps.of_books s.discardFrame_books).ite _
  case byteGapTimeout => exact (State.Keeps.of_books (s.setReceiver_books _)).ite _
  case lengthOutOfRange l => exact (State.Keeps.of_books (s.setReceiver_books _)).ite _
  case replySent => exact .of_books rfl
  case startMarkerReceived => exact (State.Keeps.of_books (s.setReceiver_books _)).ite _

/-- Every row of the running part but a power row keeps the register and the shortages. -/
theorem exec_advances {c : Instr} (hc : powerRow c = false) {s : State} (h : s.running = true) :
    ∃ t, exec c s = .next t ∧ s.settle.Advances t :=
  exec_running (R := State.Advances) (fun s => (State.Keeps.refl s).advances)
    (fun _ _ _ _ _ h => h.quiet (State.reply_books ..)) (fun s r =>
        (State.Keeps.of_books (s.setReceiver_books r)).advances)
    (fun s => (State.Keeps.of_books s.discardFrame_books).advances) (fun _ _ hf s => ownerOf_advances hf s)
    (fun _ _ hf hframe s => (eventOf_keeps hf hframe s).advances) hc h

/-! ## Completed writes and power rows -/

theorem State.running_iff (s : State) :
    s.running = true ↔ s.powered = true ∧ s.resetLow = false ∧ s.restoring = false := by
  simp [State.running, and_assoc]

theorem State.restores_iff (s : State) :
    s.restores = true ↔ s.powered = true ∧ s.resetLow = false ∧ s.restoring = true := by
  simp [State.restores, and_assoc]

theorem State.RegisterOk.settle {s : State} (h : s.RegisterOk) : s.settle.RegisterOk :=
  ⟨h.1, h.completed, fun w hw => by cases hw⟩

theorem State.RecordsFit.settle {s : State} (h : s.RecordsFit) : s.settle.RecordsFit := by
  obtain ⟨hlen, hcut, htags⟩ := h
  refine ⟨hlen, fun n _ => ?_, htags⟩
  have hall := hcut s.inFlight.length le_rfl
  rw [List.take_length] at hall
  simpa [State.settle, Store.applyAll] using hall

/-- While the part runs, that records fit says that register and store are in step. -/
theorem State.RecordsFit.synced {s : State} (h : s.RecordsFit) (hr : s.running = true) : s.Synced :=
  have ⟨hp, _, hn⟩ := s.running_iff.1 hr
  ⟨h.1, h.2.1, h.2.2 hp hn⟩

theorem State.Synced.recordsFit {s : State} (h : s.Synced) : s.RecordsFit := ⟨h.1, h.2.1, fun _ _ => h.2.2⟩

/-- The images after a first part of the writes fit, where they fit after every first part. -/
theorem State.RecordsFit.cut {s : State} (h : s.RecordsFit) (n : Nat) :
    (s.store.applyAll (s.inFlight.take n)).packs.length ≤ Config.maxPacks := by
  rcases Nat.le_total n s.inFlight.length with hn | hn
  · exact h.2.1 n hn
  · rw [List.take_of_length_le hn, ← s.inFlight.take_length]
    exact h.2.1 _ le_rfl

theorem State.RegisterOk.cut {s : State} (h : s.RegisterOk) (n : Nat) : (s.store.applyAll (s.inFlight.take n)).Sound :=
  h.2.1.applyAll fun w hw => h.2.2 w (List.mem_of_mem_take hw)

/-- What a row of the supply, the RESET pin or the restore gives of the register and the shortages. -/
structure State.Endures (s t : State) : Prop where
  agrees : s.RegisterOk → t.RegisterOk
  fits : s.RegisterOk → s.RecordsFit → t.RecordsFit
  shortages : s.ShortagesOk → t.ShortagesOk
  raised : ∀ c : ClassNo, t.disp.short[c] = true → s.disp.short[c] = true ∨ t.link.shortSet[c] = true

theorem State.settle_endures (s : State) : s.Endures s.settle :=
  ⟨State.RegisterOk.settle, fun _ => State.RecordsFit.settle, fun k c => k c, fun _ hc => .inl hc⟩

/-- A state without its working state, and with an image in its store that is sound and fits where the state is well. -/
theorem State.endures_of_blank {s t : State} (hw : t.register = ⟨Vector.replicate 8 none, [], Vector.replicate 8 []⟩)
    (hf : t.inFlight = []) (hd : t.disp = State.reset.disp) (hs : s.RegisterOk → t.store.Sound)
    (hl : s.RecordsFit → t.store.packs.length ≤ Config.maxPacks) (hrun : t.powered = true → t.restoring = true) :
    s.Endures t where
  agrees h := by
    refine ⟨?_, hs h, by simp [hf]⟩
    rw [hw]
    exact ⟨rfl, fun c => by simp⟩
  fits _ h := by
    refine ⟨by simp [hw], fun n _ => ?_, fun hp hr => ?_⟩
    · simpa [hf, Store.applyAll] using hl h
    · rw [hrun hp] at hr; cases hr
  shortages _ c := by
    have hc : t.classRec c = none := by simp [State.classRec, hw]
    simp [State.isShort, hc, hd, State.reset, State.bootFrom]
  raised c hc := by simp [hd, State.reset, State.bootFrom] at hc

theorem State.powerOn_endures (s : State) : s.Endures s.powerOn := by
  unfold State.powerOn
  split
  · exact s.settle_endures
  · refine State.endures_of_blank rfl rfl rfl (fun h => h.2.1) (fun h => ?_) fun _ => rfl
    change s.store.packs.length ≤ _
    simpa [Store.applyAll] using h.cut 0

theorem State.powerLoss_endures (s : State) (n : Nat) : s.Endures (s.powerLoss n) := by
  unfold State.powerLoss
  split
  · exact State.endures_of_blank rfl rfl rfl (fun h => h.cut n) (fun h => h.cut n) fun h => by cases h
  · exact ⟨id, fun _ => id, id, fun _ hc => .inl hc⟩

theorem State.resetAssert_endures (s : State) (n : Nat) : s.Endures (s.resetAssert n) := by
  unfold State.resetAssert
  split
  · exact s.settle_endures
  · split
    · exact State.endures_of_blank rfl rfl rfl (fun h => h.cut n) (fun h => h.cut n) fun _ => rfl
    · exact ⟨id, fun _ => id, id, fun _ hc => .inl hc⟩

theorem State.resetRelease_endures (s : State) : s.Endures s.resetRelease :=
  have h := s.settle_endures
  ⟨h.agrees, h.fits, h.shortages, h.raised⟩

/-! ## The restore -/

/-- A repaired rotation list holds, once each, the tags of the records of its class (R10, R25). -/
theorem mem_repairRotation {ps : List PackRec} {c : ClassNo} {l : List Nat} (t : Nat) :
    t ∈ repairRotation ps c l ↔ ∃ r ∈ ps, r.tag = t ∧ r.cls = c := by
  simp only [repairRotation, List.mem_append, List.mem_filter, List.any_eq_true, decide_eq_true_eq, List.mem_map]
  constructor
  · rintro (⟨-, h⟩ | ⟨r, ⟨hr, hc, -⟩, ht⟩)
    · exact h
    · exact ⟨r, hr, ht, hc⟩
  · rintro ⟨r, hr, rfl, hc⟩
    by_cases hl : r.tag ∈ l
    · exact .inl ⟨hl, r, hr, rfl, hc⟩
    · exact .inr ⟨r, ⟨hr, hc, hl⟩, rfl⟩

theorem nodup_repairRotation {ps : List PackRec} (hs : packsSorted ps = true) (c : ClassNo) {l : List Nat}
    (hl : l.Nodup) :
    (repairRotation ps c l).Nodup := by
  have htags : (ps.map (·.tag)).Nodup := ((packsSorted_iff ps).1 hs).imp fun h => h.ne
  refine List.Nodup.append (hl.filter _) (htags.sublist (List.filter_sublist.map _)) fun t ht ht' => ?_
  obtain ⟨r, hr, rfl⟩ := List.mem_map.1 ht'
  have hn := (List.mem_filter.1 hr).2
  simp only [decide_eq_true_eq] at hn
  exact hn.2 (List.mem_filter.1 ht).1

theorem Store.register_keys (img : Store) : img.register.packs.map PackRec.key = img.packs.map PackRec.key := by
  simp [Store.register, Function.comp_def, PackRec.restored, PackRec.key]

/-- The register restored from a sound image is in agreement (R25). -/
theorem Store.Sound.register_agrees {img : Store} (h : img.Sound) : img.register.Agrees := by
  have hk := img.register_keys
  rw [Register.agrees_iff, hk, tags_of_keys hk]
  refine ⟨(packsSorted_iff _).1 h.1, fun c => ?_⟩
  have hrot : img.register.rotation[c] = repairRotation img.packs c img.rotation[c] := by simp [Store.register]
  rw [hrot]
  exact ⟨nodup_repairRotation h.1 c (h.2 c), fun t => by rw [mem_repairRotation]; simp [PackRec.key]⟩

theorem Store.Sound.restoreWrites_sound {img : Store} (h : img.Sound) : ∀ w ∈ img.restoreWrites, w.sound = true := by
  intro w hw
  rcases List.mem_append.1 hw with hw | hw
  · obtain ⟨r, -, rfl⟩ := List.mem_map.1 hw
    rfl
  · obtain ⟨c, -, rfl⟩ := List.mem_map.1 hw
    simpa [StoreWrite.sound] using (h.register_agrees.2 c).1

/-- Writes of records that the images hold, and of rotation lists, leave the tags of the images. -/
theorem Store.applyAll_tags_of_known {st : Store} (h : st.Sound) {ws : List StoreWrite} (hs : ∀ w ∈ ws, w.sound = true)
    (hw : ∀ w ∈ ws, (∃ r, w = .pack r ∧ r.tag ∈ st.packs.map (·.tag)) ∨ ∃ c l, w = .rotation c l) :
    (st.applyAll ws).packs.map (·.tag) = st.packs.map (·.tag) := by
  induction ws generalizing st with
  | nil => rfl
  | cons w ws ih =>
    have htag : (st.apply w).packs.map (·.tag) = st.packs.map (·.tag) := by
      rcases hw w (List.mem_cons_self ..) with ⟨r, rfl, hr⟩ | ⟨c, l, rfl⟩
      · exact putPack_tags_of_mem h.1 hr
      · rfl
    have hsound := h.apply (hs w (List.mem_cons_self ..))
    refine (ih hsound (fun x hx => hs x (List.mem_cons_of_mem _ hx)) fun x hx => ?_).trans htag
    rw [htag]
    exact hw x (List.mem_cons_of_mem _ hx)

/-- Every first part of the restore's writes leaves the tags of the images. -/
theorem Store.Sound.restoreWrites_tags {img : Store} (h : img.Sound) (n : Nat) :
    (img.applyAll (img.restoreWrites.take n)).packs.map (·.tag) = img.packs.map (·.tag) := by
  refine Store.applyAll_tags_of_known h (fun w hw => h.restoreWrites_sound w (List.mem_of_mem_take hw)) fun w hw => ?_
  rcases List.mem_append.1 (List.mem_of_mem_take hw) with hw | hw
  · obtain ⟨r, hr, rfl⟩ := List.mem_map.1 hw
    refine .inl ⟨r, rfl, ?_⟩
    rw [← tags_of_keys img.register_keys]
    exact List.mem_map_of_mem (List.mem_filter.1 hr).1
  · obtain ⟨c, -, rfl⟩ := List.mem_map.1 hw
    exact .inr ⟨_, _, rfl⟩

theorem State.restored_registerOk {s : State} (h : s.store.Sound) : s.restored.RegisterOk :=
  ⟨h.register_agrees, h, h.restoreWrites_sound⟩

theorem State.restored_synced {s : State} (h : s.store.Sound) (hl : s.store.packs.length ≤ Config.maxPacks) :
    s.restored.Synced := by
  have htags := tags_of_keys s.store.register_keys
  refine ⟨?_, fun n _ => ?_, ?_⟩
  · have := congrArg List.length htags
    simp only [List.length_map] at this
    exact this.trans_le hl
  · have := congrArg List.length (h.restoreWrites_tags n)
    simp only [List.length_map] at this
    exact this.trans_le hl
  · have := h.restoreWrites_tags s.store.restoreWrites.length
    rw [List.take_length] at this
    exact this.trans htags.symm

theorem State.endRestore_endures (s : State) : s.Endures s.endRestore := by
  unfold State.endRestore
  split
  · have hbooks := s.settle.restored.checkRound_books
    have hk := (State.Keeps.of_books hbooks).toKeepsRegister.trans
      (State.computeAllShort_keepsRegister _)
    have hsound : s.RegisterOk → s.settle.store.Sound := fun h => h.completed
    refine ⟨fun h => hk.agrees (State.restored_registerOk (hsound h)), fun h hf => ?_,
      fun _ => State.computeAllShort_shortagesOk _, fun c hc => ?_⟩
    · refine (hk.synced (State.restored_registerOk (hsound h)) (State.restored_synced (hsound h) ?_)).recordsFit
      have := hf.cut s.inFlight.length
      rwa [List.take_length] at this
    · refine (State.computeAllShort_raised _ c hc).imp_left fun h => ?_
      rw [State.short_of_books hbooks] at h
      simp [State.restored, State.bootFrom] at h
  · exact s.settle_endures

/-! ## Every step -/

theorem exec_power_endures {c : Instr} (hp : powerRow c = true) {s t : State} (h : exec c s = .next t) : s.Endures t := by
  cases c with
  | powerOn => cases h; exact s.powerOn_endures
  | powerLoss n => cases h; exact s.powerLoss_endures n
  | resetPinAssert n => cases h; exact s.resetAssert_endures n
  | resetPinRelease => cases h; exact s.resetRelease_endures
  | restoreEnd => cases h; exact s.endRestore_endures
  | _ => cases hp

/-- Every row keeps the register and the shortages. -/
theorem exec_endures {c : Instr} {s t : State} (h : exec c s = .next t) : s.Endures t := by
  by_cases hp : powerRow c = true
  · exact exec_power_endures hp h
  · have hp : powerRow c = false := by simpa using hp
    cases hr : s.running
    · rw [exec_of_not_running hp hr] at h
      cases h
      exact s.settle_endures
    · obtain ⟨u, hu, hadv⟩ := exec_advances hp hr
      obtain rfl : u = t := by rw [h] at hu; cases hu; rfl
      have hs := s.settle_endures
      exact ⟨fun a => hadv.agrees (hs.agrees a),
        fun a f => (hadv.synced (hs.agrees a) ((hs.fits a f).synced hr)).recordsFit,
        fun k => hadv.shortages (hs.shortages k), fun c hc => hadv.raised c hc⟩

/-- The part with an empty queue keeps the register and the shortages. -/
theorem State.tick_endures (s : State) : s.Endures s.tick := by
  have same : ∀ {t : State}, t.register = s.register → t.store = s.store → t.inFlight = s.inFlight → t.disp = s.disp →
      t.link = s.link → t.minute = s.minute → t.powered = s.powered → t.restoring = s.restoring → s.Endures t := by
    intro t hg hs hw hd hl hm hp hr
    refine ⟨fun h => ?_, fun _ h => ?_, fun k c => ?_, fun c hc => .inl (by rwa [hd] at hc)⟩
    · simpa only [State.RegisterOk, hg, hs, hw] using h
    · simpa only [State.RecordsFit, hg, hs, hw, hp, hr] using h
    · rw [State.isShort_congr (s := s) (by simp only [State.classRec, hg]) (by rw [hd]) (by rw [hd]) hm (by rw [hd]), hd]
      exact k c
  unfold State.tick
  split
  · exact same rfl rfl rfl rfl rfl rfl rfl rfl
  · split
    · have h := s.settle_endures
      exact ⟨h.agrees, h.fits, h.shortages, h.raised⟩
    · exact same rfl rfl rfl rfl rfl rfl rfl rfl

/-- Every step keeps the register and the shortages. -/
theorem step_endures {s t : State} (h : step s = .next t) : s.Endures t := by
  unfold step at h
  split at h
  · cases h
    exact s.tick_endures
  · next cs _ =>
    have hq : s.Endures { s with pending := cs } := ⟨id, fun _ => id, id, fun _ hc => .inl hc⟩
    have he := exec_endures h
    exact ⟨fun a => he.agrees (hq.agrees a), fun a f => he.fits (hq.agrees a) (hq.fits a f),
      fun k => he.shortages (hq.shortages k), he.raised⟩

/-- Settles O56: every update of the running part keeps register and store in step, and the power rows leave a sound image
that fits. -/
theorem stepKeepsRegisterInAgreement : Obligations.StepKeepsRegisterInAgreement :=
  fun _ _ h hr => ⟨(step_endures h).agrees hr, (step_endures h).fits hr⟩

end Sys2Proof.Machine
end

section
/-! SUPPORT. Reset, the supply, the RESET pin and the restore (R21, R22, R25, R182, R184), with the statements about
them. -/

namespace Sys2Proof.Machine

/-- The bays of a state set from an image of the store. -/
@[simp] theorem State.bootFrom_bay (img : Store) (b : BayNo) : (State.bootFrom img).bay b = Bay.boot img.bayCfgs[b] := by
  simp [State.bootFrom, State.bay]

@[simp] theorem State.bootFrom_grant (img : Store) (b : BayNo) :
    (State.bootFrom img).grant b = Grant.boot img.bayCfgs[b] := by
  simp [State.bootFrom, State.grant]

@[simp] theorem State.bootFrom_faultRec (img : Store) (b : BayNo) : (State.bootFrom img).faultRec b = none := by
  simp [State.bootFrom, State.faultRec]

@[simp] theorem State.bootFrom_line (img : Store) (b : BayNo) : (State.bootFrom img).line b = LineRec.boot := by
  simp [State.bootFrom, State.line]

theorem State.reset_bay (b : BayNo) : State.reset.bay b = Bay.boot BayCfg.delivery := by
  simp [State.reset, Store.delivery]

theorem State.reset_grant (b : BayNo) : State.reset.grant b = Grant.boot BayCfg.delivery := by
  simp [State.reset, Store.delivery]

theorem State.reset_faultRec (b : BayNo) : State.reset.faultRec b = none := State.bootFrom_faultRec _ b
theorem State.reset_line (b : BayNo) : State.reset.line b = LineRec.boot := State.bootFrom_line _ b

theorem State.reset_flagSet (k : Cause) : State.reset.flagSet k = false := by
  cases k with
  | fault => simp [State.flagSet, State.faultBays, State.reset_faultRec]
  | short => simp [State.flagSet, State.reset, State.bootFrom]
  | _ => rfl

/-- Settles O3: reset is the working state set from the store as delivered. -/
theorem resetIsAsDelivered : Obligations.ResetIsAsDelivered := by
  unfold Obligations.ResetIsAsDelivered
  refine ⟨fun b => ⟨0, 0, State.reset_bay b⟩,
    fun b => ⟨State.reset_grant b, State.reset_faultRec b, State.reset_line b⟩, fun c => ?_, fun p => ?_,
    rfl, rfl, rfl, rfl, fun l => ?_, rfl, fun f => ?_, rfl, rfl, rfl, rfl, rfl, rfl, rfl, ?_, State.reset_flagSet,
    fun k => ?_, rfl, rfl, rfl, rfl, rfl, rfl, rfl, rfl, rfl, rfl, rfl, fun b => ?_, rfl, rfl, rfl⟩
  · simp [State.classRec, State.rotation, State.reset, State.bootFrom, Store.delivery]
  · simp [State.profile, Profile.stage, Profile.delivery, State.reset, State.bootFrom, Store.delivery]
  · simp [State.reset, State.bootFrom]
  · simp [State.feederCap, State.reset, State.bootFrom, Store.delivery]
  · simp [State.attnLow, State.reset_flagSet]
  · simp [State.reset, State.bootFrom, Store.delivery]
  · simp [State.reset, State.bootFrom, Store.delivery, BayCfg.delivery]

/-! ## The invariants at reset -/

theorem State.reset_classRec (c : ClassNo) : State.reset.classRec c = none := by
  simp [State.classRec, State.reset, State.bootFrom, Store.delivery]

theorem State.reset_grantTableOk : State.reset.GrantTableOk := by
  have hgrant (b : BayNo) : State.reset.grant b = ⟨0, 0, 0, 0, .hold, none, none, false⟩ := State.reset_grant b
  have hsum (l : List BayNo) : grantedSum l State.reset.grantedUnits = 0 := by
    simp [grantedSum, sumOver, State.grantedUnits, hgrant]
  refine ⟨fun l => ?_, ⟨?_, fun f => ?_, fun b => ?_⟩, fun b => ?_⟩
  · have hq : State.reset.alloc.queues[l] = [] := by simp [State.reset, State.bootFrom]
    simp [hq, hgrant]
  · simp [hsum]
  · simp [hsum]
  · simp [hgrant]
  · simp [hgrant]

theorem State.reset_registerOk : State.reset.RegisterOk := by
  refine ⟨⟨rfl, fun c => ?_⟩, ⟨rfl, fun c => ?_⟩, fun w hw => by cases hw⟩ <;>
    simp [State.reset, State.bootFrom, Store.delivery]

theorem State.reset_baysOk : State.reset.BaysOk := fun b => by
  simp [State.reset_bay, State.reset_grant, State.reset_faultRec, Bay.boot, Grant.boot, BayCfg.delivery, Bay.inSession]

theorem State.reset_floorsOk : State.reset.FloorsOk := by
  have hstore (c : ClassNo) : State.reset.store.classes[c] = none := by
    simp [State.reset, State.bootFrom, Store.delivery]
  refine ⟨fun b => by simp [State.reset_grant, Grant.boot], fun c => ?_, fun w hw => by cases hw⟩
  rw [State.reset_classRec, hstore]
  exact ⟨rfl, rfl⟩

theorem State.reset_recordsFit : State.reset.RecordsFit :=
  ⟨by simp [State.reset, State.bootFrom, Store.delivery],
    fun n _ => by simp [State.reset, State.bootFrom, Store.delivery, Store.applyAll], fun _ _ => rfl⟩

/-- Settles O4: every table of the reset state is empty or at its default, so each invariant is read off it. -/
theorem resetMeetsInvariants : Obligations.ResetMeetsInvariants := by
  refine ⟨⟨State.reset_grantTableOk, State.reset_registerOk, fun b => ?_, State.reset_baysOk, ?_, fun c => ?_⟩,
    fun b => ?_, State.reset_floorsOk, State.reset_recordsFit, fun c => ?_, fun b => ?_, nofun,
    fun b => ?_⟩
  · simp [State.reset_bay, Bay.boot, BayCfg.delivery, driveOf, Drive.reset]
  · exact ⟨Nat.zero_le _, .nil, Nat.zero_le _, .nil, .nil⟩
  · rw [State.isShort, State.reset_classRec]
    simp [State.reset, State.bootFrom]
  · simp [State.reset_grant, State.reset_bay, State.levelOf, Bay.boot, Grant.boot, BayCfg.delivery]
  · simp [State.readyCount, State.reset, State.bootFrom, Store.delivery]
  · simp [State.identityPlaced, State.reset_bay, Bay.boot]
  · simp [State.reset_line, State.reset_bay, LineRec.boot, Bay.boot, Drive.reset]

/-! ## The supply and the RESET pin -/

theorem State.powerOn_of_off {s : State} (h : s.powered = false) :
    s.powerOn = { s.blank with powered := true, restoring := true } := by simp [State.powerOn, h]

theorem State.powerLoss_of_on {s : State} (h : s.powered = true) (n : Nat) :
    s.powerLoss n = { (s.cutWrites n).blank with powered := false, restoring := false } := by simp [State.powerLoss, h]

theorem State.resetAssert_of_on {s : State} (h : s.powered = true) (hr : s.resetLow = false) (n : Nat) :
    s.resetAssert n = { (s.cutWrites n).blank with resetLow := true, restoring := true } := by
  simp [State.resetAssert, h, hr]

/-- Settles O10: each row by its own case, and every other row of a part that does not run by the case split of the
rows. -/
theorem supplyAndResetPin : Obligations.SupplyAndResetPin := by
  intro s
  refine ⟨fun h => ?_, fun h n => ?_, fun h hr n => ?_, fun h hr hs => ⟨s.resetRelease, rfl, ?_, ?_, rfl⟩,
    fun c hn hc => exec_of_not_running hc hn⟩
  · exact congrArg Host.Outcome.next (State.powerOn_of_off h)
  · exact congrArg Host.Outcome.next (State.powerLoss_of_on h n)
  · refine (congrArg Host.Outcome.next (State.resetAssert_of_on h hr n)).trans ?_
    rfl
  · simp [State.running, State.resetRelease, State.settle, hs]
  · simp [State.restores, State.resetRelease, State.settle, h, hs]

/-! ## Completed writes -/

theorem findPack_putCharge (ps : List PackRec) (g q x : Nat) :
    findPack (putCharge ps g q) x = (findPack ps x).map fun p => if x = g then { p with charge := q } else p := by
  induction ps with
  | nil => rfl
  | cons p ps ih =>
    by_cases hg : p.tag = g <;> by_cases hx : p.tag = x <;> simp_all [putCharge, findPack]

/-- The write of a record leaves every other image, and keeps the stored charge of its own (R21). -/
theorem findPack_putImage (ps : List PackRec) (r : PackRec) :
    (∀ x, x ≠ r.tag → findPack (putImage ps r) x = findPack ps x) ∧
      findPack (putImage ps r) r.tag = some { r with
        mark := none, charge := ((findPack ps r.tag).map (·.charge)).getD r.charge } :=
  ⟨fun _ hx => findPack_putPack_of_ne _ ps hx, findPack_putPack_self _ ps⟩

/-! ## Shortages computed while no bay charges -/

/-- Shortage states and the set of SHORT entered. -/
def State.setShorts (s : State) (v w : Vector Bool 8) : State :=
  { s with disp := { s.disp with short := v }, link := { s.link with shortSet := w } }

/-- With no bay in CHARGE a shortage computation has no level to recompute. -/
theorem State.computeShort_of_idle {s : State} (h : ∀ b, (s.bay b).state ≠ .charge) (c : ClassNo) :
    ∃ v w, s.computeShort c = s.setShorts v w := by
  have hnone : s.chargingOf c = [] := by simp [State.chargingOf, h]
  simp only [State.computeShort, hnone, List.foldl_nil]
  split
  · exact ⟨s.disp.short, s.link.shortSet, rfl⟩
  · split
    · exact ⟨_, _, rfl⟩
    · exact ⟨_, s.link.shortSet, rfl⟩

theorem State.computeShorts_of_idle {s : State} (h : ∀ b, (s.bay b).state ≠ .charge) (cs : List ClassNo) :
    ∃ v w, cs.foldl State.computeShort s = s.setShorts v w := by
  induction cs generalizing s with
  | nil => exact ⟨s.disp.short, s.link.shortSet, rfl⟩
  | cons c cs ih =>
    obtain ⟨v, w, hc⟩ := State.computeShort_of_idle h c
    rw [List.foldl_cons, hc]
    exact ih (s := s.setShorts v w) h

/-! ## The end of the restore -/

/-- The end of a round changes the walk and its overrun mark alone. -/
theorem State.checkRound_eq (s : State) :
    ∃ w o, s.checkRound = { s with scanner := { s.scanner with walk := w, overrun := o } } := by
  unfold State.checkRound
  split
  · exact ⟨_, _, rfl⟩
  · exact ⟨s.scanner.walk, s.scanner.overrun, rfl⟩

/-- After the restore the state is that set from the store, but for the walk and the shortages computed. -/
theorem State.endRestore_eq {s : State} (h : s.restores = true) : ∃ w o sh ss, s.endRestore =
    ({ s.settle.restored with
        scanner := { s.settle.restored.scanner with walk := w, overrun := o } } : State).setShorts sh ss := by
  obtain ⟨w, o, hround⟩ := s.settle.restored.checkRound_eq
  have hidle : ∀ b, (s.settle.restored.checkRound.bay b).state ≠ .charge := fun b => by
    rw [hround]
    simp only [State.bay, State.restored, State.bootFrom, Fin.getElem_fin, Vector.getElem_ofFn, Bay.boot]
    split <;> simp
  obtain ⟨sh, ss, hshort⟩ := State.computeShorts_of_idle hidle allClasses
  refine ⟨w, o, sh, ss, ?_⟩
  rw [State.endRestore, if_pos h, State.computeAllShort, hshort, hround]

theorem State.endRestore_shortagesOk {s : State} (h : s.restores = true) : s.endRestore.ShortagesOk := by
  rw [State.endRestore, if_pos h]
  exact State.computeAllShort_shortagesOk _

/-- After the restore every bay is empty and VACANT or MASKED, and asks for nothing (R28, R168). -/
theorem State.endRestore_rack {s : State} (h : s.restores = true) (b : BayNo) :
    (s.endRestore.bay b).cfg = s.settle.store.bayCfgs[b] ∧ (s.endRestore.bay b).reconcile = .restore ∧
      s.endRestore.faultRec b = none ∧
      (s.endRestore.bay b).state = (if (s.endRestore.bay b).cfg.masked then .masked else .vacant) ∧
      (s.endRestore.bay b).identity = .empty ∧ (s.endRestore.bay b).session = none ∧
      (s.endRestore.bay b).latest = none ∧ (s.endRestore.line b).misses = 0 ∧
      s.endRestore.grant b = ⟨0, 0, 0, (s.endRestore.bay b).cfg.baseLevel, .hold, none, none, false⟩ := by
  obtain ⟨w, o, sh, ss, ht⟩ := State.endRestore_eq h
  have hbay : s.endRestore.bay b = Bay.boot s.settle.store.bayCfgs[b] := by rw [ht]; exact State.bootFrom_bay _ b
  have hgrant : s.endRestore.grant b = Grant.boot s.settle.store.bayCfgs[b] := by rw [ht]; exact State.bootFrom_grant _ b
  have hfault : s.endRestore.faultRec b = none := by rw [ht]; exact State.bootFrom_faultRec s.settle.store b
  have hline : s.endRestore.line b = LineRec.boot := by rw [ht]; exact State.bootFrom_line s.settle.store b
  simp [hbay, hgrant, hfault, hline, Bay.boot, Grant.boot, LineRec.boot]

/-- A restored list is a part of the stored one, in its order, and then the tags that stand in no list (R25). -/
theorem repairRotation_parts (ps : List PackRec) (c : ClassNo) (l : List Nat) :
    ∃ kept added, repairRotation ps c l = kept ++ added ∧ kept.Sublist l ∧
      (∀ g ∈ l, g ∈ kept ↔ ∃ r ∈ ps, r.tag = g ∧ r.cls = c) ∧
      ∀ g, g ∈ added ↔ (g ∉ l ∧ ∃ r ∈ ps, r.tag = g ∧ r.cls = c) := by
  refine ⟨_, _, rfl, List.filter_sublist, fun g hg => ?_, fun g => ?_⟩
  · simp [hg]
  · simp only [List.mem_map, List.mem_filter, decide_eq_true_eq]
    constructor
    · rintro ⟨r, ⟨hr, hc, hl⟩, rfl⟩
      exact ⟨hl, r, hr, rfl, hc⟩
    · rintro ⟨hl, r, hr, rfl, hc⟩
      exact ⟨r, ⟨hr, hc, hl⟩, rfl⟩

/-- The restored records have the tags and classes of the images. -/
theorem exists_restored_iff (ps : List PackRec) (g : Nat) (c : ClassNo) :
    (∃ r ∈ ps.map PackRec.restored, r.tag = g ∧ r.cls = c) ↔ ∃ r ∈ ps, r.tag = g ∧ r.cls = c := by
  simp [PackRec.restored]

/-- Settles O11: the writes by their effect on one tag, the restore by the state it ends in. -/
theorem restoreSetsUpTheRack : Obligations.RestoreSetsUpTheRack := by
  refine ⟨fun st r g q l c => ⟨⟨_, rfl, findPack_putImage st.packs r⟩, ⟨_, rfl, findPack_putCharge st.packs g q⟩,
    ⟨_, rfl, fun x => findPack_dropPack g x st.packs⟩, rfl⟩,
    fun st v f cap c r p h k g b cfg m => ⟨rfl, rfl, rfl, rfl, rfl, rfl, rfl⟩, fun s h => ?_⟩
  obtain ⟨w, o, sh, ss, ht⟩ := State.endRestore_eq h
  have hshort := State.endRestore_shortagesOk h
  have hrack := State.endRestore_rack h
  refine ⟨s.endRestore, rfl, ?_⟩
  rw [ht] at hshort hrack ⊢
  refine ⟨rfl, rfl, rfl, rfl, rfl, rfl, rfl, rfl, rfl, rfl, ⟨rfl, rfl, rfl, rfl, rfl, rfl⟩, rfl, rfl, fun l => ?_, rfl,
    rfl, rfl, rfl, rfl, fun r hr hb => ?_, fun b => ?_, fun c => ⟨?_, hshort c⟩, fun hs c => ?_⟩
  · simp [State.setShorts, State.restored, State.bootFrom]
  · exact List.mem_append_left _ (List.mem_map_of_mem (List.mem_filter.2 ⟨hr, hb⟩))
  · exact hrack b
  · simp [State.setShorts, State.restored, State.bootFrom]
  · have hrot : (s.settle.restored).rotation c = repairRotation s.settle.store.packs c s.settle.store.rotation[c] := by
      simp [State.rotation, State.restored, Store.register]
    obtain ⟨kept, added, hparts, hsub, hkept, hadded⟩ :=
      repairRotation_parts s.settle.store.packs c s.settle.store.rotation[c]
    refine ⟨?_, kept, added, hrot.trans hparts, hsub, fun g hg => ?_, fun g => ?_⟩
    · change (s.settle.restored.rotation c).Nodup
      rw [hrot]
      exact nodup_repairRotation hs.1 c (hs.2 c)
    · exact (hkept g hg).trans (exists_restored_iff _ g c).symm
    · exact (hadded g).trans (and_congr_right fun _ => (exists_restored_iff _ g c).symm)

end Sys2Proof.Machine
end

section
/-! SUPPORT. Readiness (R11): what a ready count is computed from, and the hand-over of changed counts to the
dispatcher. -/

namespace Sys2Proof.Machine

/-! ## What a ready count follows from -/

/-- A drive has no part in whether a bay is fit for a ready pack. -/
theorem Bay.readyState_outline (y : Bay) : y.outline.readyState = y.readyState := rfl

section
variable {s t : State}

/-- The register of a state with this outline. -/
theorem State.register_of_outline (h : t.outline = s.outline) : t.register = s.register := by
  simpa [State.outline] using congrArg State.register h

theorem State.readyState_of_outline (h : t.outline = s.outline) (b : BayNo) :
    (t.bay b).readyState = (s.bay b).readyState := by
  rw [← Bay.readyState_outline, State.bay_outline_of_outline h b, Bay.readyState_outline]

/-- A pack is as ready where every bay is as fit for a ready pack. -/
theorem State.packReady_congr (h : ∀ b, (t.bay b).readyState = (s.bay b).readyState) (r : PackRec) :
    t.packReady r = s.packReady r := by
  have hp : t.readyPlace r.place = s.readyPlace r.place := by
    cases hr : r.place <;> simp [State.readyPlace, h]
  rw [State.packReady, State.packReady, hp]

/-- A change of records that keeps each one's class and readiness keeps every ready count. -/
theorem State.readyCount_of_map {f : PackRec → PackRec} (hp : t.register.packs = s.register.packs.map f)
    (h : ∀ r ∈ s.register.packs, (f r).cls = r.cls ∧ t.packReady (f r) = s.packReady r) (c : ClassNo) :
    t.readyCount c = s.readyCount c := by
  rw [State.readyCount, hp, List.filter_map, List.length_map, State.readyCount]
  refine congrArg List.length (List.filter_congr fun r hr => ?_)
  obtain ⟨hc, hready⟩ := h r hr
  simp [hc, hready]

/-- The same records and bays as fit for a ready pack give the same ready counts. -/
theorem State.readyCount_congr (hp : t.register.packs = s.register.packs)
    (hb : ∀ b, (t.bay b).readyState = (s.bay b).readyState) (c : ClassNo) : t.readyCount c = s.readyCount c :=
  State.readyCount_of_map (f := id) (by rw [hp, List.map_id]) (fun r _ => ⟨rfl, State.packReady_congr hb r⟩) c

theorem State.readyCount_of_outline (h : t.outline = s.outline) (c : ClassNo) : t.readyCount c = s.readyCount c :=
  State.readyCount_congr (congrArg Register.packs (State.register_of_outline h)) (State.readyState_of_outline h) c

end

/-! ## Handing counts over -/

theorem State.computeShort_readyCount (s : State) (c k : ClassNo) : (s.computeShort c).readyCount k = s.readyCount k :=
  State.readyCount_of_outline (s.computeShort_outline c) k

theorem State.handReady_readyCount (s : State) (c k : ClassNo) : (s.handReady c).readyCount k = s.readyCount k :=
  State.readyCount_of_outline (s.handReady_outline c) k

/-- A hand-over enters the ready count of its class, and no other. -/
theorem State.handReady_ready (s : State) (c k : ClassNo) :
    (s.handReady c).disp.ready[k] = if k = c then s.readyCount c else s.disp.ready[k] := by
  unfold State.handReady
  split
  · next h =>
    split
    · next hk => subst hk; exact h.symm
    · rfl
  · simp only [State.computeShort_ready]
    by_cases hk : k = c
    · subst hk; simp [State.setReady]
    · simp [State.setReady, hk, Fin.val_inj, Ne.symm hk]

theorem State.foldl_handReady_ready (cs : List ClassNo) (s : State) (k : ClassNo) :
    (cs.foldl State.handReady s).disp.ready[k] = if k ∈ cs then s.readyCount k else s.disp.ready[k] := by
  induction cs generalizing s with
  | nil => simp
  | cons c cs ih =>
    rw [List.foldl_cons, ih, State.handReady_readyCount, State.handReady_ready]
    by_cases hk : k = c <;> by_cases hcs : k ∈ cs <;> simp [hk, hcs]

/-- Once the changed counts are handed over, every ready count is handed over as it is. -/
theorem State.handAllReady_readyHanded (s : State) : s.handAllReady.ReadyHanded := fun c => by
  rw [State.readyCount_of_outline s.handAllReady_outline c, State.handAllReady, State.foldl_handReady_ready,
    if_pos (mem_allClasses c)]

/-- Where every count is handed over as it is, a hand-over does nothing. -/
theorem State.ReadyHanded.handAllReady {s : State} (h : s.ReadyHanded) : s.handAllReady = s := by
  have hone : ∀ c, s.handReady c = s := fun c => by rw [State.handReady, if_pos (h c).symm]
  have hall : ∀ cs : List ClassNo, cs.foldl State.handReady s = s := fun cs => by
    induction cs with
    | nil => rfl
    | cons c cs ih => rw [List.foldl_cons, hone, ih]
  exact hall allClasses

/-- The end of an event of the dispatcher's own enters every ready count. -/
theorem State.closeEvent_ready (s : State) (cs : List ClassNo) (c : ClassNo) :
    (s.closeEvent cs).disp.ready[c] = s.readyCount c := by
  simp only [State.closeEvent]
  simp only [State.computeShorts_ready, State.setReadys_eq]
  simp

theorem State.closeEvent_readyHanded (s : State) (cs : List ClassNo) : (s.closeEvent cs).ReadyHanded := fun c => by
  rw [State.closeEvent_ready, State.readyCount_of_outline (s.closeEvent_outline cs)]

end Sys2Proof.Machine
end

section
/-! SUPPORT. The commands on one record of the register: SET OCV, REGISTER PACK, REMOVE PACK, ASSIGN PACK and RELEASE PACK
(R4, R17 to R19, R155), with the statements about them. -/

namespace Sys2Proof.Machine

/-! ## A command at its owner -/

/-- A command that its owner takes leaves the owner's state with the reply. -/
theorem State.command_of_taken {s t : State} (h : s.accepts) {k : Byte} {f : State → Answer} {cs : List Byte}
    (hf : f s.settle = .taken t cs) : s.command k f = t.reply k .ok cs := by
  rw [State.command_of_accepts h, hf]
  rfl

/-- A command that its owner refuses is answered with the status alone. -/
theorem State.command_of_refused {s : State} (h : s.accepts) {k : Byte} {f : State → Answer} {st : Status}
    (hf : f s.settle = .refused st) : s.command k f = s.settle.reply k st [] := by
  rw [State.command_of_accepts h, hf]
  rfl

/-- A number below `k` is its own index. -/
@[simp] theorem index?_val {k : Nat} (i : Fin k) : index? k i.val = some i := by simp [index?]

@[simp] theorem State.settle_pack (s : State) (t : Nat) : s.settle.pack t = s.pack t := rfl
@[simp] theorem State.settle_classRec (s : State) (c : ClassNo) : s.settle.classRec c = s.classRec c := rfl
@[simp] theorem State.settle_tagSeen (s : State) (t : Nat) : s.settle.tagSeen t = s.tagSeen t := rfl
@[simp] theorem State.settle_registerFull (s : State) : s.settle.registerFull = s.registerFull := rfl
@[simp] theorem State.settle_classBusy (s : State) (c : ClassNo) : s.settle.classBusy c = s.classBusy c := rfl

theorem validTag_of {g : Nat} (h : 1 ≤ g) (h' : g ≤ 65534) : validTag g = true := by simp [validTag, between, h, h']

/-- A rotation list set is that class's list, and no other's. -/
theorem State.setRotation_rotation (s : State) (c k : ClassNo) (l : List Nat) :
    (s.setRotation c l).rotation k = if k = c then l else s.rotation k := by
  unfold State.setRotation State.rotation
  by_cases hk : k = c
  · subst hk; simp
  · simp [hk, Fin.val_inj, Ne.symm hk]

/-! ## SET OCV -/

theorem takeSetOcv_taken {s : State} {c : ClassNo} {a : OcvArgs} {r : ClassRec} {o : Ocv} (ho : readOcv a = some o)
    (hr : s.classRec c = some r) (hb : s.classBusy c = false) :
    takeSetOcv c.val a s = .taken (s.setClassRec c { r with ocv := some o }) [] := by
  simp [takeSetOcv, ho, hr, hb]

/-- Settles O26. -/
theorem setOcvReplacesItsTable : Obligations.SetOcvReplacesItsTable := by
  intro s c a r h hr hb h0 h1 h2 h3 h4 h5
  have ho : readOcv a = some ⟨a.p0, a.p1, a.p2, a.p3, a.p4⟩ := by simp [readOcv, h0, h1, h2, h3, h4, h5]
  exact congrArg Host.Outcome.next
    (State.command_of_taken h (takeSetOcv_taken (s := s.settle) ho hr hb))

/-! ## REGISTER PACK and REMOVE PACK -/

theorem takeRegisterPack_taken {s : State} {g m : Nat} {c : ClassNo} (hg : validTag g = true) (hm : m ≤ 999)
    (hc : (s.classRec c).isSome = true) (hn : s.pack g = none) (hseen : s.tagSeen g = false)
    (hroom : s.register.packs.length < 96) :
    takeRegisterPack g c.val m s = .taken (s.addPack (PackRec.fresh g c (registerPlace m))) (u2 g ++ [0]) := by
  have hclass : (s.classRec c).isNone = false := by cases hx : s.classRec c <;> simp_all
  have hfull : s.registerFull = false := decide_eq_false (not_le.2 hroom)
  simp [takeRegisterPack, hg, between, hm, hclass, hn, hseen, hfull]

/-- A new record is that of its tag, at the head of its list, and no other record or list changes. -/
theorem State.addPack_register (s : State) (r : PackRec) :
    (s.addPack r).pack r.tag = some r ∧ (∀ x, x ≠ r.tag → (s.addPack r).pack x = s.pack x) ∧
      (s.addPack r).rotation r.cls = r.tag :: s.rotation r.cls ∧
      ∀ k, k ≠ r.cls → (s.addPack r).rotation k = s.rotation k := by
  refine ⟨findPack_putPack_self r _, fun x hx => findPack_putPack_of_ne r _ hx, ?_, fun k hk => ?_⟩
  · rw [State.addPack, State.setRotation_rotation, if_pos rfl]
  · rw [State.addPack, State.setRotation_rotation, if_neg hk]
    rfl

theorem takeRemovePack_taken {s : State} {g : Nat} {r : PackRec} (hg : validTag g = true) (hr : s.pack g = some r)
    (hplace : r.place.isBay = false) (hmark : r.mark = none) : takeRemovePack g s = .taken (s.deletePack r) [] := by
  simp [takeRemovePack, hg, hr, hplace, hmark]

/-- A deleted record is gone with its tag in its list, and no other record or list changes. -/
theorem State.deletePack_register (s : State) (r : PackRec) :
    (s.deletePack r).pack r.tag = none ∧ (∀ x, x ≠ r.tag → (s.deletePack r).pack x = s.pack x) ∧
      (s.deletePack r).rotation r.cls = (s.rotation r.cls).filter (fun x => decide (x ≠ r.tag)) ∧
      ∀ k, k ≠ r.cls → (s.deletePack r).rotation k = s.rotation k := by
  have hpack : ∀ x, (s.deletePack r).pack x = if x = r.tag then none else s.pack x := fun x =>
    findPack_dropPack r.tag x s.register.packs
  refine ⟨by rw [hpack, if_pos rfl], fun x hx => by rw [hpack, if_neg hx], ?_, fun k hk => ?_⟩
  · rw [State.deletePack, State.setRotation_rotation, if_pos rfl]
  · rw [State.deletePack, State.setRotation_rotation, if_neg hk]
    rfl

/-- Settles O41: both commands at their owner, and what they do to the register. -/
theorem registerAndRemovePack : Obligations.RegisterAndRemovePack := by
  intro s g h _ h1 h2
  have hg := validTag_of h1 h2
  refine ⟨fun c m hm hc hn hseen hroom => ?_, fun r hr hplace hmark => ?_⟩
  · obtain ⟨hpack, hothers, hrot, hrots⟩ := s.settle.addPack_register (PackRec.fresh g c (registerPlace m))
    exact ⟨_, congrArg Host.Outcome.next (State.command_of_taken h
      (takeRegisterPack_taken (s := s.settle) hg hm hc hn hseen hroom)), hpack, hothers, hrot, hrots, rfl, rfl⟩
  · obtain rfl : r.tag = g := (mem_of_findPack hr).2
    obtain ⟨hpack, hothers, hrot, hrots⟩ := s.settle.deletePack_register r
    refine ⟨_, congrArg Host.Outcome.next (State.command_of_taken h
      (takeRemovePack_taken (s := s.settle) hg hr hplace hmark)), hpack, hothers, hrot, hrots, rfl, ?_⟩
    change _ = ({ s.settle with inFlight := [.packGone r.tag,
        .rotation r.cls ((s.settle.deletePack r).rotation r.cls)] } : State).reply
      0x25 .ok []
    rw [hrot]
    rfl

/-! ## ASSIGN PACK and RELEASE PACK -/

/-- A record changed and written. -/
theorem State.modPack_savePack {s : State} {g : Nat} {r : PackRec} (hr : s.pack g = some r) {f : PackRec → PackRec}
    (hf : ∀ p, (f p).tag = p.tag) : (s.modPack g f).savePack g = (s.modPack g f).write (.pack (f r)) := by
  have h : (s.modPack g f).pack g = some (f r) := by rw [State.modPack_pack s g g hf, if_pos rfl, hr]; rfl
  simp only [State.savePack, h]

/-- What changing and writing one record does to the records. -/
theorem State.modPack_write_pack (s : State) {g : Nat} {r : PackRec} (hr : s.pack g = some r) {f : PackRec → PackRec}
    (hf : ∀ p, (f p).tag = p.tag) (w : StoreWrite) :
    ((s.modPack g f).write w).pack g = some (f r) ∧ ∀ x, x ≠ g → ((s.modPack g f).write w).pack x = s.pack x := by
  have h : ∀ x, ((s.modPack g f).write w).pack x = if x = g then (s.pack x).map f else s.pack x :=
    fun x => s.modPack_pack g x hf
  exact ⟨by rw [h, if_pos rfl, hr]; rfl, fun x hx => by rw [h, if_neg hx]⟩

/-- A record's place changed and written. -/
theorem State.setPlace_eq {s : State} {g : Nat} {r : PackRec} (hr : s.pack g = some r) (p : Place) :
    s.setPlace g p = (s.modPack g fun q => { q with place := p }).write (.pack { r with place := p }) :=
  State.modPack_savePack hr (f := fun q => { q with place := p }) fun _ => rfl

/-- The first check of ASSIGN PACK: tag and machine in range (R19). -/
theorem assignRange_iff (g m : Nat) :
    (validTag g && validMachine m) = true ↔ 1 ≤ g ∧ g ≤ 65534 ∧ 1 ≤ m ∧ m ≤ 999 := by
  simp [validTag, validMachine, between, and_assoc]

theorem takeAssignPack_out_of_range (s : State) {g m : Nat} (h : ¬ (1 ≤ g ∧ g ≤ 65534 ∧ 1 ≤ m ∧ m ≤ 999)) :
    takeAssignPack g m s = .refused .range := by
  rw [← assignRange_iff, Bool.not_eq_true] at h
  simp [takeAssignPack, h]

theorem takeAssignPack_of_none {s : State} {g m : Nat} (h : 1 ≤ g ∧ g ≤ 65534 ∧ 1 ≤ m ∧ m ≤ 999) (hn : s.pack g = none) :
    takeAssignPack g m s = .refused .none := by
  rw [← assignRange_iff] at h
  simp [takeAssignPack, h, hn]

theorem takeAssignPack_of_some {s : State} {g m : Nat} {r : PackRec} (h : 1 ≤ g ∧ g ≤ 65534 ∧ 1 ≤ m ∧ m ≤ 999)
    (hr : s.pack g = some r) : takeAssignPack g m s =
      if r.place = .unaccounted then .taken (s.setPlace g (.machine m)) [] else .refused .state := by
  rw [← assignRange_iff] at h
  simp [takeAssignPack, h, hr]

/-- The next docking of an unmarked pack at a machine is a return (R9). -/
theorem PackRec.docked_of_machine (r : PackRec) (m : Nat) (hm : r.mark = none) (b : BayNo) (ch : Option Chemistry) :
    ({ r with place := .machine m } : PackRec).docked b ch =
      { r with place := .bay b, known := false, returns := min 65535 (r.returns + 1)
               equalize := if ch = some .flooded then min 255 (r.equalize + 1) else r.equalize } := by
  simp [PackRec.docked, equalizeAfterReturn, hm]

theorem takeReleasePack_taken {s : State} {g : Nat} {r : PackRec} {k : FaultKind} (hg : validTag g = true)
    (hr : s.pack g = some r) (hk : r.standing = .quarantined k) :
    takeReleasePack g s =
      .taken ((s.modPack g fun p => { p with standing := .serviceable }).write
        (.pack { r with standing := .serviceable })).handAllReady (u2 g ++ r.place.bytes ++ [u1 k.code]) := by
  rw [← State.modPack_savePack hr (f := fun p => { p with standing := .serviceable }) fun _ => rfl]
  simp [takeReleasePack, hg, hr, hk]

/-- Another register leaves the outline apart from it. -/
theorem State.outline_register_congr {s t : State} (h : t.outline = s.outline) (g : Register) :
    ({ t with register := g } : State).outline = ({ s with register := g } : State).outline := by
  have hr : ∀ u : State, ({ u with register := g } : State).outline = { u.outline with register := g } := fun _ => rfl
  rw [hr, h, hr]

/-- A reply does not depend on what the outline leaves out. -/
theorem State.reply_outline_congr {s t : State} (h : t.outline = s.outline) (k : Byte) (st : Status) (cs : List Byte) :
    (t.reply k st cs).outline = (s.reply k st cs).outline := by
  have hr : ∀ u : State, (u.reply k st cs).outline = u.outline.reply k st cs := fun _ => rfl
  rw [hr, h, hr]

/-- A pack in no bay is released without a ready count that changes (R11). -/
theorem State.ReadyHanded.release {s : State} (h : s.ReadyHanded) (ha : s.register.Agrees) {g : Nat} {r : PackRec}
    (hr : s.pack g = some r) (hplace : s.readyPlace r.place = false) (w : StoreWrite) :
    ((s.modPack g fun p => { p with standing := .serviceable }).write w).ReadyHanded := by
  intro c
  refine (h c).trans (State.readyCount_of_map (f := fun p => if p.tag = g then { p with standing := .serviceable } else p)
    rfl (fun p hp => ?_) c).symm
  split
  · next hg =>
    have hpr : p = r := Option.some.inj ((findPack_of_mem ha.1 hp).symm.trans (hg ▸ hr))
    subst hpr
    have hplace' : ((s.modPack g fun p => { p with standing := .serviceable }).write w).readyPlace p.place = false :=
        hplace
    exact ⟨rfl, by simp [State.packReady, hplace, hplace']⟩
  · exact ⟨rfl, rfl⟩

/-- Settles O42. -/
theorem assignAndReleasePack : Obligations.AssignAndReleasePack := by
  intro s g h
  refine ⟨fun m => ⟨fun hn => ?_, fun hin hnone => ?_, fun hin r hr => ⟨fun hp => ?_, fun hp => ?_⟩⟩,
    fun r k h1 h2 hr hk => ?_⟩
  · exact congrArg Host.Outcome.next (State.command_of_refused h (takeAssignPack_out_of_range _ hn))
  · exact congrArg Host.Outcome.next (State.command_of_refused h (takeAssignPack_of_none (s := s.settle) hin hnone))
  · refine congrArg Host.Outcome.next (State.command_of_refused h ?_)
    rw [takeAssignPack_of_some (s := s.settle) hin hr, if_neg hp]
  · have htaken : takeAssignPack g m s.settle = _ := takeAssignPack_of_some (s := s.settle) hin hr
    rw [if_pos hp, State.setPlace_eq (s := s.settle) hr] at htaken
    obtain ⟨hpack, hothers⟩ := s.settle.modPack_write_pack hr (f := fun p => { p with place := .machine m })
      (fun _ => rfl) (.pack { r with place := .machine m })
    exact ⟨_, congrArg Host.Outcome.next (State.command_of_taken h htaken), hpack, hothers,
      fun b ch hm => r.docked_of_machine m hm b ch, rfl, rfl, rfl⟩
  · have htaken := takeReleasePack_taken (s := s.settle) (validTag_of h1 h2) hr hk
    obtain ⟨hpack, hothers⟩ := s.settle.modPack_write_pack hr (f := fun p => { p with standing := .serviceable })
      (fun _ => rfl) (.pack { r with standing := .serviceable })
    have hready := fun (ha : s.register.Agrees) hplace (hh : s.ReadyHanded) =>
      State.ReadyHanded.release (s := s.settle) hh ha hr hplace (.pack { r with standing := .serviceable })
    generalize hu : (s.settle.modPack g fun p => { p with standing := .serviceable }).write
      (.pack { r with standing := .serviceable }) = u at htaken hpack hothers hready
    have hout := u.handAllReady_outline
    have hkept := fun ha hplace hh => (hready ha hplace hh).handAllReady
    generalize u.handAllReady = v at htaken hout hkept
    have hreg := State.register_of_outline hout
    have hpacks : ∀ x, v.pack x = u.pack x := fun x => by rw [State.pack, hreg, State.pack]
    refine ⟨_, congrArg Host.Outcome.next (State.command_of_taken h htaken), (hpacks g).trans hpack,
      fun x hx => (hpacks x).trans (hothers x hx), ?_, ?_, ?_, fun ha hplace hh => ?_⟩
    · exact (congrArg Register.rotation hreg).trans (by rw [← hu]; rfl)
    · exact (congrArg Register.classes hreg).trans (by rw [← hu]; rfl)
    · refine (State.outline_register_congr (s := u.reply 0x26 .ok (u2 g ++ r.place.bytes ++ [u1 k.code]))
        (State.reply_outline_congr hout _ _ _) _).trans ?_
      rw [← hu]
      rfl
    · rw [hkept ha hplace hh, ← hu]
      rfl

end Sys2Proof.Machine
end

section
/-! SUPPORT. The read commands (R20, R51, R112, R137, R156): the lengths of their layouts (R186), and what READ BAY
shows of an
anonymous pack (R82), with the statement about them. -/

namespace Sys2Proof.Machine

/-! ## The lengths of the layouts -/

@[simp] theorem u2_length (n : Nat) : (u2 n).length = 2 := rfl
@[simp] theorem u4_length (n : Nat) : (u4 n).length = 4 := rfl
@[simp] theorem i2_length (x : Int) : (i2 x).length = 2 := rfl
@[simp] theorem u2?_length (o : Option Nat) : (u2? o).length = 2 := rfl
@[simp] theorem u4?_length (o : Option Nat) : (u4? o).length = 4 := rfl
@[simp] theorem Place.bytes_length (p : Place) : p.bytes.length = 3 := by cases p <;> rfl
@[simp] theorem Identity.bytes_length (i : Identity) : i.bytes.length = 7 := by cases i <;> rfl
@[simp] theorem coolSeconds_length (e : Option Nat) (n : Nat) : (coolSeconds e n).length = 2 := rfl
@[simp] theorem Report.bytes_length (r : Report) : r.bytes.length = 9 := rfl
@[simp] theorem Drive.bytes_length (d : Drive) : d.bytes.length = 6 := rfl
@[simp] theorem Session.bytes_length (se : Session) : se.bytes.length = 16 := rfl
@[simp] theorem ClassRec.bytes_length (r : ClassRec) : r.bytes.length = 19 := rfl
@[simp] theorem ocvBytes_length (o : Option Ocv) : (ocvBytes o).length = 11 := by cases o <;> rfl

section
variable (s : State) (b : BayNo)

@[simp] theorem State.freeBytes_length (o n : Nat) : (s.freeBytes o n).length = n := by simp [State.freeBytes]

@[simp] theorem State.latestBytes_length : (s.latestBytes b).length = 13 := by
  unfold State.latestBytes
  split <;> simp

@[simp] theorem State.sessionBytes_length : (s.sessionBytes b).length = 16 := by
  unfold State.sessionBytes
  split <;> simp

theorem State.bayContents_length : (s.bayContents b).length = 60 := by
  simp [State.bayContents, State.otherBytes]

theorem State.packContents_length (r : PackRec) : (s.packContents r).length = 22 := by
  simp [State.packContents]

theorem State.classContents_length (c : ClassNo) :
    (s.classContents c).length = if (s.classRec c).isSome then 35 else 2 := by
  unfold State.classContents
  cases s.classRec c <;> simp

@[simp] theorem State.grantBytes_length : (s.grantBytes b).length = 9 := by simp [State.grantBytes]

@[simp] theorem State.feederBytes_length (f : FeederNo) : (s.feederBytes f).length = 6 := by simp [State.feederBytes]

@[simp] theorem State.shedBytes_length : s.shedBytes.length = 3 := by
  unfold State.shedBytes
  split <;> simp

theorem State.grantsContents_length (bs : List BayNo) : (s.grantsContents bs).length = 36 + 9 * bs.length := by
  simp only [State.grantsContents, List.length_append, List.length_flatMap, u2_length, State.shedBytes_length,
    State.feederBytes_length, State.grantBytes_length, List.length_singleton, List.map_const', List.sum_replicate,
    allFeeders, List.length_finRange, smul_eq_mul]
  omega

@[simp] theorem State.faultBytes_length : (s.faultBytes b).length = 15 := by
  unfold State.faultBytes
  split <;> simp

end

/-- READ GRANTS names as many bays as it counts (R112). -/
theorem readGrantBays_length {f n : Nat} (h1 : 1 ≤ n) (h2 : n ≤ 2) (hf : f + n ≤ 24) :
    ∃ bs, readGrantBays f n = some bs ∧ bs.length = n := by
  have hall : ∀ f < 24, ∀ n < 3, f + n ≤ 24 →
      (allBays.filter fun b => decide (f ≤ b.val ∧ b.val < f + n)).length = n := by decide
  refine ⟨_, ?_, hall f (by omega) n (by omega) hf⟩
  simp [readGrantBays, between, h1, h2, hf]

/-- Whole entries within the room take up no more than it (R186). -/
theorem fitting_length (es : List (List Byte)) (room : Nat) : (fitting es room).length ≤ room := by
  induction es generalizing room with
  | nil => simp [fitting]
  | cons e es ih =>
    unfold fitting
    split
    · next h =>
      have := ih (room - e.length)
      simp only [List.length_append]
      omega
    · simp

/-! ## An anonymous pack seen in READ BAY -/

/-- The reply shows an anonymous pack's charge at offset 10 and its class at offset 5, and through them its SoC (R51,
R82). -/
theorem State.bayContents_anonymous {s : State} {b : BayNo} {c : ClassNo} {q : Nat} {known : Bool}
    (hid : (s.bay b).identity = .anonymous c q known) (hc : (s.bay b).cfg.defaultClass = c) (hq : q < 4294967296) :
    ((s.bayContents b).drop 9).take 4 = u4 q ∧ (s.bayContents b)[4]? = some (u1 c.val) ∧
      s.seenSoc (s.bayContents b) = (s.classRec c).map fun cr => q * 100 / (cr.capacity * 1000) := by
  obtain ⟨rest, hcs⟩ : ∃ rest, s.bayContents b =
      [u1 b.val, u1 (s.bay b).state.code, (s.bay b).endingByte, u1? ((s.bay b).cfg.feeder.map (·.val)), u1 c.val,
        (s.bay b).cfg.packed] ++ ([if known then 3 else 2] ++ u2 0 ++ u4 q) ++ rest := by
    refine ⟨u4? (s.bay b).dockTime ++ [u1 (s.bay b).attempts] ++ coolSeconds (s.bay b).coolExpiry s.now ++
      s.latestBytes b ++ (s.bay b).drive.bytes ++ s.sessionBytes b ++ s.otherBytes b, ?_⟩
    simp only [State.bayContents, hid, hc, Identity.bytes, List.append_assoc]
  rw [hcs]
  refine ⟨rfl, rfl, ?_⟩
  have hkind : ((if known then 3 else 2 : Byte)).toNat = 2 ∨ ((if known then 3 else 2 : Byte)).toNat = 3 := by
    cases known <;> simp
  have hclass : index? 8 (u1 c.val).toNat = some c := by
    rw [u1_toNat, Nat.mod_eq_of_lt (by omega), index?_val]
  have hcharge := ofU4_u4 q
  rw [Nat.mod_eq_of_lt hq] at hcharge
  simp only [u2, u4, List.cons_append, List.nil_append, State.seenSoc, hkind, if_true, hclass, Option.bind_some, hcharge,
    soc, fullCharge]

/-! ## The statement -/

/-- What a read command's owner takes leaves the state but for the reply and the draw. -/
theorem State.command_of_read {s : State} (h : s.accepts) {k : Byte} {f : State → Answer} {cs : List Byte}
    (hf : f s.settle = .taken s.settle cs) :
    ∃ n, s.command k f = ({ s.settle with freeDraw := n } : State).reply k .ok cs :=
  ⟨s.freeDraw, State.command_of_taken h hf⟩

/-- Settles O43. -/
theorem readsAnswerAndChangeNothing : Obligations.ReadsAnswerAndChangeNothing := by
  intro s h reads
  have read : ∀ {c : Instr} {k : Byte} {f : State → Answer} {cs : List Byte} {ok : List Byte → Prop},
      exec c s = .next (s.command k f) → f s.settle = .taken s.settle cs → ok cs → reads c k ok := by
    intro c k f cs ok hc hf hok
    obtain ⟨n, hn⟩ := State.command_of_read h hf
    exact ⟨_, cs, n, hc, hok, hn⟩
  refine ⟨fun b => ?_, fun g r h1 h2 hr => ?_, fun c => ?_, fun f n h1 h2 hf => ?_, ?_, ?_, fun b => ?_⟩
  · refine ⟨_, s.settle.bayContents b, s.freeDraw + 1, congrArg Host.Outcome.next (State.command_of_taken h ?_),
      ⟨State.bayContents_length _ b, rfl, fun c q known hid hc hq => State.bayContents_anonymous
          (s := s.settle) hid hc hq⟩,
      rfl⟩
    simp [takeReadBay]
    rfl
  · refine read (cs := s.settle.packContents r) rfl ?_ ⟨State.packContents_length _ r,
      by rw [(mem_of_findPack hr).2.symm]; rfl⟩
    simp [takeReadPack, validTag_of h1 h2, hr]
  · refine read (cs := s.settle.classContents c) rfl ?_ ⟨?_, State.classContents_length _ c⟩
    · simp [takeReadClass]
    · simp only [State.classContents, State.settle_classRec]
      cases s.classRec c <;> rfl
  · obtain ⟨bs, hbs, hlen⟩ := readGrantBays_length h1 h2 hf
    refine read (cs := s.settle.grantsContents bs) rfl ?_ ⟨?_, rfl⟩
    · simp [takeReadGrants, hbs]
    · rw [State.grantsContents_length, hlen]
  · refine read rfl rfl ⟨?_, ?_, rfl⟩
    · simp only [List.length_append, u4_length, List.length_singleton]
      omega
    · have := fitting_length (s.disp.issues.map fun i => i.bytes s.now) 55
      simp only [List.length_append, u4_length, List.length_cons, List.length_nil]
      exact Nat.add_le_add_left this 5
  · refine read rfl rfl ⟨?_, rfl⟩
    simp only [List.length_append, u4_length, List.length_flatMap, State.reservationBytes, List.length_cons, i2_length,
      List.length_nil, List.map_const', List.sum_replicate, smul_eq_mul]
    change 4 + 2 + s.disp.reservations.length * 3 = _
    omega
  · refine read (cs := [u1 b.val, s.settle.stateByte b] ++ u4 s.settle.now ++ s.settle.faultBytes b) rfl ?_
      ⟨?_, rfl, fun hnone => ?_⟩
    · simp [takeReadFault]
    · simp
    · simp only [State.faultBytes, State.settle_faultRec, hnone]
      rfl

end Sys2Proof.Machine
end

section
/-! SUPPORT. What an event at one bay leaves alone: every other bay, its grant entry and fault record but for what the
shared
operations set, the bay's own configuration, latest report and carried units, the configuration, the clocks, the line
records,
the reservations and the reply (R29, R40, R144). -/

namespace Sys2Proof.Machine

/-- The part of the state that no event at bay `b` changes. -/
structure Away where
  bays : BayNo → Bay
  grants : BayNo → Grant
  faults : BayNo → Option FaultRec
  lines : Vector LineRec 24
  profiles : Vector Profile 8
  classes : Vector (Option ClassRec) 8
  siteCap : Nat
  scheme : Scheme
  feederCaps : Vector Nat 4
  lookahead : Nat
  window : Nat
  scanInterval : Nat
  slot : Option Slot
  mask : Vector Bool 8
  reservations : List Reservation
  reply : Option Reply
  now : Nat
  minute : Nat

/-- What is kept of the bay's own sequencer: configuration and latest report. -/
def Bay.kept (y : Bay) : Bay := { Bay.boot y.cfg with latest := y.latest }

/-- What is kept of the bay's own grant entry: the carried units. -/
def Grant.kept (e : Grant) : Grant := ⟨0, 0, e.carried, 0, .hold, none, none, false⟩

/-- A state without what an event at bay `b` can change. -/
def State.away (s : State) (b : BayNo) : Away where
  bays x := if x = b then (s.bay x).kept else (s.bay x).outline
  grants x := if x = b then (s.grant x).kept else (s.grant x).outline
  faults x := if x = b then none else s.faultRec x
  lines := s.scanner.lines
  profiles := s.profiles
  classes := s.register.classes
  siteCap := s.alloc.siteCap
  scheme := s.alloc.scheme
  feederCaps := s.alloc.feederCaps
  lookahead := s.disp.lookahead
  window := s.disp.window
  scanInterval := s.scanner.scanInterval
  slot := s.scanner.slot
  mask := s.link.mask
  reservations := s.disp.reservations
  reply := s.link.reply
  now := s.now
  minute := s.minute

/-! ## Reading it -/

section
variable {s t : State} {b x : BayNo}

theorem State.bay_of_away (h : t.away b = s.away b) (hx : x ≠ b) : (t.bay x).outline = (s.bay x).outline := by
  simpa [State.away, hx] using congrArg (fun u => u.bays x) h

theorem State.grant_of_away (h : t.away b = s.away b) (hx : x ≠ b) : (t.grant x).outline = (s.grant x).outline := by
  simpa [State.away, hx] using congrArg (fun u => u.grants x) h

theorem State.faultRec_of_away (h : t.away b = s.away b) (hx : x ≠ b) : t.faultRec x = s.faultRec x := by
  simpa [State.away, hx] using congrArg (fun u => u.faults x) h

theorem State.latest_of_away (h : t.away b = s.away b) : (t.bay b).latest = (s.bay b).latest := by
  have hb := congrArg (fun u => u.bays b) h
  simp only [State.away, if_true] at hb
  exact (congrArg Bay.latest hb :)

theorem State.cfg_of_away (h : t.away b = s.away b) (x : BayNo) : (t.bay x).cfg = (s.bay x).cfg := by
  by_cases hx : x = b
  · subst hx
    have hb := congrArg (fun u => u.bays x) h
    simp only [State.away, if_true] at hb
    exact (congrArg Bay.cfg hb :)
  · exact (congrArg Bay.cfg (State.bay_of_away h hx) :)

theorem State.carried_of_away (h : t.away b = s.away b) : (t.grant b).carried = (s.grant b).carried := by
  have hb := congrArg (fun u => u.grants b) h
  simp only [State.away, if_true] at hb
  exact (congrArg Grant.carried hb :)

theorem State.lines_of_away (h : t.away b = s.away b) : t.scanner.lines = s.scanner.lines := congrArg Away.lines h
theorem State.slot_of_away (h : t.away b = s.away b) : t.scanner.slot = s.scanner.slot := congrArg Away.slot h
theorem State.classes_of_away (h : t.away b = s.away b) : t.register.classes = s.register.classes :=
    congrArg Away.classes h
theorem State.profiles_of_away (h : t.away b = s.away b) : t.profiles = s.profiles := congrArg Away.profiles h
theorem State.reservations_of_away (h : t.away b = s.away b) : t.disp.reservations = s.disp.reservations :=
  congrArg Away.reservations h
theorem State.reply_of_away (h : t.away b = s.away b) : t.link.reply = s.link.reply := congrArg Away.reply h
theorem State.now_of_away (h : t.away b = s.away b) : t.now = s.now := congrArg Away.now h
theorem State.minute_of_away (h : t.away b = s.away b) : t.minute = s.minute := congrArg Away.minute h

theorem State.sameConfig_of_away (h : t.away b = s.away b) : s.SameConfig t :=
  ⟨congrArg Away.classes h, congrArg Away.profiles h, State.cfg_of_away h, congrArg Away.siteCap h,
    congrArg Away.scheme h, congrArg Away.feederCaps h, congrArg Away.lookahead h, congrArg Away.window h,
    congrArg Away.scanInterval h, congrArg Away.mask h⟩

end

/-! ## The shared operations and the updates of one record -/

/-- What is left alone follows from the outline. -/
theorem State.away_outline (s : State) (b : BayNo) : s.outline.away b = s.away b := by
  have hbay : ∀ x, s.outline.bay x = (s.bay x).outline := fun x => by simp [State.outline, State.bay]
  have hgrant : ∀ x, s.outline.grant x = (s.grant x).outline := fun x => by simp [State.outline, State.grant]
  have hfault : ∀ x, s.outline.faultRec x = s.faultRec x := fun x => by simp [State.outline, State.faultRec]
  simp only [State.away, hbay, hgrant, hfault, Bay.outline_outline, Grant.outline_outline]
  simp only [State.outline]
  rfl

/-- An operation that keeps the outline is at no bay. -/
theorem State.away_of_outline {s t : State} (h : t.outline = s.outline) (b : BayNo) : t.away b = s.away b := by
  rw [← t.away_outline, h, s.away_outline]

section
variable (s : State) (b : BayNo)

theorem State.modBay_away {f : Bay → Bay} (hc : ∀ y, (f y).cfg = y.cfg) (hl : ∀ y, (f y).latest = y.latest) :
    (s.modBay b f).away b = s.away b := by
  have hb : ∀ x, (if x = b then ((s.modBay b f).bay x).kept else ((s.modBay b f).bay x).outline) =
      if x = b then (s.bay x).kept else (s.bay x).outline := by
    intro x
    rw [State.modBay_bay]
    split
    · next h => subst h; simp [Bay.kept, hc, hl]
    · rfl
  simp only [State.away, hb]
  rfl

theorem State.modGrant_away {f : Grant → Grant} (hf : ∀ e, (f e).carried = e.carried) :
    (s.modGrant b f).away b = s.away b := by
  have hb : ∀ x, (if x = b then ((s.modGrant b f).grant x).kept else ((s.modGrant b f).grant x).outline) =
      if x = b then (s.grant x).kept else (s.grant x).outline := by
    intro x
    rw [State.modGrant_grant]
    split
    · next h => subst h; simp [Grant.kept, hf]
    · rfl
  simp only [State.away, hb]
  rfl

@[simp] theorem State.setFault_away (r : Option FaultRec) : (s.setFault b r).away b = s.away b := by
  have hb : ∀ x, (if x = b then none else (s.setFault b r).faultRec x) = if x = b then none else s.faultRec x := by
    intro x
    rw [State.setFault_faultRec]
    split <;> rfl
  simp only [State.away, hb]
  rfl

@[simp] theorem State.modSession_away (f : Session → Session) : (s.modSession b f).away b = s.away b :=
  s.modBay_away b (fun _ => rfl) fun _ => rfl
@[simp] theorem State.setIssues_away (l : List Issue) : (s.setIssues l).away b = s.away b := rfl
@[simp] theorem State.dropComplete_away : s.dropComplete.away b = s.away b := rfl
@[simp] theorem State.partDocked_away (m t : Nat) : (s.partDocked m t).away b = s.away b := rfl
@[simp] theorem State.raise_away (c : Cause) : (s.raise c).away b = s.away b := rfl
@[simp] theorem State.write_away (w : StoreWrite) : (s.write w).away b = s.away b := rfl
@[simp] theorem State.modPack_away (t : Nat) (f : PackRec → PackRec) : (s.modPack t f).away b = s.away b := rfl
@[simp] theorem State.setMark_away (t : Nat) (m : Option Nat) : (s.setMark t m).away b = s.away b := rfl
@[simp] theorem State.setRotation_away (c : ClassNo) (l : List Nat) : (s.setRotation c l).away b = s.away b := rfl
@[simp] theorem State.toTail_away (r : PackRec) : (s.toTail r).away b = s.away b := rfl
@[simp] theorem State.addPack_away (r : PackRec) : (s.addPack r).away b = s.away b := rfl
@[simp] theorem State.setIdentity_away (i : Identity) : (s.setIdentity b i).away b = s.away b :=
  s.modBay_away b (fun _ => rfl) fun _ => rfl
@[simp] theorem State.pass_away : s.pass.away b = s.away b := State.away_of_outline s.pass_outline b
@[simp] theorem State.redrive_away (x : BayNo) : (s.redrive x).away b = s.away b :=
  State.away_of_outline (State.outline_congr (s.redrive_passOutline x)) b
@[simp] theorem State.relevel_away (x : BayNo) : (s.relevel x).away b = s.away b :=
  State.away_of_outline (s.relevel_outline x) b
@[simp] theorem State.handAllReady_away : s.handAllReady.away b = s.away b :=
    State.away_of_outline s.handAllReady_outline b
@[simp] theorem State.handUnless_away (own : Bool) : (State.handUnless own s).away b = s.away b :=
  State.away_of_outline (s.handUnless_outline own) b

theorem State.foldl_away {α : Type} {f : State → α → State} (h : ∀ s x, (f s x).away b = s.away b) (l : List α) :
    (l.foldl f s).away b = s.away b := by
  induction l generalizing s with
  | nil => rfl
  | cons x xs ih => rw [List.foldl_cons, ih, h]

@[simp] theorem State.savePack_away (t : Nat) : (s.savePack t).away b = s.away b := by
  unfold State.savePack
  split <;> rfl

@[simp] theorem State.saveCharge_away (t : Nat) : (s.saveCharge t).away b = s.away b := by
  unfold State.saveCharge
  split <;> rfl

@[simp] theorem State.saveChargeAt_away (x : BayNo) : (s.saveChargeAt x).away b = s.away b := by
  unfold State.saveChargeAt
  split
  · rw [State.saveCharge_away]
  · rfl

@[simp] theorem State.saveChargesAt_away (x : BayNo) : (s.saveChargesAt x).away b = s.away b :=
  State.foldl_away s b (fun u t => u.saveCharge_away b t) _

@[simp] theorem State.setPlace_away (t : Nat) (p : Place) : (s.setPlace t p).away b = s.away b := by
  simp [State.setPlace]

@[simp] theorem State.releaseRequest_away : (s.releaseRequest b).away b = s.away b :=
  (State.away_of_outline (s.releaseRequest_outline b) b).trans (s.modGrant_away b fun _ => rfl)

@[simp] theorem State.handRequest_away (r : Nat) : (s.handRequest b r).away b = s.away b := by
  unfold State.handRequest
  split
  · rfl
  · rw [State.pass_away, State.away_of_outline (s.enterRequest_outline b r) b]
    exact s.modGrant_away b fun _ => rfl

/-! ## Bay states and sessions -/

@[simp] theorem State.moveTo_away (st : BayState) : (s.moveTo b st).away b = s.away b := by
  rw [State.moveTo, State.redrive_away]
  exact s.modBay_away b (fun _ => rfl) fun _ => rfl

@[simp] theorem State.toVacant_away : (s.toVacant b).away b = s.away b := by
  rw [State.toVacant, State.moveTo_away]
  exact s.modBay_away b (fun _ => rfl) fun _ => rfl

@[simp] theorem State.toFreshIdentify_away : (s.toFreshIdentify b).away b = s.away b := by
  rw [State.toFreshIdentify, State.moveTo_away]
  exact s.modBay_away b (fun _ => rfl) fun _ => rfl

@[simp] theorem State.toStandby_away (e : Ending) : (s.toStandby b e).away b = s.away b := by
  rw [State.toStandby, State.moveTo_away]
  exact s.modBay_away b (fun _ => rfl) fun _ => rfl

@[simp] theorem State.toCooling_away (n : Nat) : (s.toCooling b n).away b = s.away b := by
  rw [State.toCooling, State.moveTo_away]
  exact s.modBay_away b (fun _ => rfl) fun _ => rfl

@[simp] theorem State.dock_away : (s.dock b).away b = s.away b := by
  rw [State.dock, State.moveTo_away]
  exact s.modBay_away b (fun _ => rfl) fun _ => rfl

@[simp] theorem State.stampDock_away : (s.stampDock b).away b = s.away b :=
  s.modBay_away b (fun _ => rfl) fun _ => rfl

@[simp] theorem State.openSession_away (p : ProfileNo) (w : Bool) (e : Ending) :
    (s.openSession b p w e).away b = s.away b := by
  unfold State.openSession
  refine (State.modGrant_away _ b ?_).trans (s.modBay_away b ?_ ?_) <;> exact fun _ => rfl

@[simp] theorem State.endSession_away : (s.endSession b).away b = s.away b := by
  unfold State.endSession
  split
  · rw [State.releaseRequest_away]
    refine (State.modGrant_away _ b ?_).trans (s.modBay_away b ?_ ?_) <;> exact fun _ => rfl
  · rfl

@[simp] theorem State.enterStage_away (k : StageNo) (m : Bool) : (s.enterStage b k m).away b = s.away b := by
  simp [State.enterStage]

@[simp] theorem State.releaseAtRest_away : (s.releaseAtRest b).away b = s.away b := by
  unfold State.releaseAtRest
  split <;> simp

@[simp] theorem State.reidentify_away : (s.reidentify b).away b = s.away b := by
  unfold State.reidentify
  split <;> simp

/-! ## Faults and session starts -/

@[simp] theorem State.quarantinePack_away (t : Nat) (k : FaultKind) : (s.quarantinePack t k).away b = s.away b := by
  unfold State.quarantinePack
  split
  · split <;> simp
  · rfl

@[simp] theorem State.quarantineFor_away (x : BayNo) (ks : List FaultKind) :
    (s.quarantineFor x ks).away b = s.away b := by
  unfold State.quarantineFor
  split <;> simp

@[simp] theorem State.cancelPart_away (x : BayNo) : (s.cancelPart x).away b = s.away b := by
  simp only [State.cancelPart, State.dropComplete_away, State.setIssues_away]
  exact State.foldl_away s b (fun u t => u.setMark_away b t none) _

@[simp] theorem State.latch_away (k : FaultKind) (ks : List FaultKind) (n : Option Nat) (c : Option ClassNo)
    (own : Bool) :
    (s.latch b k ks n c own).away b = s.away b := by
  simp only [State.latch]
  rw [State.relevel_away, State.handUnless_away, State.moveTo_away]
  refine (State.modBay_away _ b ?_ ?_).trans ?_
  · exact fun _ => rfl
  · exact fun _ => rfl
  · rw [State.quarantineFor_away, State.endSession_away, State.saveChargesAt_away]
    split <;> simp

@[simp] theorem State.joinFault_away (k : FaultKind) : (s.joinFault b k).away b = s.away b := by
  unfold State.joinFault
  split
  · rfl
  · split <;> simp

@[simp] theorem State.raiseFault_away (k : FaultKind) : (s.raiseFault b k).away b = s.away b := by
  unfold State.raiseFault
  split <;> simp

@[simp] theorem State.startSession_away (toCharge warm own : Bool) :
    (s.startSession b toCharge warm own).away b = s.away b := by
  unfold State.startSession
  split
  · simp
  · split <;> simp

@[simp] theorem State.startByCharge_away (warm own : Bool) : (s.startByCharge b warm own).away b = s.away b := by
  simp [State.startByCharge]

@[simp] theorem State.coolEnds_away : (s.coolEnds b).away b = s.away b := by
  rw [State.coolEnds, State.startByCharge_away]
  exact s.modBay_away b (fun _ => rfl) fun _ => rfl

@[simp] theorem State.recool_away (n : Nat) : (s.recool n b).away b = s.away b := by
  simp only [State.recool]
  split
  · exact s.modBay_away b (fun _ => rfl) fun _ => rfl
  · split
    · simp
    · exact s.modBay_away b (fun _ => rfl) fun _ => rfl

/-! ## Identification -/

@[simp] theorem State.acceptKnown_away (t : Nat) : (s.acceptKnown b t).away b = s.away b := by
  unfold State.acceptKnown
  split
  · rfl
  · rw [State.savePack_away, State.modPack_away]
    split <;> simp

@[simp] theorem State.goOn_away (tm : Int) : (s.goOn b tm).away b = s.away b := by
  unfold State.goOn
  split
  · rfl
  · split <;> simp

@[simp] theorem State.actOnVerdict_away (tm : Int) (v : Verdict) : (s.actOnVerdict b tm v).away b = s.away b := by
  unfold State.actOnVerdict
  split <;> simp

@[simp] theorem State.identify_away (rep : Report) : (s.identify b rep).away b = s.away b := by
  have ha : (s.modBay b fun y => { y with attempts := min 3 (y.attempts + 1) }).away b = s.away b :=
    s.modBay_away b (fun _ => rfl) fun _ => rfl
  unfold State.identify
  split
  · rw [State.actOnVerdict_away]
    split <;> simp
  · simp only
    split
    · rw [State.actOnVerdict_away, ha]
    · exact ha

/-! ## Evaluation -/

@[simp] theorem State.setChargeAt_away (q : Nat) : (s.setChargeAt b q).away b = s.away b := by
  unfold State.setChargeAt
  split
  · rfl
  · rfl
  · exact s.modBay_away b (fun _ => rfl) fun _ => rfl

@[simp] theorem State.setKnownAt_away : (s.setKnownAt b).away b = s.away b := by
  unfold State.setKnownAt
  split
  · rfl
  · rw [State.savePack_away, State.modPack_away]
  · exact s.modBay_away b (fun _ => rfl) fun _ => rfl

@[simp] theorem State.resetEqualizeAt_away (x : BayNo) : (s.resetEqualizeAt x).away b = s.away b := by
  unfold State.resetEqualizeAt
  split <;> simp

@[simp] theorem State.leaveStage_away (x : BayNo) (st : Stage) : (s.leaveStage x st).away b = s.away b := by
  unfold State.leaveStage
  split <;> simp

@[simp] theorem State.goOnInCharge_away : (s.goOnInCharge b).away b = s.away b := by
  unfold State.goOnInCharge
  split <;> simp

@[simp] theorem State.rearm_away (k : StageNo) : (s.rearm b k).away b = s.away b := by simp [State.rearm]

@[simp] theorem State.takeAction_away (se : Session) (k : StageNo) (st : Stage) (a : Action) :
    (s.takeAction b se k st a).away b = s.away b := by
  have call : ∀ j r, (s.doCall b se k st j r).away b = s.away b := fun j r => by
    unfold State.doCall
    split <;> simp
  cases a with
  | goto j =>
    simp only [State.takeAction, State.doGoto]
    split <;> simp
  | callResume j => exact call j true
  | callRestart j => exact call j false
  | ret =>
    simp only [State.takeAction, State.doReturn]
    split
    · simp
    · split <;> simp
  | complete =>
    simp only [State.takeAction, State.doComplete, State.completeCharge]
    split
    · simp
    · split <;> simp
  | fault n => exact s.latch_away b .profileStop [] (some n) none false

@[simp] theorem State.handOff_away (t i r : Nat) : (s.handOff b t i r).away b = s.away b := by
  have hk : (s.modBay b fun y => { y with keptTarget := t, keptIset := i }).away b = s.away b :=
    s.modBay_away b (fun _ => rfl) fun _ => rfl
  simp only [State.handOff]
  split
  · split <;> simp [hk]
  · rfl

@[simp] theorem State.evaluate_away (rep : Report) (prev : Nat) (on : Bool) :
    (s.evaluate b rep prev on).away b = s.away b := by
  have enter : ∀ (se se' : Session) (st : Stage) (cr : ClassRec) (fl : Flags),
      (s.enterEvaluation b se se' st cr rep prev fl).away b = s.away b := fun se se' st cr fl => by
    rw [State.enterEvaluation, State.setChargeAt_away]
    exact s.modBay_away b (fun _ => rfl) fun _ => rfl
  unfold State.evaluate
  split
  · split
    · simp only [State.evaluateAt]
      split
      · simp [enter]
      · split <;> simp [enter]
    · rfl
  · rfl

@[simp] theorem State.endAssess_away (rep : Report) (cr : ClassRec) : (s.endAssess b rep cr).away b = s.away b := by
  simp [State.endAssess]

/-! ## Removals and reconciliation -/

@[simp] theorem State.confirmPack_away (m t : Nat) : (s.confirmPack m t).away b = s.away b := by
  unfold State.confirmPack
  split <;> simp

@[simp] theorem State.takeRemoval_away (x : BayNo) : (s.takeRemoval x).away b = s.away b := by
  simp only [State.takeRemoval, State.dropComplete_away, State.setIssues_away]
  split
  · simp only [State.removalOf, State.confirmPacks]
    split
    · exact State.foldl_away s b (fun u t => u.setPlace_away b t _) _
    · exact State.foldl_away s b (fun u t => u.confirmPack_away b _ t) _
  · rfl

@[simp] theorem State.loseAt_away (x : BayNo) : (s.loseAt x).away b = s.away b := by
  unfold State.loseAt
  exact State.foldl_away s b (f := fun u (r : PackRec) => u.setPlace r.tag .unaccounted)
    (fun u r => u.setPlace_away b r.tag .unaccounted) _

@[simp] theorem State.settleAt_away (x : BayNo) (t : Option Nat) (c : Cause) : (s.settleAt x t c).away b = s.away b := by
  unfold State.settleAt
  exact State.foldl_away s b (f := fun u (r : PackRec) => (u.setPlace r.tag .unaccounted).raise c)
    (fun u r => by rw [State.raise_away, State.setPlace_away]) _

@[simp] theorem State.reconcile_away (rep : Report) : (s.reconcile b rep).away b = s.away b := by
  simp only [State.reconcile]
  split
  · rfl
  · split
    · simp
    · refine (State.modBay_away _ b ?_ ?_).trans (s.settleAt_away b b _ _) <;> exact fun _ => rfl

@[simp] theorem State.loseIdentity_away (x : BayNo) : (s.loseIdentity x).away b = s.away b := by
  unfold State.loseIdentity
  split <;> simp

@[simp] theorem State.unexpectedRemoval_away : (s.unexpectedRemoval b).away b = s.away b := by
  simp [State.unexpectedRemoval]

@[simp] theorem State.presence_away (rep : Report) : (s.presence b rep).away b = s.away b := by
  unfold State.presence
  split
  · unfold State.presentAt
    split <;> simp
  · unfold State.absentAt
    split
    case h_1 | h_10 => rfl
    case h_2 =>
      unfold State.leftInIdentify
      rw [State.toVacant_away]
      split <;> simp
    case h_8 => simp [State.releaseRemoval]
    case h_9 =>
      unfold State.leftInFault
      split
      · split <;> simp
      · rfl
    all_goals simp

/-! ## A good report -/

@[simp] theorem State.stateWork_away (rep : Report) (prev : Nat) (on : Bool) :
    (s.stateWork b rep prev on).away b = s.away b := by
  unfold State.stateWork
  split
  · simp
  · unfold State.coolingTest
    split
    · rfl
    · split <;> simp
  · unfold State.restTest
    split
    · split <;> simp
    · rfl
  · simp
  · simp
  · rfl

@[simp] theorem State.testsAndWork_away (rep : Report) (prev : Nat) (on answered : Bool) :
    (s.testsAndWork b rep prev on answered).away b = s.away b := by
  simp only [State.testsAndWork]
  split
  · exact State.foldl_away s b (fun u k => u.joinFault_away b k) _
  · split <;> simp

/-- A good report at a bay becomes its latest, and is an event at that bay (R29). -/
theorem State.goodReportAt_away (rep : Report) (on answered : Bool) : (s.goodReportAt b rep on answered).away b =
    (s.modBay b fun y => { y with latest := some ⟨rep, s.now⟩ }).away b := by
  simp only [State.goodReportAt, State.handAllReady_away]
  split <;> simp

end

end Sys2Proof.Machine
end

section
/-! SUPPORT. What the operations at a bay leave of the bays' sequencers, drives apart. -/

namespace Sys2Proof.Machine

section
variable (s : State) (b x : BayNo)

/-! ## The shared operations -/

/-- An operation that keeps the outline keeps every sequencer but for its drive. -/
@[simp] theorem State.redrive_bay_outline (y : BayNo) : ((s.redrive y).bay x).outline = (s.bay x).outline :=
  State.bay_outline_of_passOutline (s.redrive_passOutline y) x
@[simp] theorem State.pass_bay_outline : (s.pass.bay x).outline = (s.bay x).outline :=
  State.bay_outline_of_outline s.pass_outline x
@[simp] theorem State.relevel_bay_outline (y : BayNo) : ((s.relevel y).bay x).outline = (s.bay x).outline :=
  State.bay_outline_of_outline (s.relevel_outline y) x
@[simp] theorem State.handAllReady_bay_outline : (s.handAllReady.bay x).outline = (s.bay x).outline :=
  State.bay_outline_of_outline s.handAllReady_outline x
@[simp] theorem State.handUnless_bay_outline (own : Bool) :
    ((State.handUnless own s).bay x).outline = (s.bay x).outline :=
  State.bay_outline_of_outline (s.handUnless_outline own) x
@[simp] theorem State.computeShort_bay_outline (c : ClassNo) : ((s.computeShort c).bay x).outline = (s.bay x).outline :=
  State.bay_outline_of_outline (s.computeShort_outline c) x

@[simp] theorem State.releaseRequest_bay_outline : ((s.releaseRequest b).bay x).outline = (s.bay x).outline :=
  State.bay_outline_of_outline (s.releaseRequest_outline b) x

@[simp] theorem State.releaseAtRest_bay_outline : ((s.releaseAtRest b).bay x).outline = (s.bay x).outline := by
  unfold State.releaseAtRest
  split <;> simp

@[simp] theorem State.setCarried_bay_outline (u : Nat) : ((s.setCarried b u).bay x).outline = (s.bay x).outline :=
  State.bay_outline_of_passOutline (s.setCarried_passOutline b u) x

/-- A changed sequencer, drives apart. -/
theorem State.modBay_bay_outline (f : Bay → Bay) :
    ((s.modBay b f).bay x).outline = if x = b then (f (s.bay b)).outline else (s.bay x).outline := by
  rw [State.modBay_bay]
  split <;> rfl

/-! ## Entering a bay state -/

/-- A bay that enters a state is in it, and otherwise as it was; the other bays are as they were. -/
theorem State.moveTo_bay_outline (st : BayState) : ((s.moveTo b st).bay x).outline =
    if x = b then ({ s.bay b with state := st } : Bay).outline else (s.bay x).outline := by
  rw [State.moveTo, State.redrive_bay_outline, State.modBay_bay_outline]

theorem State.toVacant_bay_outline : ((s.toVacant b).bay x).outline =
    if x = b then ({ (s.bay b).emptied with state := .vacant } : Bay).outline else (s.bay x).outline := by
  rw [State.toVacant, State.moveTo_bay_outline]
  split
  · rw [State.modBay_bay, if_pos rfl]
  · next h => rw [State.modBay_bay, if_neg h]

theorem State.toFreshIdentify_bay_outline : ((s.toFreshIdentify b).bay x).outline =
    if x = b then ({ (s.bay b).emptied with reconcile := .no, state := .identify } : Bay).outline
    else (s.bay x).outline := by
  rw [State.toFreshIdentify, State.moveTo_bay_outline]
  split
  · rw [State.modBay_bay, if_pos rfl]
  · next h => rw [State.modBay_bay, if_neg h]

/-- A bay that leaves FAULT, or is cleared, is emptied, in IDENTIFY or VACANT (R50, R151). -/
theorem State.reidentify_bay_outline : ((s.reidentify b).bay x).outline =
    if x = b then
      (if (s.bay b).showsPack then ({ (s.bay b).emptied with reconcile := .no, state := .identify } : Bay).outline
        else ({ (s.bay b).emptied with state := .vacant } : Bay).outline)
    else (s.bay x).outline := by
  unfold State.reidentify
  split
  · rw [State.toFreshIdentify_bay_outline]
  · rw [State.toVacant_bay_outline]

theorem State.toStandby_bay_outline (e : Ending) : ((s.toStandby b e).bay x).outline =
    if x = b then ({ s.bay b with outcome := e, coolExpiry := none, preIssue := none, state := .standby } : Bay).outline
    else (s.bay x).outline := by
  rw [State.toStandby, State.moveTo_bay_outline]
  split
  · rw [State.modBay_bay, if_pos rfl]
  · next h => rw [State.modBay_bay, if_neg h]

/-- A bay whose session ends has none, and is otherwise as it was. -/
theorem State.endSession_bay_outline : ((s.endSession b).bay x).outline =
    if x = b then ({ s.bay b with session := none } : Bay).outline else (s.bay x).outline := by
  unfold State.endSession
  split
  · rw [State.releaseRequest_bay_outline, State.modGrant_bay, State.modBay_bay_outline]
  · next h =>
    split
    · next hx =>
      subst hx
      have hnone : (s.bay x).session = none := by simpa using h
      rw [← hnone]
    · rfl

/-- The end of a round leaves the bays alone. -/
@[simp] theorem State.checkRound_bay : s.checkRound.bay x = s.bay x := by
  unfold State.checkRound
  split <;> rfl

end

/-! ## What the outline shows of a bay -/

theorem Bay.state_of_outline {y z : Bay} (h : y.outline = z.outline) : y.state = z.state := (congrArg Bay.state h :)

@[simp] theorem Bay.outline_state (y : Bay) : y.outline.state = y.state := rfl
@[simp] theorem Bay.outline_identity (y : Bay) : y.outline.identity = y.identity := rfl
@[simp] theorem Bay.outline_session (y : Bay) : y.outline.session = y.session := rfl

end Sys2Proof.Machine
end

section
/-! SUPPORT. Ready counts at every row (R11): each row either leaves every ready count as it was or hands the changed
ones to the
dispatcher, with the statement about shortages and ready counts. -/

namespace Sys2Proof.Machine

/-- No ready count changes, and none is handed over. -/
structure State.SameReady (s t : State) : Prop where
  handed : t.disp.ready = s.disp.ready
  counts : ∀ c, t.readyCount c = s.readyCount c

/-- The operation leaves every ready count handed over as it is. -/
def State.KeepsHanded (s t : State) : Prop := s.ReadyHanded → t.ReadyHanded

section
variable {s t u : State} {b : BayNo}

theorem State.SameReady.refl (s : State) : s.SameReady s := ⟨rfl, fun _ => rfl⟩

theorem State.SameReady.trans (h : s.SameReady t) (h' : t.SameReady u) : s.SameReady u :=
  ⟨h'.handed.trans h.handed, fun c => (h'.counts c).trans (h.counts c)⟩

theorem State.SameReady.keepsHanded (h : s.SameReady t) : s.KeepsHanded t := fun hs c => by
  rw [h.counts c, ← hs c, h.handed]

theorem State.KeepsHanded.trans (h : s.KeepsHanded t) (h' : t.KeepsHanded u) : s.KeepsHanded u := fun hs => h' (h hs)

/-! ## What leaves the ready counts alone -/

theorem State.SameReady.of_outline (h : t.outline = s.outline) (hr : t.disp.ready = s.disp.ready) : s.SameReady t :=
  ⟨hr, State.readyCount_of_outline h⟩

/-- An operation that leaves the books alone, and every bay as fit for a ready pack as it was. -/
theorem State.SameReady.of_books (h : t.books = s.books) (hb : ∀ x, (t.bay x).readyState = (s.bay x).readyState) :
    s.SameReady t :=
  ⟨State.ready_of_books h, State.readyCount_congr (congrArg Register.packs (State.register_of_books h)) hb⟩

theorem Bay.readyState_congr {y z : Bay} (h : y.outline = z.outline) : y.readyState = z.readyState := by
  rw [← Bay.readyState_outline, h, Bay.readyState_outline]

/-- Only in MAINTAIN and STANDBY is a bay fit for a ready pack. -/
theorem Bay.not_readyState {y : Bay} (hm : y.state ≠ .maintain) (hs : y.state ≠ .standby) : y.readyState = false := by
  unfold Bay.readyState
  split <;> simp_all

/-- An event at one bay that leaves the books alone, and that bay as fit as it was. -/
theorem State.SameReady.of_away (hk : t.books = s.books) (ha : t.away b = s.away b)
    (hb : (t.bay b).readyState = (s.bay b).readyState) : s.SameReady t :=
  .of_books hk fun x => by
    by_cases hx : x = b
    · rw [hx, hb]
    · exact Bay.readyState_congr (State.bay_of_away ha hx)

/-- A change of records that keeps each one's class and readiness. -/
theorem State.SameReady.of_map {f : PackRec → PackRec} (hr : t.disp.ready = s.disp.ready)
    (hp : t.register.packs = s.register.packs.map f)
    (h : ∀ r ∈ s.register.packs, (f r).cls = r.cls ∧ t.packReady (f r) = s.packReady r) : s.SameReady t :=
  ⟨hr, State.readyCount_of_map hp h⟩

end

/-! ## The shared operations -/

section
variable (s : State) (b : BayNo)

theorem State.pass_sameReady : s.SameReady s.pass := .of_outline s.pass_outline (State.ready_of_books s.pass_books)

theorem State.relevel_sameReady : s.SameReady (s.relevel b) :=
  .of_outline (s.relevel_outline b) (State.ready_of_books (s.relevel_books b))

theorem State.redrive_sameReady : s.SameReady (s.redrive b) :=
  .of_outline (State.outline_congr (s.redrive_passOutline b)) (State.ready_of_books (s.redrive_books b))

theorem State.computeShort_sameReady (c : ClassNo) : s.SameReady (s.computeShort c) :=
  .of_outline (s.computeShort_outline c) (s.computeShort_ready c)

theorem State.computeAllShort_sameReady : s.SameReady s.computeAllShort :=
  .of_outline s.computeAllShort_outline (by unfold State.computeAllShort; exact State.computeShorts_ready _ s)

theorem State.SameReady.pass {s t : State} (h : s.SameReady t) : s.SameReady t.pass := h.trans t.pass_sameReady

theorem State.SameReady.computeShort {s t : State} (h : s.SameReady t) (c : ClassNo) : s.SameReady (t.computeShort c) :=
  h.trans (t.computeShort_sameReady c)

theorem State.SameReady.computeAllShort {s t : State} (h : s.SameReady t) : s.SameReady t.computeAllShort :=
  h.trans t.computeAllShort_sameReady

/-- An operation after which every count is handed over as it is keeps that. -/
theorem State.KeepsHanded.of_handed {s t : State} (h : t.ReadyHanded) : s.KeepsHanded t := fun _ => h

theorem State.setCarried_sameReady (u : Nat) : s.SameReady (s.setCarried b u) :=
  .of_books (s.setCarried_books b u) fun x => Bay.readyState_congr (s.setCarried_bay_outline b x u)

theorem State.checkRound_sameReady : s.SameReady s.checkRound :=
  .of_books s.checkRound_books fun x => by rw [State.checkRound_bay]

theorem State.handAllReady_keepsHanded : s.KeepsHanded s.handAllReady := fun _ => s.handAllReady_readyHanded

/-- A latch outside an event of the dispatcher's own hands the ready counts over. -/
theorem State.latch_readyHanded (k : FaultKind) (ks : List FaultKind) (n : Option Nat) (c : Option ClassNo) :
    (s.latch b k ks n c false).ReadyHanded := by
  simp only [State.latch, State.handUnless, Bool.false_eq_true, if_false]
  exact (State.relevel_sameReady _ b).keepsHanded (State.handAllReady_readyHanded _)

/-- A kind that calls for no quarantine joins a record without any change of the packs. -/
theorem State.joinFault_sameReady {k : FaultKind} (hk : k.quarantines = false) : s.SameReady (s.joinFault b k) := by
  unfold State.joinFault
  split
  · exact .refl s
  · split
    · exact .refl s
    · next r _ _ =>
      have hq : (s.setFault b (some (r.join k))).quarantineFor b [k] = s.setFault b (some (r.join k)) := by
        unfold State.quarantineFor
        simp [hk]
      rw [hq]
      exact ⟨rfl, fun _ => rfl⟩

/-- A session starts where the bay was not fit for a ready pack, or a fault latches. -/
theorem State.startSession_keepsHanded (toCharge warm : Bool) (hm : (s.bay b).readyState = false) :
    s.KeepsHanded (s.startSession b toCharge warm false) := by
  unfold State.startSession
  split
  · exact .of_handed (s.latch_readyHanded b _ _ _ _)
  · split
    · refine State.SameReady.keepsHanded (.of_away (b := b) (by simp) (by simp) ?_)
      rw [hm]
      refine Bay.not_readyState ?_ ?_ <;>
      · rw [← Bay.outline_state]
        simp [State.moveTo_bay_outline]
    · refine State.SameReady.keepsHanded (.of_away (b := b) (by simp) (by simp) ?_)
      rw [hm]
      refine Bay.not_readyState ?_ ?_ <;>
      · rw [← Bay.outline_state]
        simp [State.moveTo_bay_outline]

/-! ## Records -/

/-- A change of one record that leaves what readiness reads. -/
theorem State.modPack_sameReady (g : Nat) {f : PackRec → PackRec} (hc : ∀ r, (f r).cls = r.cls)
    (hr : ∀ r, s.packReady (f r) = s.packReady r) : s.SameReady (s.modPack g f) :=
  .of_map (f := fun r => if r.tag = g then f r else r) rfl rfl fun r _ => by
    have hp : ∀ x, (s.modPack g f).packReady x = s.packReady x := fun x => rfl
    split
    · exact ⟨hc r, (hp _).trans (hr r)⟩
    · exact ⟨rfl, hp r⟩

theorem State.write_sameReady (w : StoreWrite) : s.SameReady (s.write w) := ⟨rfl, fun _ => rfl⟩

theorem State.saveCharge_sameReady (g : Nat) : s.SameReady (s.saveCharge g) := by
  unfold State.saveCharge
  split
  · exact s.write_sameReady _
  · exact .refl s

theorem State.savePack_sameReady (g : Nat) : s.SameReady (s.savePack g) := by
  unfold State.savePack
  split
  · exact s.write_sameReady _
  · exact .refl s

/-- What leaves the ready counts alone at each member of a list leaves them alone over the list. -/
theorem State.foldl_sameReady {α : Type} {f : State → α → State} (h : ∀ (s : State) x, s.SameReady (f s x)) (l : List α)
    (s : State) : s.SameReady (l.foldl f s) := by
  induction l generalizing s with
  | nil => exact .refl s
  | cons x xs ih => exact (h s x).trans (ih (f s x))

/-! ## Settings -/

theorem State.applySiteCap_sameReady (v : SiteSettings) : s.SameReady (s.applySiteCap v) := by
  simp only [State.applySiteCap]
  split
  · exact ⟨rfl, fun _ => rfl⟩
  · exact State.SameReady.pass ⟨rfl, fun _ => rfl⟩

theorem State.applyLookahead_sameReady (v : SiteSettings) : s.SameReady (s.applyLookahead v) := by
  simp only [State.applyLookahead]
  split
  · exact ⟨rfl, fun _ => rfl⟩
  · exact State.SameReady.computeAllShort ⟨rfl, fun _ => rfl⟩

theorem takeSetSite_sameReady (a : SiteArgs) : (takeSetSite a s).Leaves s.SameReady := by
  unfold takeSetSite
  split
  · trivial
  · next v _ =>
    have h := ((s.write_sameReady (.site v)).trans (State.applySiteCap_sameReady _ v)).trans
      (State.applyLookahead_sameReady _ v)
    exact h.trans ⟨rfl, fun _ => rfl⟩

theorem takeSetFeeder_sameReady (f n : Nat) : (takeSetFeeder f n s).Leaves s.SameReady := by
  unfold takeSetFeeder
  split
  · trivial
  · simp only [Answer.Leaves]
    split
    · exact ⟨rfl, fun _ => rfl⟩
    · exact State.SameReady.pass ⟨rfl, fun _ => rfl⟩

theorem State.capCharge_sameReady (n : Nat) (r : PackRec) : s.SameReady (s.capCharge n r) := by
  unfold State.capCharge
  split
  · exact (s.modPack_sameReady r.tag (f := fun p => { p with charge := n }) (fun _ => rfl) fun _ => rfl).trans
      (State.saveCharge_sameReady _ _)
  · exact .refl s

theorem Bay.capAnonymous_readyState (y : Bay) (c : ClassNo) (n : Nat) :
    (y.capAnonymous c n).readyState = y.readyState := by
  unfold Bay.capAnonymous
  split
  · split <;> rfl
  · rfl

theorem State.capCharges_sameReady (c : ClassNo) (n : Nat) : s.SameReady (s.capCharges c n) := by
  rw [State.capCharges_eq]
  have h : s.SameReady (s.capPacks c n) := State.foldl_sameReady (fun t r => t.capCharge_sameReady n r) _ s
  refine h.trans (.of_books (State.setBays_books _ _) fun x => ?_)
  simp [State.bay, Bay.capAnonymous_readyState]

/-- A COOLING bay whose cool expiry is recomputed may start a session, and is fit for a ready pack neither before nor
after. -/
theorem State.recool_keepsHanded (n : Nat) (hb : (s.bay b).state = .cooling) : s.KeepsHanded (s.recool n b) := by
  have quiet : ∀ e, s.SameReady (s.modBay b fun y => { y with coolExpiry := e }) := fun e =>
    .of_books rfl fun x => by
      rw [State.modBay_bay]
      split
      · next h => rw [h]; rfl
      · rfl
  have hready : ∀ e, ((s.modBay b fun y => { y with coolExpiry := e }).bay b).readyState = false := fun e => by
    rw [State.modBay_bay, if_pos rfl]
    exact Bay.not_readyState (by simp [hb]) (by simp [hb])
  simp only [State.recool]
  split
  · exact (quiet none).keepsHanded
  · split
    · exact (quiet none).keepsHanded.trans (State.startSession_keepsHanded _ b _ true (hready none))
    · exact (quiet _).keepsHanded

/-- The COOLING bays of a class, one after another: each leaves the others in COOLING. -/
theorem State.foldl_recool_keepsHanded (n : Nat) (l : List BayNo) (hl : l.Nodup)
    (hb : ∀ x ∈ l, (s.bay x).state = .cooling) : s.KeepsHanded (l.foldl (fun t b => t.recool n b) s) := by
  induction l generalizing s with
  | nil => exact id
  | cons x xs ih =>
    obtain ⟨hx, hxs⟩ := List.nodup_cons.1 hl
    refine (s.recool_keepsHanded x n (hb x (List.mem_cons_self ..))).trans (ih _ hxs fun y hy => ?_)
    have hne : y ≠ x := fun h => hx (h ▸ hy)
    rw [Bay.state_of_outline (State.bay_of_away (s.recool_away x n) hne)]
    exact hb y (List.mem_cons_of_mem _ hy)

theorem State.applyClass_keepsHanded (c : ClassNo) (r : ClassRec) : s.KeepsHanded (s.applyClass c r) := by
  have h1 : s.SameReady (((s.setClassRec c r).capCharges c (fullCharge r.capacity)).computeShort c) :=
    State.SameReady.trans (t := s.setClassRec c r) ⟨rfl, fun _ => rfl⟩
      ((State.capCharges_sameReady _ c _).trans (State.computeShort_sameReady _ c))
  simp only [State.applyClass]
  refine State.KeepsHanded.trans (t := ite _ _ _) ?_ (State.foldl_recool_keepsHanded _ _ _ ?_ fun x hx => ?_)
  · split
    · exact h1.keepsHanded
    · exact (h1.trans (State.pass_sameReady _)).keepsHanded
  · exact (List.nodup_finRange 24).filter _
  · have h := (List.mem_filter.1 hx).2
    simp only [decide_eq_true_eq] at h
    exact h.1

theorem takeSetClass_keepsHanded (c : Nat) (a : ClassArgs) : (takeSetClass c a s).Leaves s.KeepsHanded := by
  unfold takeSetClass
  split
  · trivial
  · split
    · trivial
    · split
      · trivial
      · exact s.applyClass_keepsHanded _ _

theorem takeSetOcv_sameReady (c : Nat) (a : OcvArgs) : (takeSetOcv c a s).Leaves s.SameReady := by
  unfold takeSetOcv
  split
  · split
    · trivial
    · split
      · trivial
      · exact ⟨rfl, fun _ => rfl⟩
  · trivial

theorem takeSetProfile_sameReady (p : Nat) (a : ProfileArgs) : (takeSetProfile p a s).Leaves s.SameReady := by
  unfold takeSetProfile
  split
  · split
    · trivial
    · exact ⟨rfl, fun _ => rfl⟩
  · trivial

theorem takeSetStage_sameReady (p k : Nat) (a : StageArgs) : (takeSetStage p k a s).Leaves s.SameReady := by
  unfold takeSetStage
  split
  · split
    · trivial
    · exact ⟨rfl, fun _ => rfl⟩
  · trivial

theorem takeShed_sameReady (c d : Nat) : (takeShed c d s).Leaves s.SameReady := by
  simp only [takeShed, Answer.Leaves, State.applyShed]
  split
  · exact State.SameReady.pass ⟨rfl, fun _ => rfl⟩
  · split
    · exact State.SameReady.pass ⟨rfl, fun _ => rfl⟩
    · exact .refl s

/-! ## Bay commands -/

theorem State.setCfg_sameReady (g : BayCfg) : s.SameReady (s.setCfg b g) := by
  refine State.SameReady.trans (t := s.modBay b fun y => { y with cfg := g }) (.of_books rfl fun x => ?_)
    (State.write_sameReady _ _)
  rw [State.modBay_bay]
  split
  · next h => rw [h]; rfl
  · rfl

theorem State.maskOut_readyHanded : (s.maskOut b).ReadyHanded := by
  simp only [State.maskOut]
  exact (State.checkRound_sameReady _).keepsHanded (State.handAllReady_readyHanded _)

/-- A MASKED bay comes back VACANT: it is fit for a ready pack neither before nor after. -/
theorem State.maskIn_sameReady (hb : (s.bay b).state = .masked) : s.SameReady (s.maskIn b) := by
  refine .of_books (s.maskIn_books b) fun x => ?_
  have hx : ((s.maskIn b).bay x).outline = if x = b then _ else _ := State.moveTo_bay_outline _ b x .vacant
  by_cases h : x = b
  · rw [if_pos h] at hx
    rw [h] at hx ⊢
    rw [Bay.not_readyState (y := s.bay b) (by simp [hb]) (by simp [hb])]
    refine Bay.not_readyState ?_ ?_ <;> simp [Bay.state_of_outline hx]
  · rw [if_neg h] at hx
    rw [Bay.readyState_congr hx, State.modBay_bay, if_neg h]
    rfl

theorem takeMaskBay_keepsHanded (n : Nat) : (takeMaskBay n s).Leaves s.KeepsHanded := by
  unfold takeMaskBay
  split
  · trivial
  · split
    · trivial
    · exact .of_handed (State.maskOut_readyHanded _ _)

theorem State.setCfg_state (g : BayCfg) : ((s.setCfg b g).bay b).state = (s.bay b).state := by
  change ((s.modBay b fun y => { y with cfg := g }).bay b).state = _
  rw [State.modBay_bay, if_pos rfl]

theorem takeUnmaskBay_sameReady (n : Nat) : (takeUnmaskBay n s).Leaves s.SameReady := by
  unfold takeUnmaskBay
  split
  · trivial
  · split
    · trivial
    · next b _ hm =>
      exact (s.setCfg_sameReady b _).trans (State.maskIn_sameReady _ b (by rw [State.setCfg_state]; simpa using hm))

/-- A SET BAY that unmasks is taken of a MASKED bay only (R27, item 4). -/
theorem State.masked_of_refuseCfg {g : BayCfg} (h : s.refuseCfg b g = none) (hn : g.masked = false)
    (ho : (s.bay b).cfg.masked = true) : (s.bay b).state = .masked := by
  by_contra hm
  unfold State.refuseCfg at h
  simp only [hn, ho] at h
  split at h
  · cases h
  · split at h
    · cases h
    · simp [hm] at h

theorem takeSetBay_keepsHanded (n : Nat) (a : BayArgs) : (takeSetBay n a s).Leaves s.KeepsHanded := by
  unfold takeSetBay
  split
  · next b g _ _ =>
    split
    · trivial
    · next hrefuse =>
      have hmask : s.KeepsHanded ((s.setCfg b g).applyMasked b (s.bay b).cfg.masked g.masked) := by
        unfold State.applyMasked
        split
        · exact .of_handed (State.maskOut_readyHanded _ _)
        · split
          · next h =>
            have hm := s.masked_of_refuseCfg b hrefuse h.1 h.2
            exact ((s.setCfg_sameReady b g).trans (State.maskIn_sameReady _ b
                (by rw [State.setCfg_state, hm]))).keepsHanded
          · exact (s.setCfg_sameReady b g).keepsHanded
      have hfeeder : ∀ (u : State) (o : BayCfg), u.SameReady (u.applyFeeder b o g) := fun u o => by
        unfold State.applyFeeder
        split
        · exact (u.relevel_sameReady b).trans (State.pass_sameReady _)
        · exact .refl u
      simp only [Answer.Leaves, State.applyCfg]
      exact hmask.trans (hfeeder _ _).keepsHanded
  · trivial

theorem takeStopBay_keepsHanded (n : Nat) : (takeStopBay n s).Leaves s.KeepsHanded := by
  unfold takeStopBay
  split
  · trivial
  · split
    · trivial
    · simp only [Answer.Leaves, takenAt, State.stopAt]
      exact .of_handed (State.handAllReady_readyHanded _)

theorem takeStartBay_keepsHanded (n : Nat) : (takeStartBay n s).Leaves s.KeepsHanded := by
  unfold takeStartBay
  split
  · trivial
  · split
    · trivial
    · exact .of_handed (State.handAllReady_readyHanded _)

/-- A bay that leaves FAULT is fit for a ready pack neither before nor after. -/
theorem takeClearFault_sameReady (n : Nat) : (takeClearFault n s).Leaves s.SameReady := by
  unfold takeClearFault
  split
  · trivial
  · next b _ =>
    split
    · next hf _ =>
      split
      · trivial
      · refine State.SameReady.of_books (by simp [State.clearFaultAt]) fun x => ?_
        have hx : ((s.clearFaultAt b).bay x).outline = if x = b then _ else _ := State.reidentify_bay_outline _ b x
        by_cases h : x = b
        · rw [if_pos h] at hx
          rw [h] at hx ⊢
          rw [Bay.not_readyState (y := s.bay b) (by simp [hf]) (by simp [hf])]
          split at hx <;> exact Bay.not_readyState (by simp [Bay.state_of_outline hx])
            (by simp [Bay.state_of_outline hx])
        · rw [if_neg h] at hx
          exact Bay.readyState_congr hx
    · trivial

end

end Sys2Proof.Machine
end

section
/-! SUPPORT. Ready counts at the issue and pack commands, the events and the power rows (R11), and the statement about
shortages
and ready counts. -/

namespace Sys2Proof.Machine

/-- What an event gives of the ready counts where records and lists agree and no pack of a TAKEN part is ready (R126). -/
def State.HandsReady (s t : State) : Prop := s.register.Agrees → s.TakenNotReady → s.KeepsHanded t

section
variable (s : State) (b : BayNo)

theorem State.KeepsHanded.handsReady {s t : State} (h : s.KeepsHanded t) : s.HandsReady t := fun _ _ => h

theorem State.SameReady.handsReady {s t : State} (h : s.SameReady t) : s.HandsReady t := h.keepsHanded.handsReady

/-! ## Confirming packs -/

/-- The record of a tag is of a pack that is ready. -/
def State.tagReady (s : State) (g : Nat) : Bool := ((s.pack g).map s.packReady).getD false

/-- A pack at a machine is not ready. -/
theorem State.not_packReady_of_machine (r : PackRec) {m : Nat} (h : r.place = .machine m) : s.packReady r = false := by
  simp [State.packReady, State.readyPlace, h]

/-- A record after its pack is confirmed to a machine (R124). -/
def PackRec.confirmed (r : PackRec) (m : Nat) : PackRec :=
  { r with place := .machine m, mark := none, lastMachine := some m }

/-- A list with a tag moved to its tail (R10). -/
def movedToTail (g : Nat) (l : List Nat) : List Nat := (l.filter fun x => decide (x ≠ g)) ++ [g]

/-- All a confirmation does: the record at its machine, unmarked, its tag at the tail of its list, and three writes
(R124). -/
theorem State.confirmPack_eq {s : State} {g : Nat} {r : PackRec} (hr : s.pack g = some r) (m : Nat) : s.confirmPack m g =
    { s with
      register := { s.register with
        packs := s.register.packs.map fun p => if p.tag = g then p.confirmed m else p
        rotation := s.register.rotation.set r.cls (movedToTail r.tag (s.rotation r.cls)) }
      inFlight := s.inFlight ++ [.pack (r.confirmed m), .rotation r.cls (movedToTail r.tag (s.rotation r.cls)),
        .charge g r.charge] } := by
  have hpack : (s.modPack g fun p => p.confirmed m).pack g = some (r.confirmed m) := by
    rw [State.modPack_pack s g g (f := fun p => p.confirmed m) fun _ => rfl, if_pos rfl, hr]
    rfl
  have hsaved := State.modPack_savePack hr (f := fun p => p.confirmed m) fun _ => rfl
  have hcharge : ∀ u : State, u.pack g = some (r.confirmed m) → u.saveCharge g = u.write (.charge g r.charge) :=
    fun u hu => by
      simp only [State.saveCharge, hu]
      rfl
  have hall : s.confirmPack m g = (((s.modPack g fun p => p.confirmed m).savePack g).toTail r).saveCharge g := by
    simp only [State.confirmPack, hr]
    rfl
  rw [hall, hsaved, hcharge (((s.modPack g fun p => p.confirmed m).write (.pack (r.confirmed m))).toTail r) hpack]
  simp [State.toTail, State.setRotation, State.write, State.modPack, movedToTail, State.rotation]

/-- A confirmation of a tag without a record does nothing. -/
theorem State.confirmPack_of_none {s : State} {g : Nat} (hn : s.pack g = none) (m : Nat) : s.confirmPack m g = s := by
  simp [State.confirmPack, hn]

/-- A confirmed pack that was not ready is not ready, and no other pack's readiness changes. -/
theorem State.confirmPack_sameReady (m : Nat) {g : Nat} (hs : packsSorted s.register.packs = true)
    (hg : s.tagReady g = false) : s.SameReady (s.confirmPack m g) := by
  cases hr : s.pack g with
  | none => rw [State.confirmPack_of_none hr]; exact .refl s
  | some r =>
    rw [State.confirmPack_eq hr]
    refine .of_map rfl rfl fun p hp => ?_
    have same : ∀ (w : List StoreWrite) (h : Register) x, ({ s with register := h, inFlight := w } : State).packReady x =
        s.packReady x := fun _ _ _ => rfl
    rw [same]
    split
    · next ht =>
      have hpr : p = r := Option.some.inj ((findPack_of_mem hs hp).symm.trans (ht ▸ hr))
      have hn : s.packReady p = false := by simpa [State.tagReady, hr, hpr] using hg
      exact ⟨rfl, by rw [hn]; exact s.not_packReady_of_machine _ rfl⟩
    · exact ⟨rfl, rfl⟩

/-- A confirmation keeps the tags of the records, and makes no pack ready. -/
theorem State.confirmPack_tags (m g : Nat) :
    (s.confirmPack m g).register.packs.map (·.tag) = s.register.packs.map (·.tag) ∧
      ∀ x, s.tagReady x = false → (s.confirmPack m g).tagReady x = false := by
  cases hr : s.pack g with
  | none => rw [State.confirmPack_of_none hr]; exact ⟨rfl, fun _ => id⟩
  | some r =>
    rw [State.confirmPack_eq hr]
    constructor
    · rw [List.map_map]
      refine List.map_congr_left fun p _ => ?_
      simp only [Function.comp_apply]
      split <;> rfl
    · intro x hx
      have hpack := s.modPack_pack g x (f := fun p => p.confirmed m) fun _ => rfl
      change (((s.modPack g fun p => p.confirmed m).pack x).map s.packReady).getD false = false
      rw [hpack]
      split
      · cases s.pack x with
        | none => rfl
        | some p => exact s.not_packReady_of_machine _ rfl
      · exact hx

/-- Packs that are not ready, confirmed one after another, change no ready count. -/
theorem State.confirmPacks_sameReady (m : Nat) (gs : List Nat) (hs : packsSorted s.register.packs = true)
    (hg : ∀ g ∈ gs, s.tagReady g = false) : s.SameReady (s.confirmPacks m gs) := by
  induction gs generalizing s with
  | nil => exact .refl s
  | cons g gs ih =>
    obtain ⟨htags, hkeep⟩ := s.confirmPack_tags m g
    refine (s.confirmPack_sameReady m hs (hg g (List.mem_cons_self ..))).trans (ih _ ?_ fun x hx => ?_)
    · rw [packsSorted_iff, htags, ← packsSorted_iff]
      exact hs
    · exact hkeep x (hg x (List.mem_cons_of_mem _ hx))

/-- Confirming the TAKEN parts of an entry of the list, none of whose packs is ready, changes no ready count (R126,
R127). -/
theorem State.confirmIssue_handsReady {i : Issue} (hi : i ∈ s.disp.issues) : s.HandsReady (s.confirmIssue i) := by
  intro ha ht
  have hready : ∀ g ∈ i.takenParts.filterMap (·.pack), s.tagReady g = false := fun g hg => by
    obtain ⟨p, hp, hpg⟩ := List.mem_filterMap.1 hg
    obtain ⟨hp, htaken⟩ := List.mem_filter.1 hp
    have h := ht i hi p hp (by simpa [Part.isTaken] using htaken)
    rw [hpg] at h
    exact h
  simp only [State.confirmIssue]
  exact ((s.confirmPacks_sameReady i.machine _ ha.1 hready).trans ⟨rfl, fun _ => rfl⟩).keepsHanded

theorem takeConfirm_handsReady (m : Nat) : (takeConfirm m s).Leaves s.HandsReady := by
  unfold takeConfirm
  split
  · trivial
  · split
    · trivial
    · next hi =>
      split
      · trivial
      · exact s.confirmIssue_handsReady (List.mem_of_find?_eq_some hi)

theorem takeConfirmNext_handsReady : (takeConfirmNext s).Leaves s.HandsReady := by
  unfold takeConfirmNext
  split
  · trivial
  · next hi => exact s.confirmIssue_handsReady (List.mem_of_find?_eq_some hi)

/-! ## The other commands of the dispatcher and the register -/

theorem State.closeEvent_keepsHanded (t : State) (cs : List ClassNo) : s.KeepsHanded (t.closeEvent cs) :=
  .of_handed (t.closeEvent_readyHanded cs)

theorem takeIssueClass_keepsHanded (m c : Nat) : (takeIssueClass m c s).Leaves s.KeepsHanded := by
  unfold takeIssueClass
  split
  · split
    · trivial
    · split
      · trivial
      · simp only
        split
        · trivial
        · simp only [Answer.Leaves, State.issueClass]
          exact (s.closeEvent_keepsHanded _ _).trans (State.SameReady.keepsHanded ⟨rfl, fun _ => rfl⟩)
  · trivial

theorem takeIssueBay_keepsHanded (m n : Nat) (n' : Option Nat) : (takeIssueBay m n n' s).Leaves s.KeepsHanded := by
  unfold takeIssueBay
  split
  · split
    · trivial
    · split
      · trivial
      · split
        · trivial
        · split
          · trivial
          · exact s.closeEvent_keepsHanded _ _
  · trivial

theorem takeCancelIssue_keepsHanded (m : Nat) : (takeCancelIssue m s).Leaves s.KeepsHanded := by
  unfold takeCancelIssue
  split
  · trivial
  · split
    · trivial
    · exact s.closeEvent_keepsHanded _ _

theorem State.setReservations_sameReady (l : List Reservation) : s.SameReady (s.setReservations l) := ⟨rfl, fun _ => rfl⟩

theorem State.modLine_sameReady (f : LineRec → LineRec) : s.SameReady (s.modLine b f) := ⟨rfl, fun _ => rfl⟩

theorem takeReserve_sameReady (c m d : Nat) : (takeReserve c m d s).Leaves s.SameReady := by
  unfold takeReserve
  split
  · trivial
  · split
    · trivial
    · split
      · trivial
      · split
        · trivial
        · simp only [Answer.Leaves]
          exact (s.setReservations_sameReady _).computeShort _

theorem takeDropReservations_sameReady (c : Nat) : (takeDropReservations c s).Leaves s.SameReady := by
  unfold takeDropReservations
  split
  · trivial
  · simp only [Answer.Leaves]
    exact (s.setReservations_sameReady _).computeShort _

/-- A new record is not ready: its charge is not known (R15, R17). -/
theorem takeRegisterPack_sameReady (g c m : Nat) : (takeRegisterPack g c m s).Leaves s.SameReady := by
  unfold takeRegisterPack
  split
  · next c _ _ =>
    split
    · trivial
    · split
      · trivial
      · next hn =>
        split
        · trivial
        · split
          · trivial
          · refine ⟨rfl, fun k => congrArg List.length ?_⟩
            refine filter_putPack_of_none (r := PackRec.fresh g c (registerPlace m)) ?_
                (Option.not_isSome_iff_eq_none.1 hn)
            simp [State.packReady, PackRec.fresh]
  · trivial

/-- A deleted record is in no bay, and so its pack was not ready (R18). -/
theorem takeRemovePack_handsReady (g : Nat) : (takeRemovePack g s).Leaves s.HandsReady := by
  unfold takeRemovePack
  split
  · trivial
  · split
    · trivial
    · next r hr =>
      split
      · trivial
      · next hfree =>
        intro ha _
        refine State.SameReady.keepsHanded ⟨rfl, fun c => congrArg List.length ?_⟩
        change (dropPack r.tag s.register.packs).filter (fun p => decide (p.cls = c) && s.packReady p) = _
        unfold dropPack
        rw [List.filter_filter]
        refine List.filter_congr fun p hp => ?_
        by_cases ht : p.tag = r.tag
        · have hpr : p = r := Option.some.inj ((findPack_of_mem ha.1 hp).symm.trans (by
            rw [ht, (mem_of_findPack hr).2]; exact hr))
          have hn : s.packReady p = false := by
            rw [hpr]
            cases hplace : r.place <;> simp_all [State.packReady, State.readyPlace, Place.isBay]
          simp [hn]
        · simp [ht]

/-- A pack that is UNACCOUNTED is ready neither before nor after it is assigned to a machine (R19). -/
theorem takeAssignPack_handsReady (g m : Nat) : (takeAssignPack g m s).Leaves s.HandsReady := by
  unfold takeAssignPack
  split
  · trivial
  · split
    · trivial
    · next r hr =>
      split
      · next hplace =>
        intro ha _
        rw [State.setPlace_eq hr]
        refine State.SameReady.keepsHanded (.of_map rfl rfl fun p hp => ?_)
        have same : ∀ x, ((s.modPack g fun q => { q with place := .machine m }).write
          (.pack { r with place := .machine m })).packReady x = s.packReady x := fun _ => rfl
        rw [same]
        split
        · next ht =>
          have hpr : p = r := Option.some.inj ((findPack_of_mem ha.1 hp).symm.trans (ht ▸ hr))
          have hn : s.packReady p = false := by simp [State.packReady, State.readyPlace, hpr, hplace]
          exact ⟨rfl, by rw [hn]; exact s.not_packReady_of_machine _ rfl⟩
        · exact ⟨rfl, rfl⟩
      · trivial

theorem takeReleasePack_keepsHanded (g : Nat) : (takeReleasePack g s).Leaves s.KeepsHanded := by
  unfold takeReleasePack
  split
  · trivial
  · split
    · trivial
    · split
      · trivial
      · simp only [Answer.Leaves]
        exact .of_handed (State.handAllReady_readyHanded _)

theorem takeSetAttentionMask_sameReady (m : Vector Nat 8) : (takeSetAttentionMask m s).Leaves s.SameReady := by
  unfold takeSetAttentionMask
  split
  · trivial
  · exact ⟨rfl, fun _ => rfl⟩

theorem takeClear_keepsHanded : (takeClear s).Leaves s.KeepsHanded := by
  simp only [takeClear, Answer.Leaves, State.clearAll_eq]
  exact s.closeEvent_keepsHanded _ _

/-- What the owner of any command does hands the ready counts over. -/
theorem ownerOf_handsReady {c : Instr} {f : State → Answer} (h : ownerOf c = some f) : (f s).Leaves s.HandsReady := by
  have keeps : ∀ {a : Answer}, a.Leaves s.KeepsHanded → a.Leaves s.HandsReady :=
    fun ha => ha.mono fun _ => State.KeepsHanded.handsReady
  have same : ∀ {a : Answer}, a.Leaves s.SameReady → a.Leaves s.HandsReady :=
    fun ha => ha.mono fun _ => State.SameReady.handsReady
  cases c <;> simp only [ownerOf, Option.some.injEq, reduceCtorEq] at h <;> subst h
  case setSite a => exact same (takeSetSite_sameReady s a)
  case setFeeder f n => exact same (takeSetFeeder_sameReady s f n)
  case setClass c a => exact keeps (takeSetClass_keepsHanded s c a)
  case setOcv c a => exact same (takeSetOcv_sameReady s c a)
  case setProfile p a => exact same (takeSetProfile_sameReady s p a)
  case setStage p k a => exact same (takeSetStage_sameReady s p k a)
  case setBay b a => exact keeps (takeSetBay_keepsHanded s b a)
  case maskBay b => exact keeps (takeMaskBay_keepsHanded s b)
  case unmaskBay b => exact same (takeUnmaskBay_sameReady s b)
  case stopBay b => exact keeps (takeStopBay_keepsHanded s b)
  case startBay b => exact keeps (takeStartBay_keepsHanded s b)
  case clearFault b => exact same (takeClearFault_sameReady s b)
  case issueClass m c => exact keeps (takeIssueClass_keepsHanded s m c)
  case issueBay m b b' => exact keeps (takeIssueBay_keepsHanded s m b b')
  case confirm m => exact takeConfirm_handsReady s m
  case confirmNext => exact takeConfirmNext_handsReady s
  case cancelIssue m => exact keeps (takeCancelIssue_keepsHanded s m)
  case reserve c m d => exact same (takeReserve_sameReady s c m d)
  case dropReservations c => exact same (takeDropReservations_sameReady s c)
  case shed c d => exact same (takeShed_sameReady s c d)
  case registerPack t c m => exact same (takeRegisterPack_sameReady s t c m)
  case removePack t => exact takeRemovePack_handsReady s t
  case releasePack t => exact keeps (takeReleasePack_keepsHanded s t)
  case assignPack t m => exact takeAssignPack_handsReady s t m
  case readAttention => exact same ⟨rfl, fun _ => rfl⟩
  case setAttentionMask m => exact same (takeSetAttentionMask_sameReady s m)
  case clear => exact keeps (takeClear_keepsHanded s)
  case readBay b =>
    refine same ?_
    simp only [takeReadBay]
    split
    · trivial
    · exact ⟨rfl, fun _ => rfl⟩
  case readPack t =>
    refine same ?_
    simp only [takeReadPack]
    split
    · trivial
    · split
      · trivial
      · exact .refl s
  case readClass c =>
    refine same ?_
    simp only [takeReadClass]
    split
    · trivial
    · exact .refl s
  case readGrants f n =>
    refine same ?_
    simp only [takeReadGrants]
    split
    · trivial
    · exact .refl s
  case readIssues => exact same (.refl s)
  case readReservations => exact same (.refl s)
  case readFault b =>
    refine same ?_
    simp only [takeReadFault]
    split
    · trivial
    · exact .refl s

/-! ## Events -/

theorem State.SameReady.ite {s t : State} (h : s.SameReady t) (p : Prop) [Decidable p] :
    s.SameReady (if p then t else s) := by
  split
  · exact h
  · exact .refl s

theorem State.dropOverdue_sameReady : s.SameReady s.dropOverdue := by
  simp only [State.dropOverdue]
  split <;> exact ⟨rfl, fun _ => rfl⟩

theorem State.lapse_keepsHanded (m : Nat) : s.KeepsHanded (s.lapse m) := by
  unfold State.lapse
  split
  · exact id
  · exact s.closeEvent_keepsHanded _ _

theorem State.expireTurn_sameReady : s.SameReady (s.expireTurn b) := by
  unfold State.expireTurn
  split
  · simp only [State.releaseTurn]
    refine State.SameReady.pass (State.SameReady.trans (t := State.requeue _ _ b) ?_ (State.redrive_sameReady _ b))
    exact ⟨rfl, fun _ => rfl⟩
  · exact ⟨rfl, fun _ => rfl⟩

/-- A report is credited, and its event ends with the ready counts handed over (R11, R29). -/
theorem State.deliver_keepsHanded (rep : Report) : s.KeepsHanded (s.deliver b rep) := by
  have hcarried : ∀ (f : LineRec → LineRec) (u : Nat), s.SameReady ((s.modLine b f).setCarried b u) := fun f u =>
    (s.modLine_sameReady b f).trans (State.setCarried_sameReady _ b u)
  simp only [State.deliver]
  split
  · exact (hcarried _ _).keepsHanded
  · simp only [State.goodReportAt]
    exact .of_handed (State.handAllReady_readyHanded _)

theorem State.endSlot_sameReady : s.SameReady s.endSlot := by
  unfold State.endSlot
  exact State.SameReady.trans (t := { s with scanner := { s.scanner with slot := none } }) ⟨rfl, fun _ => rfl⟩
    (State.checkRound_sameReady _)

/-- STAGE_LOST latches, which hands the counts over, or joins a record, which changes no pack (R142). -/
theorem State.raiseFault_keepsHanded : s.KeepsHanded (s.raiseFault b .stageLost) := by
  unfold State.raiseFault
  split
  · exact (State.joinFault_sameReady _ b rfl).keepsHanded
  · exact .of_handed (State.latch_readyHanded _ b _ _ _ _)

theorem State.missSlot_keepsHanded : s.KeepsHanded (s.missSlot b) := by
  unfold State.missSlot
  refine s.endSlot_sameReady.keepsHanded.trans ?_
  simp only [State.miss]
  split
  · exact id
  · split
    · exact (State.modLine_sameReady _ b _).keepsHanded.trans (State.raiseFault_keepsHanded _ b)
    · exact (State.modLine_sameReady _ b _).keepsHanded

theorem State.receive_keepsHanded (bytes : List Byte) : s.KeepsHanded (s.receive bytes) := by
  unfold State.receive
  split
  · unfold State.answerSlot
    split
    · exact s.endSlot_sameReady.keepsHanded.trans (State.deliver_keepsHanded _ _ _)
    · exact s.missSlot_keepsHanded _
  · exact id

theorem State.sendPoll_sameReady (r : Bool) : s.SameReady (s.sendPoll b r) := ⟨rfl, fun _ => rfl⟩

theorem State.endHold_sameReady : s.SameReady s.endHold := by
  unfold State.endHold
  exact State.SameReady.pass ⟨rfl, fun _ => rfl⟩

theorem State.endShed_sameReady : s.SameReady s.endShed :=
  State.SameReady.pass (t := s.setShed none) ⟨rfl, fun _ => rfl⟩

theorem State.nextMinute_sameReady : s.SameReady s.nextMinute := by
  unfold State.nextMinute
  refine State.SameReady.computeAllShort (State.SameReady.trans ?_ (State.dropOverdue_sameReady _))
  exact ⟨rfl, fun _ => rfl⟩

theorem State.loseStage_sameReady : s.SameReady (s.loseStage b) := by
  unfold State.loseStage
  refine State.SameReady.trans ?_ (State.setCarried_sameReady _ b 0)
  exact ⟨rfl, fun _ => rfl⟩

theorem State.beginRound_sameReady : s.SameReady s.beginRound := by
  unfold State.beginRound
  refine State.SameReady.trans ?_ (State.checkRound_sameReady _)
  exact ⟨rfl, fun _ => rfl⟩

theorem State.discardFrame_sameReady : s.SameReady s.discardFrame := ⟨rfl, fun _ => rfl⟩

theorem State.setReceiver_sameReady (r : Receiver) : s.SameReady (s.setReceiver r) := ⟨rfl, fun _ => rfl⟩

/-- Every event of the running part hands the ready counts over. -/
theorem eventOf_keepsHanded {c : Instr} {f : State → State} (h : eventOf c = some f)
    (hframe : ∀ k b x, c ≠ .frameComplete k b x) : s.KeepsHanded (f s) := by
  cases c <;> simp only [eventOf, Option.some.injEq, reduceCtorEq] at h <;> subst h
  case startupHoldEnd => exact (s.endHold_sameReady.ite _).keepsHanded
  case depotMinuteAdvance => exact (s.nextMinute_sameReady.ite _).keepsHanded
  case reservationGraceExpiry => exact (s.dropOverdue_sameReady.computeAllShort.ite _).keepsHanded
  case issueLapse m => exact s.lapse_keepsHanded m
  case turnExpiry b => exact ((s.expireTurn_sameReady b).ite _).keepsHanded
  case shedExpiry => exact (s.endShed_sameReady.ite _).keepsHanded
  case coolExpiry b =>
    dsimp only
    split
    · exact .of_handed (State.handAllReady_readyHanded _)
    · exact id
  case lostStageExpiry b => exact ((s.loseStage_sameReady b).ite _).keepsHanded
  case roundStart => exact (s.beginRound_sameReady.ite _).keepsHanded
  case regularPoll =>
    unfold State.pollRegular
    split
    · exact State.SameReady.keepsHanded ⟨rfl, fun _ => rfl⟩
    · exact id
  case promptPoll =>
    unfold State.pollPrompt
    split
    · exact (s.sendPoll_sameReady _ false).keepsHanded
    · exact id
  case reportReceived bytes => exact s.receive_keepsHanded bytes
  case pollSlotTimeout =>
    unfold State.timeoutSlot
    split
    · exact s.missSlot_keepsHanded _
    · exact id
  case thirdConsecutiveMiss =>
    unfold State.timeoutThird
    split
    · split
      · exact s.missSlot_keepsHanded _
      · exact id
    · exact id
  case frameComplete k b x => exact absurd rfl (hframe k b x)
  case frameDiscardedBusy => exact (s.discardFrame_sameReady.ite _).keepsHanded
  case byteGapTimeout => exact ((s.setReceiver_sameReady _).ite _).keepsHanded
  case lengthOutOfRange l => exact ((s.setReceiver_sameReady _).ite _).keepsHanded
  case replySent => exact State.SameReady.keepsHanded ⟨rfl, fun _ => rfl⟩
  case startMarkerReceived => exact ((s.setReceiver_sameReady _).ite _).keepsHanded

/-! ## Power rows and steps -/

theorem State.settle_sameReady : s.SameReady s.settle := ⟨rfl, fun _ => rfl⟩

/-- A part without its working state has no pack, and so no ready one. -/
theorem State.blank_readyHanded {t : State} (hp : t.register.packs = []) (hr : t.disp.ready = Vector.replicate 8 0) :
    t.ReadyHanded := fun c => by
  simp [State.readyCount, hp, hr]

/-- After the restore every bay is VACANT or MASKED, and no pack is ready (R22, R28). -/
theorem State.endRestore_keepsHanded : s.KeepsHanded s.endRestore := by
  by_cases h : s.restores = true
  · refine .of_handed fun c => ?_
    have hready : ∀ b, (s.endRestore.bay b).readyState = false := fun b => by
      obtain ⟨_, _, _, hst, _⟩ := State.endRestore_rack h b
      refine Bay.not_readyState ?_ ?_ <;> rw [hst] <;> split <;> simp
    have hnone : ∀ r, s.endRestore.packReady r = false := fun r => by
      cases hr : r.place <;> simp [State.packReady, State.readyPlace, hr, hready]
    have hzero : s.endRestore.disp.ready = Vector.replicate 8 0 := by
      obtain ⟨w, o, sh, ss, ht⟩ := State.endRestore_eq h
      rw [ht]
      rfl
    simp [State.readyCount, hnone, hzero]
  · rw [State.endRestore, if_neg h]
    exact s.settle_sameReady.keepsHanded

/-- Every power row hands the ready counts over. -/
theorem exec_power_keepsHanded {c : Instr} (hp : powerRow c = true) {t : State} (h : exec c s = .next t) :
    s.KeepsHanded t := by
  cases c with
  | powerOn =>
    cases h
    unfold State.powerOn
    split
    · exact s.settle_sameReady.keepsHanded
    · exact .of_handed (State.blank_readyHanded rfl rfl)
  | powerLoss n =>
    cases h
    unfold State.powerLoss
    split
    · exact .of_handed (State.blank_readyHanded rfl rfl)
    · exact id
  | resetPinAssert n =>
    cases h
    unfold State.resetAssert
    split
    · exact s.settle_sameReady.keepsHanded
    · split
      · exact .of_handed (State.blank_readyHanded rfl rfl)
      · exact id
  | resetPinRelease =>
    cases h
    exact State.SameReady.keepsHanded ⟨rfl, fun _ => rfl⟩
  | restoreEnd => cases h; exact s.endRestore_keepsHanded
  | _ => cases hp

/-- Every row hands the ready counts over (R11). -/
theorem exec_handsReady {c : Instr} {t : State} (h : exec c s = .next t) : s.HandsReady t := by
  by_cases hp : powerRow c = true
  · exact (exec_power_keepsHanded s hp h).handsReady
  · have hp : powerRow c = false := by simpa using hp
    cases hr : s.running
    · rw [exec_of_not_running hp hr] at h
      cases h
      exact s.settle_sameReady.handsReady
    · obtain ⟨u, hu, hready⟩ := exec_running (R := State.HandsReady) (fun s => (State.SameReady.refl s).handsReady)
        (fun _ _ _ _ _ h ha ht hs => h ha ht hs) (fun s _ => State.SameReady.handsReady ⟨rfl, fun _ => rfl⟩)
        (fun s => State.SameReady.handsReady ⟨rfl, fun _ => rfl⟩) (fun _ _ hf s => ownerOf_handsReady s hf)
        (fun _ _ hf hframe s => (eventOf_keepsHanded s hf hframe).handsReady) hp hr
      obtain rfl : u = t := by rw [h] at hu; cases hu; rfl
      exact fun ha ht hs => hready ha ht hs

theorem State.tick_sameReady : s.SameReady s.tick := by
  unfold State.tick
  split
  · exact .refl s
  · split <;> exact ⟨rfl, fun _ => rfl⟩

/-- Every step hands the ready counts over. -/
theorem step_handsReady {t : State} (h : step s = .next t) : s.HandsReady t := by
  unfold step at h
  split at h
  · cases h
    exact s.tick_sameReady.handsReady
  · exact fun ha ht hs => exec_handsReady _ h ha ht hs

/-- Settles O60: shortages and the set of SHORT go with the register's invariant through every row, and each row hands
over the
ready counts it changes or changes none. -/
theorem stepKeepsShortages : Obligations.StepKeepsShortages := by
  intro s t h
  have he := step_endures h
  refine ⟨he.shortages, fun c hs ht => ?_, step_handsReady s h⟩
  have hset : t.link.shortSet[c] = true := (he.raised c ht).resolve_left (by simp [hs])
  exact ⟨hset, List.any_eq_true.2 ⟨c, mem_allClasses c, hset⟩⟩

end

end Sys2Proof.Machine
end

section
/-! SUPPORT. The ledger: pack register, writes on their way, issue list and edge-type flags. The operations of a bay's
own work
leave it alone; a latch writes charges and no more, unless it quarantines or cancels a part (R143, R144). -/

namespace Sys2Proof.Machine

/-- What an event records outside the bays. -/
structure Ledger where
  register : Register
  inFlight : List StoreWrite
  issues : List Issue
  edges : Edges

/-- The ledger of a state. -/
def State.ledger (s : State) : Ledger := ⟨s.register, s.inFlight, s.disp.issues, s.link.edges⟩

section
variable {s t : State}

theorem State.register_of_ledger (h : t.ledger = s.ledger) : t.register = s.register := congrArg Ledger.register h
theorem State.inFlight_of_ledger (h : t.ledger = s.ledger) : t.inFlight = s.inFlight := congrArg Ledger.inFlight h
theorem State.issues_of_ledger (h : t.ledger = s.ledger) : t.disp.issues = s.disp.issues := congrArg Ledger.issues h
theorem State.edges_of_ledger (h : t.ledger = s.ledger) : t.link.edges = s.link.edges := congrArg Ledger.edges h

theorem State.pack_of_ledger (h : t.ledger = s.ledger) (g : Nat) : t.pack g = s.pack g := by
  rw [State.pack, State.register_of_ledger h, State.pack]

/-- The ledger follows from the outline. -/
theorem State.ledger_of_outline (h : t.outline = s.outline) : t.ledger = s.ledger := by
  have hl : ∀ u : State, u.outline.ledger = u.ledger := fun u => by simp [State.ledger, State.outline]
  rw [← hl t, h, hl s]

end

section
variable (s : State) (b : BayNo)

@[simp] theorem State.modBay_ledger (f : Bay → Bay) : (s.modBay b f).ledger = s.ledger := rfl
@[simp] theorem State.modGrant_ledger (f : Grant → Grant) : (s.modGrant b f).ledger = s.ledger := rfl
@[simp] theorem State.modLine_ledger (f : LineRec → LineRec) : (s.modLine b f).ledger = s.ledger := rfl
@[simp] theorem State.modSession_ledger (f : Session → Session) : (s.modSession b f).ledger = s.ledger := rfl
@[simp] theorem State.setFault_ledger (r : Option FaultRec) : (s.setFault b r).ledger = s.ledger := rfl
@[simp] theorem State.setIdentity_ledger (i : Identity) : (s.setIdentity b i).ledger = s.ledger := rfl
@[simp] theorem State.stampDock_ledger : (s.stampDock b).ledger = s.ledger := rfl
@[simp] theorem State.setBays_ledger (v : Vector Bay 24) : (s.setBays v).ledger = s.ledger := rfl
@[simp] theorem State.openSession_ledger (p : ProfileNo) (w : Bool) (e : Ending) :
    (s.openSession b p w e).ledger = s.ledger := rfl
@[simp] theorem State.enterStage_ledger (k : StageNo) (m : Bool) : (s.enterStage b k m).ledger = s.ledger := rfl

@[simp] theorem State.redrive_ledger : (s.redrive b).ledger = s.ledger :=
  State.ledger_of_outline (State.outline_congr (s.redrive_passOutline b))
@[simp] theorem State.pass_ledger : s.pass.ledger = s.ledger := State.ledger_of_outline s.pass_outline
@[simp] theorem State.relevel_ledger : (s.relevel b).ledger = s.ledger := State.ledger_of_outline (s.relevel_outline b)
@[simp] theorem State.computeShort_ledger (c : ClassNo) : (s.computeShort c).ledger = s.ledger :=
  State.ledger_of_outline (s.computeShort_outline c)
@[simp] theorem State.handAllReady_ledger : s.handAllReady.ledger = s.ledger :=
  State.ledger_of_outline s.handAllReady_outline
@[simp] theorem State.handUnless_ledger (own : Bool) : (State.handUnless own s).ledger = s.ledger :=
  State.ledger_of_outline (s.handUnless_outline own)
@[simp] theorem State.releaseRequest_ledger : (s.releaseRequest b).ledger = s.ledger :=
  (State.ledger_of_outline (s.releaseRequest_outline b)).trans rfl
@[simp] theorem State.setCarried_ledger (u : Nat) : (s.setCarried b u).ledger = s.ledger :=
  (State.ledger_of_outline (State.outline_congr (s.setCarried_passOutline b u))).trans rfl

@[simp] theorem State.checkRound_ledger : s.checkRound.ledger = s.ledger := by
  unfold State.checkRound
  split <;> rfl

@[simp] theorem State.moveTo_ledger (st : BayState) : (s.moveTo b st).ledger = s.ledger := by simp [State.moveTo]
@[simp] theorem State.toVacant_ledger : (s.toVacant b).ledger = s.ledger := by simp [State.toVacant]
@[simp] theorem State.toFreshIdentify_ledger : (s.toFreshIdentify b).ledger = s.ledger := by simp [State.toFreshIdentify]
@[simp] theorem State.toStandby_ledger (e : Ending) : (s.toStandby b e).ledger = s.ledger := by simp [State.toStandby]
@[simp] theorem State.toCooling_ledger (n : Nat) : (s.toCooling b n).ledger = s.ledger := by simp [State.toCooling]
@[simp] theorem State.dock_ledger : (s.dock b).ledger = s.ledger := by simp [State.dock]

@[simp] theorem State.reidentify_ledger : (s.reidentify b).ledger = s.ledger := by
  unfold State.reidentify
  split <;> simp

@[simp] theorem State.endSession_ledger : (s.endSession b).ledger = s.ledger := by
  unfold State.endSession
  split <;> simp

@[simp] theorem State.releaseAtRest_ledger : (s.releaseAtRest b).ledger = s.ledger := by
  unfold State.releaseAtRest
  split <;> simp

/-! ## Faults that quarantine nothing -/

/-- No kind of a list calls for quarantine (Table 7-1). -/
theorem State.quarantineFor_of_none {ks : List FaultKind} (h : ∀ k ∈ ks, k.quarantines = false) :
    s.quarantineFor b ks = s := by
  have hn : ks.find? FaultKind.quarantines = none := by
    rw [List.find?_eq_none]
    exact fun k hk => by simp [h k hk]
  unfold State.quarantineFor
  rw [hn]
  split <;> simp_all

theorem State.joinFault_ledger {k : FaultKind} (hk : k.quarantines = false) : (s.joinFault b k).ledger = s.ledger := by
  unfold State.joinFault
  split
  · rfl
  · split
    · rfl
    · rw [State.quarantineFor_of_none]
      · rfl
      · simpa using hk

/-- The charges that a latch at a bay writes (R21). -/
def State.chargeWrites (s : State) (b : BayNo) : List StoreWrite :=
  (s.tagsOfBay b).filterMap fun t => (s.pack t).map fun r => .charge t r.charge

/-- A latch of kinds that quarantine nothing, outside RELEASE, writes the charges of the bay's packs and records nothing
else
outside the bay (R143, R144). -/
theorem State.latch_ledger {k : FaultKind} {ks : List FaultKind} (hk : ∀ x ∈ k :: ks, x.quarantines = false)
    (hb : (s.bay b).state ≠ .release) (n : Option Nat) (c : Option ClassNo) (own : Bool) :
    (s.latch b k ks n c own).ledger = { s.ledger with inFlight := s.inFlight ++ s.chargeWrites b } := by
  simp only [State.latch, if_neg hb]
  rw [State.relevel_ledger, State.handUnless_ledger, State.moveTo_ledger, State.modBay_ledger,
    State.quarantineFor_of_none _ _ hk, State.endSession_ledger, State.saveChargesAt_eq]
  rfl

/-- What a start of a session records outside the bay: nothing, or the charges written at a latch of PROFILE. -/
theorem State.startSession_ledger (hb : (s.bay b).state ≠ .release) (toCharge warm own : Bool) :
    (s.startSession b toCharge warm own).ledger = s.ledger ∨
      (s.startSession b toCharge warm own).ledger = { s.ledger with inFlight := s.inFlight ++ s.chargeWrites b } := by
  unfold State.startSession
  split
  · exact .inr (s.latch_ledger b (by simp [FaultKind.quarantines]) hb none none own)
  · split <;> exact .inl (by simp)

end

end Sys2Proof.Machine
end

section
/-! SUPPORT. SET CLASS: the record written, the charges cut to the new capacity, and the COOLING bays of the class taken
again
(R2, R3, R33), with the statement about them. -/

namespace Sys2Proof.Machine

/-! ## Cut charges -/

/-- A record with its stored charge cut to a limit. -/
def PackRec.cut (r : PackRec) (n : Nat) : PackRec := { r with charge := min r.charge n }

/-- A state with other pack records and some more writes on their way. -/
def State.withPacks (s : State) (ps : List PackRec) (ws : List StoreWrite) : State :=
  { s with register := { s.register with packs := ps }, inFlight := s.inFlight ++ ws }

theorem State.saveCharge_inFlight (s : State) (g : Nat) :
    ∃ ws, s.saveCharge g = { s with inFlight := s.inFlight ++ ws } := by
  unfold State.saveCharge
  split
  · exact ⟨_, rfl⟩
  · exact ⟨[], by simp⟩

/-- A record of the list is the only one of its tag. -/
theorem eq_of_tag_eq {ps : List PackRec} (hs : packsSorted ps = true) {p r : PackRec} (hp : p ∈ ps) (hr : r ∈ ps)
    (h : p.tag = r.tag) : p = r :=
  Option.some.inj ((findPack_of_mem hs hp).symm.trans (h ▸ findPack_of_mem hs hr))

/-- A registered pack's charge cut: its record, and no other. -/
theorem State.capCharge_eq {s : State} (hs : packsSorted s.register.packs = true) {r : PackRec}
    (hr : r ∈ s.register.packs) (n : Nat) : ∃ ws, s.capCharge n r =
      s.withPacks (s.register.packs.map fun p => if p.tag = r.tag then p.cut n else p) ws := by
  unfold State.capCharge
  split
  · next hn =>
    have hcut : (s.register.packs.map fun p => if p.tag = r.tag then { p with charge := n } else p) =
        s.register.packs.map fun p => if p.tag = r.tag then p.cut n else p := by
      refine List.map_congr_left fun p hp => ?_
      split
      · next h => rw [eq_of_tag_eq hs hp hr h, PackRec.cut, min_eq_right hn.le]
      · rfl
    obtain ⟨ws, hws⟩ := State.saveCharge_inFlight (s.modPack r.tag fun p => { p with charge := n }) r.tag
    exact ⟨ws, by rw [hws, State.withPacks, ← hcut]; rfl⟩
  · next hn =>
    have hcut : (s.register.packs.map fun p => if p.tag = r.tag then p.cut n else p) = s.register.packs := by
      refine (List.map_congr_left fun p hp => ?_).trans (List.map_id _)
      split
      · next h => rw [eq_of_tag_eq hs hp hr h, PackRec.cut, min_eq_left (not_lt.1 hn)]; rfl
      · rfl
    exact ⟨[], by simp [State.withPacks, hcut]⟩

/-- The charges of some records cut, one after another. -/
theorem State.foldl_capCharge (n : Nat) (l : List PackRec) {s : State} (hs : packsSorted s.register.packs = true)
    (hl : (l.map (·.tag)).Nodup) (hm : ∀ r ∈ l, r ∈ s.register.packs) :
    ∃ ws, l.foldl (fun t r => t.capCharge n r) s =
      s.withPacks (s.register.packs.map fun p => if p.tag ∈ l.map (·.tag) then p.cut n else p) ws := by
  induction l generalizing s with
  | nil => exact ⟨[], by simp [State.withPacks]⟩
  | cons r l ih =>
    obtain ⟨hnot, hnodup⟩ := List.nodup_cons.1 (List.map_cons ▸ hl)
    obtain ⟨ws, hws⟩ := State.capCharge_eq hs (hm r (List.mem_cons_self ..)) n
    have htags : ((s.withPacks (s.register.packs.map fun p =>
        if p.tag = r.tag then p.cut n else p) ws).register.packs).map
        (·.tag) = s.register.packs.map (·.tag) := by
      simp only [State.withPacks, List.map_map]
      refine List.map_congr_left fun p _ => ?_
      simp only [Function.comp]
      split <;> rfl
    obtain ⟨ws', hws'⟩ := ih (s := s.withPacks (s.register.packs.map fun p => if p.tag = r.tag then p.cut n else p) ws)
      (by rw [packsSorted_iff, htags]; exact (packsSorted_iff _).1 hs) hnodup fun x hx => by
        refine List.mem_map.2 ⟨x, hm x (List.mem_cons_of_mem _ hx), if_neg fun h => ?_⟩
        exact hnot (h ▸ List.mem_map_of_mem hx)
    refine ⟨ws ++ ws', ?_⟩
    rw [List.foldl_cons, hws, hws']
    simp only [State.withPacks, List.map_map, List.append_assoc]
    congr 2
    refine List.map_congr_left fun p _ => ?_
    by_cases hp : p.tag = r.tag
    · simp [Function.comp, hp, PackRec.cut]
    · simp [Function.comp, hp]

/-- The charges of a class cut to a limit. -/
theorem State.capPacks_eq {s : State} (hs : packsSorted s.register.packs = true) (c : ClassNo) (n : Nat) :
    ∃ ws, s.capPacks c n = s.withPacks (s.register.packs.map fun p => if p.cls = c then p.cut n else p) ws := by
  have htags : (s.register.packs.map (·.tag)).Nodup := ((packsSorted_iff _).1 hs).imp fun h => h.ne
  obtain ⟨ws, hws⟩ := State.foldl_capCharge n (s.register.packs.filter fun r => decide (r.cls = c)) hs
    (htags.sublist (List.filter_sublist.map _)) fun r hr => List.mem_of_mem_filter hr
  refine ⟨ws, hws.trans (congrArg (s.withPacks · ws) (List.map_congr_left fun p hp => ?_))⟩
  have hiff : p.tag ∈ (s.register.packs.filter fun r => decide (r.cls = c)).map (·.tag) ↔ p.cls = c := by
    simp only [List.mem_map, List.mem_filter, decide_eq_true_eq]
    refine ⟨fun ⟨r, ⟨hr, hc⟩, ht⟩ => ?_, fun hc => ⟨p, ⟨hp, hc⟩, rfl⟩⟩
    rw [← eq_of_tag_eq hs hr hp ht, hc]
  simp only [hiff]

/-- An anonymous pack of a class whose charges were cut is within the limit. -/
theorem Bay.capAnonymous_charge {y : Bay} {c k : ClassNo} {n q : Nat} {known : Bool}
    (h : (y.capAnonymous c n).identity = .anonymous k q known) (hk : k = c) : q ≤ n := by
  subst hk
  unfold Bay.capAnonymous at h
  split at h
  · next j p kn hi =>
    split at h
    · simp only [Identity.anonymous.injEq] at h
      omega
    · next hj =>
      rw [hi, Identity.anonymous.injEq] at h
      exact absurd h.1 hj
  · next hi => exact absurd h (hi _ _ _)

/-! ## The cool expiries recomputed -/

/-- What the end of a cool-down may do outside the bays is to write charges; no anonymous pack changes. -/
structure State.Resumes (s t : State) : Prop where
  ledger : ∃ ws, t.ledger = { s.ledger with inFlight := s.inFlight ++ ws }
  classes : t.register.classes = s.register.classes
  profiles : t.profiles = s.profiles
  reservations : t.disp.reservations = s.disp.reservations
  identity : ∀ x c q known, (t.bay x).identity = .anonymous c q known → (s.bay x).identity = .anonymous c q known

theorem State.Resumes.refl (s : State) : s.Resumes s := ⟨⟨[], by simp [State.ledger]⟩, rfl, rfl, rfl, fun _ _ _ _ => id⟩

theorem State.Resumes.trans {s t u : State} (h : s.Resumes t) (h' : t.Resumes u) : s.Resumes u := by
  obtain ⟨ws, hws⟩ := h.ledger
  obtain ⟨ws', hws'⟩ := h'.ledger
  refine ⟨⟨ws ++ ws', ?_⟩, h'.classes.trans h.classes, h'.profiles.trans h.profiles,
    h'.reservations.trans h.reservations, fun x c q k hx => h.identity x c q k (h'.identity x c q k hx)⟩
  rw [hws', show t.inFlight = s.inFlight ++ ws from congrArg Ledger.inFlight hws, hws, List.append_assoc]

/-- A latch leaves its bay without a pack. -/
theorem State.latch_identity (s : State) (b : BayNo) (k : FaultKind) (ks : List FaultKind) (n : Option Nat)
    (c : Option ClassNo) (own : Bool) : ((s.latch b k ks n c own).bay b).identity = .empty := by
  simp only [State.latch]
  rw [← Bay.outline_identity]
  simp [State.moveTo_bay_outline]

theorem State.openSession_identity (s : State) (b : BayNo) (p : ProfileNo) (w : Bool) (e : Ending) :
    ((s.openSession b p w e).bay b).identity = (s.bay b).identity := by
  simp [State.openSession, State.modBay_bay]

/-- The start of a session leaves the pack of its bay, or a fault takes it. -/
theorem State.startSession_identity (s : State) (b : BayNo) (toCharge warm own : Bool) :
    ((s.startSession b toCharge warm own).bay b).identity = (s.bay b).identity ∨
      ((s.startSession b toCharge warm own).bay b).identity = .empty := by
  unfold State.startSession
  split
  · exact .inr (s.latch_identity ..)
  · left
    rw [← Bay.outline_identity]
    split
    · simp [State.moveTo_bay_outline, State.enterStage, State.modSession, State.modBay_bay, State.openSession_identity]
    · simp [State.moveTo_bay_outline, State.openSession_identity]

theorem State.recool_resumes (s : State) (n : Nat) (b : BayNo) (hb : (s.bay b).state = .cooling) :
    s.Resumes (s.recool n b) := by
  have quiet : ∀ e, s.Resumes (s.modBay b fun y => { y with coolExpiry := e }) := fun e =>
    ⟨⟨[], by simp [State.ledger]⟩, rfl, rfl, rfl, fun x c q k hx => by
      rw [State.modBay_bay] at hx
      split at hx
      · next h => rw [h]; exact hx
      · exact hx⟩
  simp only [State.recool]
  split
  · exact quiet none
  · split
    · refine (quiet none).trans ?_
      have hrel : ((s.modBay b fun y => { y with coolExpiry := none }).bay b).state ≠ .release := by
        simp [State.modBay_bay, hb]
      simp only [State.coolEnds, State.startByCharge]
      generalize (s.modBay b fun y => { y with coolExpiry := none }) = u at hrel
      have ha := u.startSession_away b (u.knownAt b) true false
      refine ⟨?_, State.classes_of_away ha, State.profiles_of_away ha, State.reservations_of_away ha,
        fun x c q k hx => ?_⟩
      · rcases u.startSession_ledger b hrel (u.knownAt b) true false with h | h
        · exact ⟨[], by rw [h]; simp [State.ledger]⟩
        · exact ⟨_, h⟩
      · by_cases hxb : x = b
        · subst hxb
          rcases u.startSession_identity x (u.knownAt x) true false with h | h <;> rw [h] at hx
          · exact hx
          · cases hx
        · rw [← Bay.outline_identity, State.bay_of_away ha hxb] at hx
          exact hx
    · exact quiet _

/-- The COOLING bays of a class, one after another: each leaves the others in COOLING. -/
theorem State.foldl_recool_resumes (n : Nat) (l : List BayNo) (s : State) (hl : l.Nodup)
    (hb : ∀ x ∈ l, (s.bay x).state = .cooling) : s.Resumes (l.foldl (fun t b => t.recool n b) s) := by
  induction l generalizing s with
  | nil => exact .refl s
  | cons x xs ih =>
    obtain ⟨hx, hxs⟩ := List.nodup_cons.1 hl
    refine (s.recool_resumes n x (hb x (List.mem_cons_self ..))).trans (ih _ hxs fun y hy => ?_)
    have hne : y ≠ x := fun h => hx (h ▸ hy)
    rw [Bay.state_of_outline (State.bay_of_away (s.recool_away x n) hne)]
    exact hb y (List.mem_cons_of_mem _ hy)

theorem State.coolingOf_resumes (s : State) (c : ClassNo) (n : Nat) :
    s.Resumes ((s.coolingOf c).foldl (fun t b => t.recool n b) s) := by
  refine State.foldl_recool_resumes n _ s ((List.nodup_finRange 24).filter _) fun x hx => ?_
  have h := (List.mem_filter.1 hx).2
  simp only [decide_eq_true_eq] at h
  exact h.1

/-! ## SET CLASS -/

/-- All a taken SET CLASS does to the register, the writes, the dispatcher's lists, the profiles and the anonymous
packs. -/
theorem State.applyClass_spec {s : State} (hs : packsSorted s.register.packs = true) (c : ClassNo) (r : ClassRec) :
    (s.applyClass c r).register = { s.register with
      classes := s.register.classes.set c (some r)
      packs := s.register.packs.map fun p => if p.cls = c then p.cut (fullCharge r.capacity) else p } ∧
    (∃ ws, (s.applyClass c r).inFlight = s.inFlight ++ .cls c r :: ws) ∧
    (s.applyClass c r).disp.issues = s.disp.issues ∧ (s.applyClass c r).profiles = s.profiles ∧
    (s.applyClass c r).disp.reservations = s.disp.reservations ∧
    ∀ b k q known, ((s.applyClass c r).bay b).identity = .anonymous k q known → k = c → q ≤ fullCharge r.capacity := by
  obtain ⟨ws, hws⟩ := State.capPacks_eq (s := s.setClassRec c r) hs c (fullCharge r.capacity)
  have hcap : ∀ b k q known, (((s.setClassRec c r).capCharges c (fullCharge r.capacity)).bay b).identity =
      .anonymous k q known → k = c → q ≤ fullCharge r.capacity := fun b k q known h => by
    rw [State.capCharges_eq] at h
    exact Bay.capAnonymous_charge (by simpa [State.setBays, State.bay] using h)
  rw [State.applyClass]
  rw [State.capCharges_eq, hws] at hcap ⊢
  generalize hX : State.setBays _ _ = X at hcap ⊢
  have hreg : X.register = { s.register with
      classes := s.register.classes.set c (some r)
      packs := s.register.packs.map fun p => if p.cls = c then p.cut (fullCharge r.capacity) else p } := by
    rw [← hX]; rfl
  have hfl : X.inFlight = s.inFlight ++ .cls c r :: ws := by
    rw [← hX]
    exact List.append_assoc ..
  have hdisp : X.disp = s.disp := by rw [← hX]; rfl
  have hprof : X.profiles = s.profiles := by rw [← hX]; rfl
  clear hX hws
  have hs2 : (if (s.classRec c).map (·.floor) = some r.floor then X.computeShort c else (X.computeShort c).pass).outline =
      X.outline := by
    split
    · exact X.computeShort_outline c
    · rw [State.pass_outline, State.computeShort_outline]
  simp only
  generalize (if (s.classRec c).map (·.floor) = some r.floor then X.computeShort c else (X.computeShort c).pass) =
      u at hs2 ⊢
  have hl := State.ledger_of_outline hs2
  have ha := State.away_of_outline hs2 0
  obtain ⟨⟨ws', hws'⟩, hclasses, hprofiles, hreservations, hidentity⟩ := u.coolingOf_resumes c r.coolTimeout
  generalize (u.coolingOf c).foldl (fun t b => t.recool r.coolTimeout b) u =
      t at hws' hclasses hprofiles hreservations hidentity ⊢
  refine ⟨?_, ⟨ws ++ ws', ?_⟩, ?_, ?_, ?_, fun b k q known h => ?_⟩
  · rw [show t.register = u.register from congrArg Ledger.register hws', State.register_of_ledger hl, hreg]
  · rw [show t.inFlight = u.inFlight ++ ws' from congrArg Ledger.inFlight hws', State.inFlight_of_ledger hl, hfl]
    simp
  · rw [show t.disp.issues = u.disp.issues from congrArg Ledger.issues hws', State.issues_of_ledger hl, hdisp]
  · rw [hprofiles, State.profiles_of_away ha, hprof]
  · rw [hreservations, State.reservations_of_away ha, hdisp]
  · have hx := hidentity b k q known h
    rw [← Bay.outline_identity, State.bay_outline_of_outline hs2 b] at hx
    exact hcap b k q known hx

/-- The fields of the class record that SET CLASS stores (Table 1-1). -/
theorem readClass_fields {a : ClassArgs} {o : Option Ocv} {r : ClassRec} (h : readClass a o = some r) :
    r.lowWater = min a.lowWater 32 ∧ r.matchWindow = (if a.twin = 0 then 0 else a.matchWindow) ∧
    r.equalizeInterval = (if a.chemistry = 0 then a.equalizeInterval else 0) ∧ r.ocv = o ∧
    (r.cells, r.capacity, r.minCell, r.maxCell, r.startLimit, r.hotLimit, r.abortLimit, r.coolTimeout, r.restTime,
      r.floor) = (a.cells, a.capacity, a.minCell, a.maxCell, a.startLimit, a.hotLimit, a.abortLimit, a.coolTimeout,
      a.restTime, a.floor) ∧
    r.chemistry.code = a.chemistry ∧ r.twin = decide (a.twin = 1) ∧ r.profile.val = a.profile := by
  have hch : ∀ {n ch}, Chemistry.ofCode n = some ch → ch.code = n ∧ (ch = .flooded ↔ n = 0) := by
    intro n ch hn
    unfold Chemistry.ofCode at hn
    split at hn <;> cases hn <;> simp [Chemistry.code]
  have htw : ∀ {n tw}, yes? n = some tw → tw = decide (n = 1) ∧ (tw = true ↔ n ≠ 0) := by
    intro n tw hn
    unfold yes? at hn
    split at hn <;> cases hn <;> simp
  have hix : ∀ {n} {p : ProfileNo}, index? 8 n = some p → p.val = n := by
    intro n p hn
    unfold index? at hn
    split at hn <;> cases hn
    rfl
  unfold readClass at h
  split at h
  · split at h
    · next ch tw p hc ht hp =>
      cases h
      obtain ⟨hcode, hflooded⟩ := hch hc
      obtain ⟨htwin, htwin0⟩ := htw ht
      refine ⟨rfl, ?_, ?_, rfl, rfl, hcode, htwin, hix hp⟩
      · by_cases h0 : a.twin = 0 <;> simp [htwin0, h0]
      · by_cases h0 : a.chemistry = 0 <;> simp [hflooded, h0]
    · cases h
  · cases h

theorem takeSetClass_taken {s : State} {c : ClassNo} {a : ClassArgs} {r : ClassRec}
    (hr : readClass a ((s.classRec c).bind (·.ocv)) = some r) (hb : s.classBusy c = false) :
    takeSetClass c.val a s = .taken (s.applyClass c r) r.bytes := by
  simp [takeSetClass, hr, hb]

/-- Settles O25: the record's fields, and what the taken command does. -/
theorem setClassReplacesItsRecord : Obligations.SetClassReplacesItsRecord := by
  intro s c a r h hreg hr hb
  obtain ⟨hlow, hmatch, heq, hocv, hfields, hchem, htwin, hprofile⟩ := readClass_fields hr
  refine ⟨hlow, hmatch, heq, hocv, hfields, hchem, htwin, hprofile, _,
    congrArg Host.Outcome.next (State.command_of_taken h (takeSetClass_taken (s := s.settle) hr hb)), ?_⟩
  have hcapacity : fullCharge r.capacity = a.capacity * 1000 := by
    rw [show r.capacity = a.capacity from congrArg (fun x => x.2.1) hfields, fullCharge]
  obtain ⟨hregister, ⟨ws, hws⟩, hissues, hprofiles, hreservations, hanonymous⟩ :=
    State.applyClass_spec (s := s.settle) hreg.1.1 c r
  rw [hcapacity] at hregister hanonymous
  generalize s.settle.applyClass c r = u at hregister hws hissues hprofiles hreservations hanonymous
  have hpacks : u.register.packs = s.register.packs.map fun p => if p.cls = c then p.cut (a.capacity * 1000) else p := by
    rw [hregister]; rfl
  have hclass : ∀ k, u.classRec k = (s.setClassRec c r).classRec k := fun k => by
    rw [State.classRec, hregister]; rfl
  refine ⟨?_, ?_, rfl, fun k hk => ?_, ?_, ?_, ?_, ?_, hanonymous, hprofiles, hissues, hreservations⟩
  · exact (hclass c).trans ((s.setClassRec_classRec c c r).trans (if_pos rfl))
  · exact (congrArg List.head? hws :)
  · exact (hclass k).trans ((s.setClassRec_classRec c k r).trans (if_neg hk))
  · exact (congrArg Register.rotation hregister :)
  · change u.register.packs.map _ = _
    rw [hpacks, List.map_map]
    refine List.map_congr_left fun p _ => ?_
    simp only [Function.comp]
    split <;> rfl
  · change ∀ p ∈ u.register.packs, _
    rw [hpacks]
    intro p hp hc
    obtain ⟨q, -, rfl⟩ := List.mem_map.1 hp
    split at hc <;> simp_all [PackRec.cut]
  · intro p hp hc
    have hmem : p ∈ u.register.packs := by
      rw [hpacks]
      exact List.mem_map.2 ⟨p, hp, if_neg hc⟩
    have hsorted : packsSorted u.register.packs = true := by
      rw [packsSorted_iff, hpacks, List.map_map]
      have htags : s.register.packs.map ((·.tag) ∘ fun p => if p.cls = c then p.cut (a.capacity * 1000) else p) =
          s.register.packs.map (·.tag) := by
        refine List.map_congr_left fun q _ => ?_
        simp only [Function.comp]
        split <;> rfl
      rw [htags]
      exact (packsSorted_iff _).1 hreg.1.1
    change (findPack u.register.packs p.tag).map _ = _
    rw [findPack_of_mem hsorted hmem]
    rfl

end Sys2Proof.Machine
end

section
/-! SUPPORT. The drive of a bay that takes no power follows from its sequencer alone, whatever passes and level changes
do to the
grants (Table 2-5). -/

namespace Sys2Proof.Machine

/-- A bay in a state that takes no power. -/
abbrev Bay.unpowered (y : Bay) : Prop := y.state ≠ .charge ∧ y.state ≠ .maintain

/-- The drive of a bay that takes no power is that of Table 2-5, whatever its grant. -/
theorem driveOf_unpowered {y : Bay} (h : y.unpowered) (n : Nat) : driveOf y n = driveOf y.outline 0 := by
  obtain ⟨hc, hm⟩ := h
  unfold driveOf
  rw [Bay.outline_state]
  split <;> simp_all [Bay.outline]

/-- A bay takes no power, and its drive is that of Table 2-5. -/
def State.Rests (s : State) (x : BayNo) : Prop := (s.bay x).unpowered ∧ (s.bay x).drive = driveOf (s.bay x).outline 0

/-- The drive of a bay at rest, from what the outline shows of it. -/
theorem State.Rests.drive {s : State} {x : BayNo} (h : s.Rests x) {y : Bay} (hy : (s.bay x).outline = y.outline) :
    (s.bay x).drive = driveOf y.outline 0 := hy ▸ h.2

theorem State.redrive_bay (s : State) (b x : BayNo) : (s.redrive b).bay x =
    if x = b then { s.bay b with drive := driveOf (s.bay b) (s.grant b).granted } else s.bay x := by
  have hprompt : ∀ u : State, (u.promptAdd b).bay x = u.bay x := fun u => by
    unfold State.promptAdd
    split <;> rfl
  simp only [State.redrive]
  split
  · rw [hprompt, State.modBay_bay]
  · rw [State.modBay_bay]

section
variable {s : State} {x : BayNo}

theorem State.Rests.of_bay {t : State} (h : s.Rests x) (ht : t.bay x = s.bay x) : t.Rests x := by
  rw [State.Rests, ht]
  exact h

theorem State.Rests.redrive (h : s.Rests x) (b : BayNo) : (s.redrive b).Rests x := by
  rw [State.Rests, State.redrive_bay]
  split
  · next hx =>
    subst hx
    exact ⟨h.1, driveOf_unpowered h.1 _⟩
  · exact h

theorem State.Rests.foldl {α : Type} {f : State → α → State} (h : s.Rests x)
    (hf : ∀ (u : State) a, u.Rests x → (f u a).Rests x) (l : List α) : (l.foldl f s).Rests x := by
  induction l generalizing s with
  | nil => exact h
  | cons a l ih => exact ih (hf s a h)

theorem State.Rests.pass (h : s.Rests x) : s.pass.Rests x := by
  have he : s.enterPass.Rests x := h.of_bay (congrArg (fun v : Vector Bay 24 => v[x]) s.enterPass_bays)
  rw [State.pass]
  exact State.Rests.foldl (f := State.redrive) he (fun _ b hu => State.Rests.redrive hu b) s.regranted

theorem State.Rests.relevel (h : s.Rests x) (b : BayNo) : (s.relevel b).Rests x := by
  simp only [State.relevel]
  split
  · exact h
  · refine State.Rests.pass (h.of_bay ?_)
    simp only [State.enterLevel]
    split <;> rfl

theorem State.Rests.computeShort (h : s.Rests x) (c : ClassNo) : (s.computeShort c).Rests x := by
  simp only [State.computeShort]
  split
  · exact h
  · refine State.Rests.foldl (h.of_bay ?_) (fun _ b hu => hu.relevel b) _
    split <;> rfl

theorem State.Rests.handAllReady (h : s.Rests x) : s.handAllReady.Rests x := by
  refine h.foldl (fun u c hu => ?_) _
  simp only [State.handReady]
  split
  · exact hu
  · have hr : (u.setReady c (u.readyCount c)).Rests x := hu.of_bay rfl
    exact hr.computeShort c

theorem State.Rests.handUnless (h : s.Rests x) (own : Bool) : (State.handUnless own s).Rests x := by
  cases own
  · exact h.handAllReady
  · exact h

/-- A bay that enters a state that takes no power is at rest. -/
theorem State.moveTo_rests (s : State) (b : BayNo) {st : BayState} (hc : st ≠ .charge) (hm : st ≠ .maintain) :
    (s.moveTo b st).Rests b := by
  have hu : ((s.modBay b fun y => { y with state := st }).bay b).unpowered := by
    simp [State.modBay_bay, Bay.unpowered, hc, hm]
  rw [State.Rests, State.moveTo, State.redrive_bay, if_pos rfl]
  exact ⟨hu, driveOf_unpowered hu _⟩

theorem State.toVacant_rests (s : State) (b : BayNo) : (s.toVacant b).Rests b :=
  State.moveTo_rests _ b (by simp) (by simp)

theorem State.toStandby_rests (s : State) (b : BayNo) (e : Ending) : (s.toStandby b e).Rests b :=
  State.moveTo_rests _ b (by simp) (by simp)

theorem State.toCooling_rests (s : State) (b : BayNo) (n : Nat) : (s.toCooling b n).Rests b :=
  State.moveTo_rests _ b (by simp) (by simp)

end

end Sys2Proof.Machine
end

section
/-! SUPPORT. A good report in its slot (R159, R163): the slot over, the line record and the carried units of its bay
set, and the
report handed to the bay. -/

namespace Sys2Proof.Machine

/-- The outline shows the fault records. -/
theorem State.faultRec_of_outline {s t : State} (h : t.outline = s.outline) (x : BayNo) :
    t.faultRec x = s.faultRec x := by
  have hr : ∀ u : State, u.outline.faultRec x = u.faultRec x := fun u => by simp [State.outline, State.faultRec]
  rw [← hr, h, hr]

/-- A line record's change is its value at the bay. -/
theorem State.modLine_congr (s : State) (b : BayNo) {f g : LineRec → LineRec} (h : f (s.line b) = g (s.line b)) :
    s.modLine b f = s.modLine b g := by
  simp only [State.line] at h
  simp only [State.modLine, h]

/-- The line record of a bay after a good report of it (R163). -/
def LineRec.heard (l : LineRec) : LineRec := { l with misses := 0, lostExpiry := none, answeredOn := l.sent.drive.on }

/-- The state in which a good report reaches its bay: the slot over, the line record and the carried units set (R163). -/
def State.credited (s : State) (b : BayNo) : State :=
  (s.settle.endSlot.modLine b LineRec.heard).setCarried b (s.line b).sent.units

/-- What a good report does at its bay (R29, R163, R167). -/
def State.delivered (s : State) (b : BayNo) (rep : Report) : State :=
  if (s.bay b).state = .masked then s.credited b
  else (s.credited b).goodReportAt b rep (s.line b).answeredOn (s.line b).sent.drive.on

section
variable (s : State) (b x : BayNo)

/-- The credit, without what passes and the end of a round can change. -/
def State.creditedAs (s : State) (b : BayNo) (w : Option Nat) (o : Bool) : State :=
  (({ s.settle with scanner := { s.scanner with slot := none, walk := w, overrun := o } } : State).modLine b
    LineRec.heard).modGrant b fun e => { e with carried := (s.line b).sent.units }

theorem State.endSlot_eq : ∃ w o, s.endSlot =
    { s with scanner := { s.scanner with slot := none, walk := w, overrun := o } } := by
  unfold State.endSlot
  obtain ⟨w, o, h⟩ := ({ s with scanner := { s.scanner with slot := none } } : State).checkRound_eq
  exact ⟨w, o, h⟩

theorem State.credited_outline : ∃ w o, (s.credited b).outline = (s.creditedAs b w o).outline := by
  obtain ⟨w, o, h⟩ := s.settle.endSlot_eq
  refine ⟨w, o, ?_⟩
  rw [State.credited, h]
  exact State.outline_congr (State.setCarried_passOutline _ b _)

/-! ## What the credit leaves -/

theorem State.credited_bay_outline : ((s.credited b).bay x).outline = (s.bay x).outline := by
  obtain ⟨w, o, h⟩ := s.credited_outline b
  exact State.bay_outline_of_outline h x

theorem State.credited_state : ((s.credited b).bay x).state = (s.bay x).state :=
  Bay.state_of_outline (s.credited_bay_outline b x)

theorem State.credited_ledger : (s.credited b).ledger = s.settle.ledger := by
  obtain ⟨w, o, h⟩ := s.credited_outline b
  exact State.ledger_of_outline (s := s.creditedAs b w o) h

theorem State.credited_away (y : BayNo) : ∃ w o, (s.credited b).away y = (s.creditedAs b w o).away y := by
  obtain ⟨w, o, h⟩ := s.credited_outline b
  exact ⟨w, o, State.away_of_outline h y⟩

theorem State.credited_slot : (s.credited b).scanner.slot = none := by
  obtain ⟨w, o, h⟩ := s.credited_away b b
  exact State.slot_of_away (s := s.creditedAs b w o) h

theorem State.credited_lines : (s.credited b).scanner.lines = (s.modLine b LineRec.heard).scanner.lines := by
  obtain ⟨w, o, h⟩ := s.credited_away b b
  exact State.lines_of_away (s := s.creditedAs b w o) h

theorem State.credited_line : (s.credited b).line x = if x = b then (s.line b).heard else s.line x := by
  rw [State.line, State.credited_lines]
  exact s.modLine_line b x LineRec.heard

theorem State.credited_grant_outline :
    ((s.credited b).grant x).outline = ((s.modGrant b fun e => { e with
        carried := (s.line b).sent.units }).grant x).outline := by
  obtain ⟨w, o, h⟩ := s.credited_outline b
  exact State.grant_outline_of_outline h x

theorem State.credited_carried : ((s.credited b).grant b).carried = (s.line b).sent.units := by
  have h := congrArg Grant.carried (s.credited_grant_outline b b)
  rw [State.modGrant_grant, if_pos rfl] at h
  exact h

theorem State.credited_request : ((s.credited b).grant x).request = (s.grant x).request := by
  have h := congrArg Grant.request (s.credited_grant_outline b x)
  rw [State.modGrant_grant] at h
  split at h
  · next hx => rw [hx] at h ⊢; exact h
  · exact h

theorem State.credited_faultRec : (s.credited b).faultRec x = s.faultRec x := by
  obtain ⟨w, o, h⟩ := s.credited_outline b
  exact State.faultRec_of_outline (s := s.creditedAs b w o) h x

theorem State.credited_now : (s.credited b).now = s.now := by
  obtain ⟨w, o, h⟩ := s.credited_away b b
  exact State.now_of_away (s := s.creditedAs b w o) h

theorem State.credited_profiles : (s.credited b).profiles = s.profiles := by
  obtain ⟨w, o, h⟩ := s.credited_away b b
  exact State.profiles_of_away (s := s.creditedAs b w o) h

theorem State.credited_reservations : (s.credited b).disp.reservations = s.disp.reservations := by
  obtain ⟨w, o, h⟩ := s.credited_away b b
  exact State.reservations_of_away (s := s.creditedAs b w o) h

theorem State.credited_reply : (s.credited b).link.reply = s.link.reply := by
  obtain ⟨w, o, h⟩ := s.credited_away b b
  exact State.reply_of_away (s := s.creditedAs b w o) h

theorem State.credited_sameConfig : s.SameConfig (s.credited b) := by
  obtain ⟨w, o, h⟩ := s.credited_away b b
  exact State.sameConfig_of_away (s := s.creditedAs b w o) h

end

/-! ## The event -/

theorem State.deliver_eq (s : State) (b : BayNo) (rep : Report) : s.settle.endSlot.deliver b rep = s.delivered b rep := by
  have hline : s.settle.endSlot.line b = s.line b := by
    obtain ⟨w, o, he⟩ := s.settle.endSlot_eq
    rw [he]
    rfl
  have hcredit : (s.settle.endSlot.modLine b fun l => { l with
      misses := 0, lostExpiry := none, answeredOn := (s.line b).sent.drive.on }).setCarried b (s.line b).sent.units =
        s.credited b := by
    rw [State.credited, State.modLine_congr (g := LineRec.heard)]
    rw [hline, LineRec.heard]
  simp only [State.deliver, hline, hcredit]
  rw [State.delivered, State.credited_state]

/-- Eleven bytes of a good report that come in its slot are delivered. -/
theorem State.exec_reportReceived {s : State} {x : Slot} {bytes : List Byte} {rep : Report} (h : s.Hears x bytes rep) :
    exec (.reportReceived bytes) s = .next (s.delivered x.bay rep) := by
  obtain ⟨hrun, hslot, hlen, htime, hjudge⟩ := h
  have hanswer : s.settle.answering bytes = some x.bay := by
    have hs : s.settle.scanner.slot = some x := hslot
    rw [State.answering, hs]
    exact if_pos ⟨hlen, htime⟩
  have hreceive : s.settle.receive bytes = s.delivered x.bay rep := by
    rw [State.receive, hanswer, ← State.deliver_eq]
    simp only [State.answerSlot, hjudge]
  change Host.Outcome.next (s.event fun t => t.receive bytes) = _
  rw [State.event_of_running hrun, hreceive]

/-- The state in which a report acts at its bay: it is the latest, and reconciliation is next (R29). -/
def State.reported (s : State) (b : BayNo) (rep : Report) : State :=
  (s.credited b).modBay b fun y => { y with latest := some ⟨rep, s.now⟩ }

/-- What a good report leaves alone, and the latest report it leaves. -/
theorem State.delivered_away {s : State} {b : BayNo} (hm : (s.bay b).state ≠ .masked) (rep : Report) :
    (s.delivered b rep).away b = (s.reported b rep).away b := by
  rw [State.delivered, if_neg hm, State.goodReportAt_away, State.credited_now]
  rfl

/-- A good report in its slot, at every bay state. -/
theorem State.delivered_credited (s : State) (b : BayNo) (rep : Report) :
    (s.delivered b rep).scanner.slot = none ∧ (s.delivered b rep).scanner.lines = (s.credited b).scanner.lines ∧
    ((s.delivered b rep).grant b).carried = ((s.credited b).grant b).carried ∧
    ((s.bay b).state ≠ .masked → ((s.delivered b rep).bay b).latest = some ⟨rep, s.now⟩) ∧
    ((s.bay b).state = .masked → ((s.delivered b rep).bay b).outline = (s.bay b).outline ∧
      (s.delivered b rep).register = s.register) ∧
    (∀ x, x ≠ b → ((s.delivered b rep).bay x).outline = (s.bay x).outline ∧
      (s.delivered b rep).faultRec x = s.faultRec x ∧ ((s.delivered b rep).grant x).outline = (s.grant x).outline) ∧
    s.SameConfig (s.delivered b rep) ∧ (s.delivered b rep).disp.reservations = s.disp.reservations ∧
    (s.delivered b rep).link.reply = s.link.reply := by
  have hgrant : ∀ x, x ≠ b → ((s.credited b).grant x).outline = (s.grant x).outline := fun x hx => by
    rw [State.credited_grant_outline, State.modGrant_grant, if_neg hx]
  by_cases hm : (s.bay b).state = .masked
  · rw [State.delivered, if_pos hm]
    exact ⟨s.credited_slot b, rfl, rfl, fun h => absurd hm h,
      fun _ => ⟨s.credited_bay_outline b b, State.register_of_ledger (s := s.settle) (s.credited_ledger b)⟩,
      fun x hx => ⟨s.credited_bay_outline b x, s.credited_faultRec b x, hgrant x hx⟩, s.credited_sameConfig b,
      s.credited_reservations b, s.credited_reply b⟩
  · have h := State.delivered_away hm rep
    have hother : (s.reported b rep).scanner = (s.credited b).scanner ∧
        (s.reported b rep).faults = (s.credited b).faults ∧
        (s.reported b rep).alloc = (s.credited b).alloc ∧ (s.reported b rep).disp = (s.credited b).disp ∧
        (s.reported b rep).link = (s.credited b).link ∧ (s.reported b rep).profiles = (s.credited b).profiles ∧
        (s.reported b rep).register = (s.credited b).register := by simp [State.reported]
    obtain ⟨hscanner, hfaults, halloc, hdisp, hlink, hprof, hreg⟩ := hother
    have hbay : ∀ x, x ≠ b → ((s.reported b rep).bay x).outline = (s.bay x).outline := fun x hx => by
      rw [State.reported, State.modBay_bay, if_neg hx, State.credited_bay_outline]
    obtain ⟨hclasses, hprofiles, hcfg, hsite, hscheme, hfeeder, hlook, hwindow, hscan, hmask⟩ := s.credited_sameConfig b
    have hcfg' : ∀ x, ((s.reported b rep).bay x).cfg = (s.bay x).cfg := fun x => by
      rw [State.reported, State.modBay_bay]
      split
      · next hx => rw [hx]; exact hcfg b
      · exact hcfg x
    obtain ⟨tclasses, tprofiles, tcfg, tsite, tscheme, tfeeder, tlook, twindow, tscan, tmask⟩ :=
        State.sameConfig_of_away h
    rw [hreg] at tclasses
    rw [hprof] at tprofiles
    rw [halloc] at tsite tscheme tfeeder
    rw [hdisp] at tlook twindow
    rw [hscanner] at tscan
    rw [hlink] at tmask
    have hslot := State.slot_of_away h
    have hlines := State.lines_of_away h
    have hcarried := State.carried_of_away h
    have hreservations := State.reservations_of_away h
    have hreply := State.reply_of_away h
    rw [hscanner] at hslot hlines
    rw [State.grant, State.grant, halloc] at hcarried
    rw [hdisp] at hreservations
    rw [hlink] at hreply
    refine ⟨hslot.trans (s.credited_slot b), hlines, hcarried, fun _ => ?_,
      fun hm' => absurd hm' hm, fun x hx => ⟨(State.bay_of_away h hx).trans (hbay x hx), ?_, ?_⟩,
      ⟨tclasses.trans hclasses, tprofiles.trans hprofiles, fun x => (tcfg x).trans (hcfg' x), tsite.trans hsite,
        tscheme.trans hscheme, tfeeder.trans hfeeder, tlook.trans hlook, twindow.trans hwindow, tscan.trans hscan,
        tmask.trans hmask⟩, hreservations.trans (s.credited_reservations b), hreply.trans (s.credited_reply b)⟩
    · rw [State.latest_of_away h, State.reported, State.modBay_bay, if_pos rfl]
    · rw [State.faultRec_of_away h hx, State.faultRec, hfaults]
      exact s.credited_faultRec b x
    · rw [State.grant_of_away h hx, State.grant, halloc]
      exact hgrant x hx

end Sys2Proof.Machine
end

section
/-! SUPPORT. Removals (R32, R46, R47, R125, R149): what a report that shows no pack leaves of the records, the issue
list and the
bay. -/

namespace Sys2Proof.Machine

/-! ## The ledger under a change of place -/

/-- The record of a tag in a ledger. -/
def Ledger.pack (l : Ledger) (g : Nat) : Option PackRec := findPack l.register.packs g

/-- A record's place changed and written. -/
def Ledger.setPlace (l : Ledger) (g : Nat) (p : Place) : Ledger :=
  { l with
    register := { l.register with packs := l.register.packs.map fun q => if q.tag = g then { q with place := p } else q }
    inFlight := l.inFlight ++ ((l.pack g).map fun r => StoreWrite.pack { r with place := p }).toList }

/-- An edge-type cause SET. -/
def Ledger.raise (l : Ledger) (c : Cause) : Ledger := { l with edges := l.edges.raise c }

theorem Ledger.setPlace_pack (l : Ledger) (g x : Nat) (p : Place) :
    (l.setPlace g p).pack x = if x = g then (l.pack x).map fun r => { r with place := p } else l.pack x := by
  have h := fun u : State => u.modPack_pack g x (f := fun q => { q with place := p }) fun _ => rfl
  exact h { State.reset with register := l.register }

theorem State.ledger_pack (s : State) (g : Nat) : s.ledger.pack g = s.pack g := rfl

theorem State.setPlace_ledger (s : State) (g : Nat) (p : Place) : (s.setPlace g p).ledger = s.ledger.setPlace g p := by
  cases hr : s.pack g with
  | some r =>
    rw [State.setPlace_eq hr]
    have hl : s.ledger.pack g = some r := hr
    simp only [Ledger.setPlace, hl]
    rfl
  | none =>
    have hn : (s.modPack g fun q => { q with place := p }).pack g = none := by
      rw [State.modPack_pack s g g (f := fun q => { q with place := p }) fun _ => rfl, if_pos rfl, hr]
      rfl
    have hl : s.ledger.pack g = none := hr
    simp only [State.setPlace, State.savePack, hn, Ledger.setPlace, hl]
    simp [State.ledger, State.modPack]

theorem State.raise_ledger (s : State) (c : Cause) : (s.raise c).ledger = s.ledger.raise c := rfl

/-- A state without its pack records, rotation lists and writes. -/
def State.sansRecords (s : State) : State :=
  { s with register := { s.register with packs := [], rotation := Vector.replicate 8 [] }, inFlight := [] }

section
variable {s t : State}

theorem State.bays_of_sansRecords (h : t.sansRecords = s.sansRecords) : t.bays = s.bays := (congrArg State.bays h :)
theorem State.alloc_of_sansRecords (h : t.sansRecords = s.sansRecords) : t.alloc = s.alloc := (congrArg State.alloc h :)
theorem State.disp_of_sansRecords (h : t.sansRecords = s.sansRecords) : t.disp = s.disp := (congrArg State.disp h :)
theorem State.link_of_sansRecords (h : t.sansRecords = s.sansRecords) : t.link = s.link := (congrArg State.link h :)
theorem State.faults_of_sansRecords (h : t.sansRecords = s.sansRecords) : t.faults = s.faults :=
    (congrArg State.faults h :)

theorem State.bay_of_sansRecords (h : t.sansRecords = s.sansRecords) (x : BayNo) : t.bay x = s.bay x := by
  rw [State.bay, State.bays_of_sansRecords h, State.bay]

theorem State.grant_of_sansRecords (h : t.sansRecords = s.sansRecords) (x : BayNo) : t.grant x = s.grant x := by
  rw [State.grant, State.alloc_of_sansRecords h, State.grant]

theorem State.faultRec_of_sansRecords (h : t.sansRecords = s.sansRecords) (x : BayNo) : t.faultRec x = s.faultRec x := by
  rw [State.faultRec, State.faults_of_sansRecords h, State.faultRec]

end

section
variable (s : State)

@[simp] theorem State.setPlace_sansRecords (g : Nat) (p : Place) : (s.setPlace g p).sansRecords = s.sansRecords := by
  unfold State.setPlace State.savePack
  split <;> rfl

@[simp] theorem State.confirmPack_sansRecords (m g : Nat) : (s.confirmPack m g).sansRecords = s.sansRecords := by
  cases hr : s.pack g with
  | none => rw [State.confirmPack_of_none hr]
  | some r => rw [State.confirmPack_eq hr]; rfl

theorem State.foldl_sansRecords {α : Type} {f : State → α → State}
    (h : ∀ (u : State) a, (f u a).sansRecords = u.sansRecords) (l : List α) :
    (l.foldl f s).sansRecords = s.sansRecords := by
  induction l generalizing s with
  | nil => rfl
  | cons a l ih => rw [List.foldl_cons, ih, h]

@[simp] theorem State.loseAt_sansRecords (b : BayNo) : (s.loseAt b).sansRecords = s.sansRecords :=
  s.foldl_sansRecords (f := fun u (r : PackRec) => u.setPlace r.tag .unaccounted)
    (fun u r => u.setPlace_sansRecords r.tag .unaccounted) _

@[simp] theorem State.loseIdentity_sansRecords (b : BayNo) : (s.loseIdentity b).sansRecords = s.sansRecords := by
  unfold State.loseIdentity
  split <;> simp

@[simp] theorem State.removalOf_sansRecords (b : BayNo) (m : Bool) (i : Issue) :
    (s.removalOf b m i).sansRecords = s.sansRecords := by
  unfold State.removalOf
  simp only
  split
  · exact s.foldl_sansRecords (fun u g => u.setPlace_sansRecords g _) _
  · exact s.foldl_sansRecords (fun u g => u.confirmPack_sansRecords _ g) _

end

/-! ## Every record that names a bay -/

theorem Ledger.foldl_setPlace_pack (p : Place) (rs : List PackRec) (l : Ledger) (x : Nat) :
    (rs.foldl (fun u r => u.setPlace r.tag p) l).pack x =
      if x ∈ rs.map (·.tag) then (l.pack x).map fun r => { r with place := p } else l.pack x := by
  induction rs generalizing l with
  | nil => simp
  | cons r rs ih =>
    rw [List.foldl_cons, ih, Ledger.setPlace_pack]
    by_cases hx : x = r.tag
    · by_cases hm : x ∈ rs.map (·.tag) <;> cases l.pack x <;> simp_all
    · simp [hx]

theorem Ledger.foldl_setPlace_kept (p : Place) (rs : List PackRec) (l : Ledger) :
    (rs.foldl (fun u r => u.setPlace r.tag p) l).issues = l.issues ∧
      (rs.foldl (fun u r => u.setPlace r.tag p) l).edges = l.edges := by
  induction rs generalizing l with
  | nil => exact ⟨rfl, rfl⟩
  | cons r rs ih => exact ih _

theorem State.loseAt_ledger (s : State) (b : BayNo) :
    (s.loseAt b).ledger = (s.packsAt b).foldl (fun u r => u.setPlace r.tag .unaccounted) s.ledger :=
  (List.foldl_hom (f := State.ledger) (l := s.packsAt b) (fun u r => (u.setPlace_ledger r.tag .unaccounted).symm)).symm

/-- The tags of the records that name a bay. -/
theorem State.mem_packsAt_tags {s : State} (hs : packsSorted s.register.packs = true) (b : BayNo) {x : Nat} {r : PackRec}
    (hr : s.pack x = some r) : x ∈ (s.packsAt b).map (·.tag) ↔ r.place = .bay b := by
  obtain ⟨hmem, htag⟩ := mem_of_findPack hr
  simp only [State.packsAt, List.mem_map, List.mem_filter, decide_eq_true_eq]
  refine ⟨fun ⟨q, ⟨hq, hp⟩, ht⟩ => ?_, fun hp => ⟨r, ⟨hmem, hp⟩, htag⟩⟩
  rw [← eq_of_tag_eq hs hq hmem (ht.trans htag.symm), hp]

theorem State.loseAt_lost {s : State} (hs : packsSorted s.register.packs = true) (b : BayNo) :
    (s.loseAt b).LostAt s b := by
  intro x
  have h := (congrArg (Ledger.pack · x) (s.loseAt_ledger b)).trans (Ledger.foldl_setPlace_pack .unaccounted _ _ x)
  refine h.trans ?_
  rw [State.ledger_pack]
  cases hr : s.pack x with
  | none => simp
  | some r =>
    by_cases hp : r.place = .bay b
    · simp [(State.mem_packsAt_tags hs b hr).2 hp, hp]
    · simp [mt (State.mem_packsAt_tags hs b hr).1 hp, hp]

/-! ## An unexpected removal -/

/-- The pack of a bay UNACCOUNTED, where it is registered (R47). -/
def Ledger.lose (l : Ledger) : Identity → Ledger
  | .registered g => l.setPlace g .unaccounted
  | _ => l

theorem State.loseIdentity_ledger (s : State) (b : BayNo) :
    (s.loseIdentity b).ledger = s.ledger.lose (s.bay b).identity := by
  unfold State.loseIdentity
  split
  · next h => rw [h, State.setPlace_ledger]; rfl
  · next h =>
    cases hi : (s.bay b).identity with
    | registered g => exact absurd hi (h g)
    | _ => rfl

theorem State.request_of_outline {s t : State} (h : t.outline = s.outline) (x : BayNo) :
    (t.grant x).request = (s.grant x).request :=
  (congrArg Grant.request (State.grant_outline_of_outline h x) :)

theorem State.toVacant_grant (s : State) (b x : BayNo) : (s.toVacant b).grant x = s.grant x := by
  rw [State.grant, State.toVacant, State.moveTo, State.redrive_alloc, State.modBay_alloc, State.modBay_alloc, State.grant]

/-- A bay without a session asks for nothing once its session has ended (R40). -/
theorem State.endSession_request {s : State} {b : BayNo} (h : (s.bay b).session = none → (s.grant b).request = 0) :
    ((s.endSession b).grant b).request = 0 := by
  unfold State.endSession
  split
  · rw [State.request_of_outline (State.releaseRequest_outline _ b) b, State.modGrant_grant, if_pos rfl]
  · next hs => exact h (by simpa using hs)

theorem State.unexpectedRemoval_bay (s : State) (b : BayNo) : ((s.unexpectedRemoval b).bay b).outline =
    ({ (s.bay b).emptied with session := none, state := .vacant } : Bay).outline := by
  have hend := s.endSession_bay_outline b b
  rw [if_pos rfl] at hend
  rw [State.unexpectedRemoval, State.handAllReady_bay_outline, State.relevel_bay_outline, State.toVacant_bay_outline,
    if_pos rfl]
  have hb : (((s.endSession b).loseIdentity b).raise .taken).bay b = (s.endSession b).bay b := by
    rw [State.bay, State.raise_bays]
    exact State.bay_of_sansRecords (State.loseIdentity_sansRecords _ b) b
  rw [hb]
  exact congrArg (fun y : Bay => { y.emptied with state := .vacant }) hend

theorem State.unexpectedRemoval_rests (s : State) (b : BayNo) : (s.unexpectedRemoval b).Rests b :=
  ((State.toVacant_rests _ b).relevel b).handAllReady

theorem State.unexpectedRemoval_request {s : State} {b : BayNo} (h : (s.bay b).session = none → (s.grant b).request = 0) :
    ((s.unexpectedRemoval b).grant b).request = 0 := by
  rw [State.unexpectedRemoval, State.request_of_outline (State.handAllReady_outline _),
    State.request_of_outline (State.relevel_outline _ b), State.toVacant_grant, State.grant, State.raise_alloc,
    State.alloc_of_sansRecords (State.loseIdentity_sansRecords _ b)]
  exact State.endSession_request h

theorem State.unexpectedRemoval_ledger (s : State) (b : BayNo) :
    (s.unexpectedRemoval b).ledger = (s.ledger.lose (s.bay b).identity).raise .taken := by
  have hi : ((s.endSession b).bay b).identity = (s.bay b).identity := by
    have h := s.endSession_bay_outline b b
    rw [if_pos rfl] at h
    exact (congrArg Bay.identity h :)
  rw [State.unexpectedRemoval, State.handAllReady_ledger, State.relevel_ledger, State.toVacant_ledger, State.raise_ledger,
    State.loseIdentity_ledger, State.endSession_ledger, hi]

/-! ## A removal from RELEASE -/

/-- The entry that holds the OPEN part of a bay. -/
def State.entryAt (s : State) (b : BayNo) : Option Issue := s.disp.issues.find? fun i => i.parts.any (Part.openIn b)

theorem State.takeRemoval_bays_alloc (s : State) (b : BayNo) :
    (s.takeRemoval b).bays = s.bays ∧ (s.takeRemoval b).alloc = s.alloc := by
  simp only [State.takeRemoval, State.dropComplete, State.setIssues_bays, State.setIssues_alloc]
  split
  · exact ⟨State.bays_of_sansRecords (State.removalOf_sansRecords s b _ _),
      State.alloc_of_sansRecords (State.removalOf_sansRecords s b _ _)⟩
  · exact ⟨rfl, rfl⟩

/-- What a removal from RELEASE records: the part's new state, and what confirming or taking the pack does (R125). -/
theorem State.takeRemoval_ledger (s : State) (b : BayNo) : (s.takeRemoval b).ledger =
    { (((s.entryAt b).map (s.removalOf b (s.bay b).cfg.manual)).getD s).ledger with
      issues := withRemoved b (if (s.bay b).cfg.manual then .taken else .done) s.disp.issues } := by
  have hparts : ∀ (st : PartState) (l : List Issue), ((l.map (Issue.setParts (Part.openIn b) st)).filter
      fun i => !i.complete) = withRemoved b st l := fun st l => by
    have hset : Issue.setParts (Part.openIn b) st = fun i => { i with
        parts := i.parts.map fun p => if p.state = .openAt b then { p with state := st } else p } := by
      funext i
      simp [Issue.setParts, Part.openIn]
    rw [withRemoved, hset]
    rfl
  have hledger : ∀ u : State, u.disp = s.disp → (u.setIssues (u.disp.issues.map
      (Issue.setParts (Part.openIn b) (if (s.bay b).cfg.manual then .taken else .done)))).dropComplete.ledger =
        { u.ledger with issues := withRemoved b (if (s.bay b).cfg.manual then .taken else .done) s.disp.issues } := by
    intro u hd
    rw [← hparts, ← hd]
    rfl
  simp only [State.takeRemoval]
  cases hi : s.entryAt b with
  | none =>
    simp only [show s.disp.issues.find? (fun i => i.parts.any (Part.openIn b)) = none from hi]
    exact hledger s rfl
  | some i =>
    simp only [show s.disp.issues.find? (fun i => i.parts.any (Part.openIn b)) = some i from hi]
    exact hledger _ (State.disp_of_sansRecords (s.removalOf_sansRecords b _ i))

/-- A removal of the one pack that an entry's OPEN part names. -/
theorem State.removalOf_one (s : State) {b : BayNo} {i : Issue} {g : Nat}
    (h : i.parts.filter (Part.openIn b) = [⟨some g, .openAt b⟩]) (m : Bool) :
    s.removalOf b m i = if m then s.setPlace g (.machine i.machine) else s.confirmPack i.machine g := by
  simp [State.removalOf, h, State.confirmPacks]

end Sys2Proof.Machine
end

section
/-! SUPPORT. A report that shows no pack (R32, R46, R47, R149), bay state by bay state. -/

namespace Sys2Proof.Machine

section
variable (s : State) (b : BayNo) (rep : Report)

theorem State.reported_bay_outline (x : BayNo) : ((s.reported b rep).bay x).outline =
    if x = b then ({ s.bay b with latest := some ⟨rep, s.now⟩ } : Bay).outline else (s.bay x).outline := by
  rw [State.reported, State.modBay_bay_outline]
  split
  · exact congrArg (fun y : Bay => { y with latest := some ⟨rep, s.now⟩ }) (s.credited_bay_outline b b)
  · exact s.credited_bay_outline b x

theorem State.reported_outline_self : ((s.reported b rep).bay b).outline =
    ({ s.bay b with latest := some ⟨rep, s.now⟩ } : Bay).outline := by
  rw [State.reported_bay_outline, if_pos rfl]

theorem State.reported_state : ((s.reported b rep).bay b).state = (s.bay b).state :=
  (congrArg Bay.state (s.reported_outline_self b rep) :)
theorem State.reported_identity : ((s.reported b rep).bay b).identity = (s.bay b).identity :=
  (congrArg Bay.identity (s.reported_outline_self b rep) :)
theorem State.reported_session : ((s.reported b rep).bay b).session = (s.bay b).session :=
  (congrArg Bay.session (s.reported_outline_self b rep) :)
theorem State.reported_reconcile : ((s.reported b rep).bay b).reconcile = (s.bay b).reconcile :=
  (congrArg Bay.reconcile (s.reported_outline_self b rep) :)
theorem State.reported_cfg : ((s.reported b rep).bay b).cfg = (s.bay b).cfg :=
  (congrArg Bay.cfg (s.reported_outline_self b rep) :)

theorem State.reported_ledger : (s.reported b rep).ledger = s.settle.ledger := s.credited_ledger b
theorem State.reported_pack (g : Nat) : (s.reported b rep).pack g = s.pack g :=
  State.pack_of_ledger (s := s.settle) (s.reported_ledger b rep) g
theorem State.reported_register : (s.reported b rep).register = s.register :=
  State.register_of_ledger (s := s.settle) (s.reported_ledger b rep)
theorem State.reported_packsAt (x : BayNo) : (s.reported b rep).packsAt x = s.packsAt x := by
  rw [State.packsAt, State.reported_register, State.packsAt]
theorem State.reported_faultRec (x : BayNo) : (s.reported b rep).faultRec x = s.faultRec x := s.credited_faultRec b x
theorem State.reported_request (x : BayNo) : ((s.reported b rep).grant x).request = (s.grant x).request :=
  s.credited_request b x
theorem State.reported_now : (s.reported b rep).now = s.now := s.credited_now b

end

/-! ## What the report does -/

section
variable {s : State} {b : BayNo} {rep : Report}

/-- The state after reconciliation and presence (R29, steps 1 and 2). -/
def State.seen (s : State) (b : BayNo) (rep : Report) : State :=
  ((s.reported b rep).reconcile b rep).presence b rep

theorem State.delivered_eq (hm : (s.bay b).state ≠ .masked) : ∃ prev, s.delivered b rep =
    (if ((s.seen b rep).bay b).state = .vacant then s.seen b rep
      else (s.seen b rep).testsAndWork b rep prev (s.line b).answeredOn (s.line b).sent.drive.on).handAllReady := by
  refine ⟨(((s.credited b).bay b).latest.map (·.arrival)).getD s.now, ?_⟩
  rw [State.delivered, if_neg hm]
  simp only [State.goodReportAt, State.credited_now]
  rfl

/-- A bay with nothing to reconcile. -/
theorem State.reconcile_of_no {u : State} (h : (u.bay b).reconcile = .no) : u.reconcile b rep = u := by
  simp [State.reconcile, h]

theorem State.seen_absent (hr : (s.bay b).reconcile = .no) (hp : rep.present = false) :
    s.seen b rep = (s.reported b rep).absentAt b := by
  rw [State.seen, State.reconcile_of_no ((s.reported_reconcile b rep).trans hr), State.presence, if_neg (by simp [hp])]

theorem State.seen_present (hr : (s.bay b).reconcile = .no) (hp : rep.present = true) :
    s.seen b rep = (s.reported b rep).presentAt b := by
  rw [State.seen, State.reconcile_of_no ((s.reported_reconcile b rep).trans hr), State.presence, if_pos hp]

/-- A bay that the report leaves VACANT is done with. -/
theorem State.delivered_of_vacant (hm : (s.bay b).state ≠ .masked) (hv : ((s.seen b rep).bay b).state = .vacant) :
    s.delivered b rep = (s.seen b rep).handAllReady := by
  obtain ⟨prev, h⟩ := State.delivered_eq (rep := rep) hm
  rw [h, if_pos hv]

end

/-! ## A bay that is left VACANT -/

/-- A bay emptied, in VACANT and without a session. -/
def Bay.left (y : Bay) : Bay := { y.emptied with session := none, state := .vacant }

/-- What the outline of a bay that was left shows, and its drive. -/
theorem State.left_shows {t : State} {b : BayNo} {y : Bay} (h : (t.bay b).outline = y.left.outline) (hr : t.Rests b) :
    (t.bay b).state = .vacant ∧ (t.bay b).session = none ∧ (t.bay b).identity = .empty ∧ (t.bay b).outcome = .none ∧
      (t.bay b).dockTime = none ∧ (t.bay b).coolExpiry = none ∧ (t.bay b).drive = ⟨false, 0, 0, true, .off⟩ :=
  ⟨(congrArg Bay.state h :), (congrArg Bay.session h :), (congrArg Bay.identity h :), (congrArg Bay.outcome h :),
    (congrArg Bay.dockTime h :), (congrArg Bay.coolExpiry h :), hr.drive h⟩

/-- A bay without a session that enters VACANT is left. -/
theorem State.toVacant_left {u : State} {b : BayNo} {y : Bay} (hy : (u.bay b).outline = y.outline)
    (hs : y.session = none) : ((u.toVacant b).bay b).outline = y.left.outline := by
  have hl : ({ y.emptied with state := .vacant } : Bay) = y.left := by
    simp [Bay.left, Bay.emptied, hs]
  rw [State.toVacant_bay_outline, if_pos rfl, ← hl]
  exact congrArg (fun z : Bay => { z.emptied with state := .vacant }) hy

section
variable {s : State} {b : BayNo} {rep : Report}

/-- From IDENTIFY (R32). -/
theorem State.leftInIdentify_left (hs : (s.bay b).session = none) :
    ((s.leftInIdentify b).bay b).outline = (s.bay b).left.outline ∧ (s.leftInIdentify b).Rests b ∧
      ((s.leftInIdentify b).grant b).request = (s.grant b).request ∧
      (s.leftInIdentify b).ledger =
        if (s.packsAt b).isEmpty then s.ledger else (s.loseAt b).ledger.raise .taken := by
  have hbase : (if (s.packsAt b).isEmpty then s else (s.loseAt b).raise .taken).bay b = s.bay b ∧
      (if (s.packsAt b).isEmpty then s else (s.loseAt b).raise .taken).grant b = s.grant b := by
    split
    · exact ⟨rfl, rfl⟩
    · exact ⟨State.bay_of_sansRecords (s.loseAt_sansRecords b) b, State.grant_of_sansRecords (s.loseAt_sansRecords b) b⟩
  have hledger : (if (s.packsAt b).isEmpty then s else (s.loseAt b).raise .taken).ledger =
      if (s.packsAt b).isEmpty then s.ledger else (s.loseAt b).ledger.raise .taken := by
    split <;> rfl
  unfold State.leftInIdentify
  generalize (if (s.packsAt b).isEmpty then s else (s.loseAt b).raise .taken) = v at hbase hledger
  refine ⟨State.toVacant_left (congrArg Bay.outline hbase.1) hs, v.toVacant_rests b, ?_, ?_⟩
  · rw [State.toVacant_grant, hbase.2]
  · rw [State.toVacant_ledger, hledger]

/-- From RELEASE (R46). -/
theorem State.releaseRemoval_left (hs : (s.bay b).session = none) :
    ((s.releaseRemoval b).bay b).outline = (s.bay b).left.outline ∧ (s.releaseRemoval b).Rests b ∧
      ((s.releaseRemoval b).grant b).request = (s.grant b).request ∧
      (s.releaseRemoval b).ledger = (s.takeRemoval b).ledger := by
  obtain ⟨hbays, halloc⟩ := s.takeRemoval_bays_alloc b
  have hbay : (s.takeRemoval b).bay b = s.bay b := by rw [State.bay, hbays, State.bay]
  rw [State.releaseRemoval]
  refine ⟨State.toVacant_left (congrArg Bay.outline hbay) hs, State.toVacant_rests _ b, ?_, State.toVacant_ledger _ b⟩
  rw [State.toVacant_grant, State.grant, halloc, State.grant]

/-! ## From FAULT -/

/-- A kind that quarantines nothing joins the secondary kinds alone. -/
theorem State.joinFault_eq {k : FaultKind} (hk : k.quarantines = false) (s : State) (b : BayNo) {f : FaultRec}
    (hf : s.faultRec b = some f) : s.joinFault b k = s ∨ s.joinFault b k = s.setFault b (some (f.join k)) := by
  unfold State.joinFault
  rw [hf]
  simp only
  split
  · exact .inl rfl
  · exact .inr (State.quarantineFor_of_none _ b (by simpa using hk))

/-- The record of a bay in FAULT after a report that shows no pack: pack held is NO (R149). -/
theorem State.leftInFault_shows {f : FaultRec} (hf : s.faultRec b = some f) :
    (s.leftInFault b).bay b = s.bay b ∧ (s.leftInFault b).faultRec b = some { f with held := false } ∧
      (s.leftInFault b).ledger = if f.held then (s.loseAt b).ledger else s.ledger := by
  unfold State.leftInFault
  rw [hf]
  simp only
  cases hh : f.held with
  | false =>
    have hsame : f = { f with held := false } := by rw [← hh]
    simp only [Bool.false_eq_true, if_false]
    exact ⟨trivial, hf.trans (congrArg some hsame), trivial⟩
  | true =>
    simp only [if_true]
    have hl := (s.setFault b (some { f with held := false })).loseAt_sansRecords b
    refine ⟨State.bay_of_sansRecords hl b, (State.faultRec_of_sansRecords hl b).trans ?_, ?_⟩
    · rw [State.setFault_faultRec, if_pos rfl]
    · rw [State.loseAt_ledger, State.loseAt_ledger]
      rfl

/-- The tests of a bay in FAULT whose pack is gone find STAGE_ALARM at most (R141). -/
theorem State.kindsFound_absent {f : FaultRec} (hb : (s.bay b).state = .fault) (hf : s.faultRec b = some f)
    (hh : f.held = false) (hp : rep.present = false) (a : Bool) :
    s.kindsFound b rep a = kindIf .stageAlarm rep.alarm := by
  simp [State.kindsFound, State.testClass, hb, hf, hh, faultKinds, interlockAt, hp, kindIf]

theorem State.testsAndWork_absent {f : FaultRec} (hb : (s.bay b).state = .fault) (hf : s.faultRec b = some f)
    (hh : f.held = false) (hp : rep.present = false) (prev : Nat) (on a : Bool) :
    s.testsAndWork b rep prev on a = s ∨ s.testsAndWork b rep prev on a = s.setFault b (some (f.join .stageAlarm)) := by
  simp only [State.testsAndWork, State.kindsFound_absent hb hf hh hp, hb, if_true]
  cases rep.alarm with
  | false => exact .inl rfl
  | true => exact State.joinFault_eq rfl s b hf

end

end Sys2Proof.Machine
end

section
/-! SUPPORT. A report that shows no pack, with the statement's words for what it leaves (R32, R46, R47, R125, R149). -/

namespace Sys2Proof.Machine

/-! ## The ledger after a removal -/

theorem Ledger.lose_kept (l : Ledger) (i : Identity) : (l.lose i).issues = l.issues ∧ (l.lose i).edges = l.edges := by
  cases i <;> exact ⟨rfl, rfl⟩

theorem Ledger.lose_registered {l : Ledger} {g : Nat} {r : PackRec} (hr : l.pack g = some r) :
    (l.lose (.registered g)).pack g = some { r with place := .unaccounted } ∧
      (l.lose (.registered g)).inFlight = l.inFlight ++ [.pack { r with place := .unaccounted }] := by
  refine ⟨?_, ?_⟩
  · rw [Ledger.lose, Ledger.setPlace_pack, if_pos rfl, hr]
    rfl
  · rw [Ledger.lose, Ledger.setPlace, hr]
    rfl

theorem Ledger.lose_pack_of_ne (l : Ledger) {i : Identity} {x : Nat} (hi : i ≠ .registered x) :
    (l.lose i).pack x = l.pack x := by
  cases i with
  | registered g =>
    rw [Ledger.lose, Ledger.setPlace_pack, if_neg]
    exact fun h => hi (by rw [h])
  | _ => rfl

section
variable {s : State} {b : BayNo} {rep : Report}

/-- A bay that does not take power asks for none. -/
theorem State.request_of_baysOk (h : s.BaysOk) (hc : (s.bay b).state ≠ .charge) (hm : (s.bay b).state ≠ .maintain) :
    (s.grant b).request = 0 := by
  by_contra hr
  exact ((h b).2.2.2 hr).elim hc hm

/-- Outside ASSESS, CHARGE and MAINTAIN a bay holds no session. -/
theorem State.session_of_baysOk (h : s.BaysOk) (hs : (s.bay b).inSession = false) : (s.bay b).session = none := by
  have h' := (h b).2.1
  rw [hs] at h'
  simpa using h'

/-- A bay without a session asks for nothing. -/
theorem State.request_of_no_session (h : s.BaysOk) (hs : (s.bay b).session = none) : (s.grant b).request = 0 := by
  have h' := (h b).2.1
  rw [hs] at h'
  refine State.request_of_baysOk h ?_ ?_ <;>
  · intro hst
    simp [Bay.inSession, hst] at h'

/-- An unexpected removal (R47). -/
theorem State.packLeft_unexpected (hb : s.BaysOk) (hr : (s.bay b).reconcile = .no) (hp : rep.present = false)
    (hab : ∀ u : State, (u.bay b).state = (s.bay b).state → u.absentAt b = u.unexpectedRemoval b)
    (hi : (s.bay b).state ≠ .identify) (hrel : (s.bay b).state ≠ .release) (hf : (s.bay b).state ≠ .fault)
    (hm : (s.bay b).state ≠ .masked) : (s.delivered b rep).PackLeft s b := by
  have hseen : s.seen b rep = (s.reported b rep).unexpectedRemoval b :=
    (State.seen_absent hr hp).trans (hab _ (s.reported_state b rep))
  have hbay : ((s.seen b rep).bay b).outline = ((s.reported b rep).bay b).left.outline :=
    hseen ▸ State.unexpectedRemoval_bay _ b
  rw [State.delivered_of_vacant hm ((congrArg Bay.state hbay :))]
  have hleft := State.left_shows (t := (s.seen b rep).handAllReady) ((State.handAllReady_bay_outline _ b).trans hbay)
    (State.Rests.handAllReady (hseen ▸ State.unexpectedRemoval_rests _ b))
  have hreq : ((s.seen b rep).handAllReady.grant b).request = 0 := by
    rw [State.request_of_outline (State.handAllReady_outline _) b, hseen]
    refine State.unexpectedRemoval_request fun hs => ?_
    rw [State.reported_session] at hs
    rw [State.reported_request]
    exact State.request_of_no_session hb hs
  have hl : (s.seen b rep).handAllReady.ledger = (s.settle.ledger.lose (s.bay b).identity).raise .taken := by
    rw [State.handAllReady_ledger, hseen, State.unexpectedRemoval_ledger, State.reported_ledger, State.reported_identity]
  generalize (s.seen b rep).handAllReady = t at hleft hreq hl
  obtain ⟨h1, h2, h3, h4, h5, h6, h7⟩ := hleft
  have hkept := s.settle.ledger.lose_kept (s.bay b).identity
  refine ⟨fun _ _ _ => ⟨h1, h2, h3, h4, h5, h6, h7, hreq⟩, fun h => absurd h hi,
    fun _ => ⟨?_, ?_, fun g r hg hpack => ?_, fun g hg => ?_⟩, fun h => absurd h hrel, fun _ h => absurd h hf⟩
  · exact (congrArg Ledger.edges hl).trans (congrArg (fun e : Edges => e.raise .taken) hkept.2)
  · exact (congrArg Ledger.issues hl).trans hkept.1
  · obtain ⟨hl1, hl2⟩ := Ledger.lose_registered (l := s.settle.ledger) (g := g) (r := r) hpack
    rw [← hg] at hl1 hl2
    exact ⟨(congrArg (Ledger.pack · g) hl).trans hl1, (congrArg Ledger.inFlight hl).trans hl2⟩
  · exact (congrArg (Ledger.pack · g) hl).trans (s.settle.ledger.lose_pack_of_ne hg)

/-- From IDENTIFY (R32). -/
theorem State.packLeft_identify (hb : s.BaysOk) (ha : packsSorted s.register.packs = true)
    (hr : (s.bay b).reconcile = .no) (hp : rep.present = false) (hi : (s.bay b).state = .identify) :
    (s.delivered b rep).PackLeft s b := by
  have hsession : (s.bay b).session = none := State.session_of_baysOk hb (by simp [Bay.inSession, hi])
  have hseen : s.seen b rep = (s.reported b rep).leftInIdentify b := by
    rw [State.seen_absent hr hp, State.absentAt, State.reported_state, hi]
  obtain ⟨hbay, hrests, hreq, hl⟩ := State.leftInIdentify_left ((s.reported_session b rep).trans hsession)
  rw [← hseen] at hbay hrests hreq hl
  rw [State.delivered_of_vacant (by simp [hi]) ((congrArg Bay.state hbay :))]
  have hleft := State.left_shows (t := (s.seen b rep).handAllReady) ((State.handAllReady_bay_outline _ b).trans hbay)
    (State.Rests.handAllReady hrests)
  have hreq' : ((s.seen b rep).handAllReady.grant b).request = 0 := by
    rw [State.request_of_outline (State.handAllReady_outline _) b, hreq, State.reported_request]
    exact State.request_of_no_session hb hsession
  have hlost : (s.seen b rep).handAllReady.LostAt s b ∧ (s.seen b rep).handAllReady.link.edges =
      if (s.packsAt b).isEmpty then s.link.edges else { s.link.edges with taken := true } := by
    have hsorted : packsSorted (s.reported b rep).register.packs = true := by rw [State.reported_register]; exact ha
    have hlose := State.loseAt_lost hsorted b
    have hkept := Ledger.foldl_setPlace_kept .unaccounted ((s.reported b rep).packsAt b) (s.reported b rep).ledger
    rw [← State.loseAt_ledger] at hkept
    have hl' : (s.seen b rep).handAllReady.ledger = _ := (State.handAllReady_ledger _).trans hl
    rw [State.reported_packsAt] at hl'
    generalize (s.seen b rep).handAllReady = t at hl'
    split at hl'
    · next he =>
      rw [if_pos he]
      rw [State.reported_ledger] at hl'
      refine ⟨fun g => ?_, (congrArg Ledger.edges hl' :)⟩
      refine (State.pack_of_ledger (s := s.settle) hl' g).trans ?_
      cases hg : s.pack g with
      | none => simp [hg]
      | some r =>
        have hplace : r.place ≠ .bay b := fun hpl => by
          have := (State.mem_packsAt_tags ha b hg).2 hpl
          rw [List.isEmpty_iff.1 he] at this
          simp at this
        simp [hg, hplace]
    · next he =>
      rw [if_neg he]
      refine ⟨fun g => ?_, ?_⟩
      · refine ((congrArg (Ledger.pack · g) hl').trans (hlose g)).trans ?_
        rw [State.reported_pack]
      · refine (congrArg Ledger.edges hl').trans ?_
        exact congrArg (fun e : Edges => e.raise .taken) (hkept.2.trans (congrArg Ledger.edges (s.reported_ledger b rep)))
  generalize (s.seen b rep).handAllReady = t at hleft hreq' hlost
  obtain ⟨h1, h2, h3, h4, h5, h6, h7⟩ := hleft
  exact ⟨fun _ _ _ => ⟨h1, h2, h3, h4, h5, h6, h7, hreq'⟩, fun _ => hlost, fun h => by simp [hi, Bay.inSession] at h,
    fun h => by simp [hi] at h, fun _ h => by simp [hi] at h⟩

/-- From RELEASE (R46, R125). -/
theorem State.packLeft_release (hb : s.BaysOk) (hr : (s.bay b).reconcile = .no) (hp : rep.present = false)
    (hi : (s.bay b).state = .release) : (s.delivered b rep).PackLeft s b := by
  have hsession : (s.bay b).session = none := State.session_of_baysOk hb (by simp [Bay.inSession, hi])
  have hseen : s.seen b rep = (s.reported b rep).releaseRemoval b := by
    rw [State.seen_absent hr hp, State.absentAt, State.reported_state, hi]
  obtain ⟨hbay, hrests, hreq, hl⟩ := State.releaseRemoval_left ((s.reported_session b rep).trans hsession)
  rw [← hseen] at hbay hrests hreq hl
  rw [State.delivered_of_vacant (by simp [hi]) ((congrArg Bay.state hbay :))]
  have hleft := State.left_shows (t := (s.seen b rep).handAllReady) ((State.handAllReady_bay_outline _ b).trans hbay)
    (State.Rests.handAllReady hrests)
  have hreq' : ((s.seen b rep).handAllReady.grant b).request = 0 := by
    rw [State.request_of_outline (State.handAllReady_outline _) b, hreq, State.reported_request]
    exact State.request_of_no_session hb hsession
  have hl' : (s.seen b rep).handAllReady.ledger = _ :=
    (State.handAllReady_ledger _).trans (hl.trans (State.takeRemoval_ledger _ b))
  generalize (s.seen b rep).handAllReady = t at hleft hreq' hl'
  obtain ⟨h1, h2, h3, h4, h5, h6, h7⟩ := hleft
  have hu := s.reported_ledger b rep
  have hissues : (s.reported b rep).disp.issues = s.disp.issues := State.issues_of_ledger (s := s.settle) hu
  have hentry : (s.reported b rep).entryAt b = s.disp.issues.find? fun i => i.parts.any (Part.openIn b) := by
    rw [State.entryAt, hissues]
  rw [State.reported_cfg, hentry, hissues] at hl'
  refine ⟨fun _ _ _ => ⟨h1, h2, h3, h4, h5, h6, h7, hreq'⟩, fun h => by simp [hi] at h,
    fun h => by simp [hi, Bay.inSession] at h, fun _ => ⟨?_, (congrArg Ledger.issues hl' :), fun i g r hfind hpart hpack => ?_⟩,
    fun _ h => by simp [hi] at h⟩
  · refine (congrArg Ledger.edges hl').trans ?_
    have hlink : ∀ o : Option Issue, ((o.map ((s.reported b rep).removalOf b (s.bay b).cfg.manual)).getD
        (s.reported b rep)).link = (s.reported b rep).link := fun o => by
      cases o with
      | none => rfl
      | some i => exact State.link_of_sansRecords (State.removalOf_sansRecords _ b _ i)
    exact (congrArg (fun k : Link => k.edges) (hlink _)).trans (State.edges_of_ledger (s := s.settle) hu)
  · have hpack' : (s.reported b rep).pack g = some r := (s.reported_pack b rep g).trans hpack
    rw [hfind, Option.map_some, Option.getD_some, State.removalOf_one _ hpart] at hl'
    cases hman : (s.bay b).cfg.manual with
    | true =>
      rw [hman, if_pos rfl, State.setPlace_ledger, hu] at hl'
      refine ⟨fun x hx => ?_, fun h => by simp at h, fun _ => ⟨?_, (congrArg (fun l => l.register.rotation) hl' :), ?_⟩⟩
      · refine (congrArg (Ledger.pack · x) hl').trans ((Ledger.setPlace_pack s.settle.ledger g x _).trans (if_neg hx))
      · refine (congrArg (Ledger.pack · g) hl').trans ((Ledger.setPlace_pack s.settle.ledger g g _).trans ?_)
        rw [if_pos rfl, State.ledger_pack, State.settle_pack, hpack]
        rfl
      · refine (congrArg Ledger.inFlight hl').trans ?_
        simp only [Ledger.setPlace, State.ledger_pack, State.settle_pack, hpack]
        rfl
    | false =>
      rw [hman, if_neg (by simp), State.confirmPack_eq hpack'] at hl'
      have hrot : (s.reported b rep).rotation r.cls = s.rotation r.cls := by
        rw [State.rotation, State.reported_register, State.rotation]
      rw [State.reported_register, hrot] at hl'
      obtain ⟨-, htag⟩ := mem_of_findPack hpack
      have hx : ∀ x, t.pack x = if x = g then (s.pack x).map (·.confirmed i.machine) else s.pack x := fun x =>
        (congrArg (Ledger.pack · x) hl').trans (s.modPack_pack g x (f := (·.confirmed i.machine)) fun _ => rfl)
      refine ⟨fun x hne => (hx x).trans (if_neg hne), fun _ => ⟨?_, ?_, ?_⟩, fun h => by simp at h⟩
      · rw [hx, if_pos rfl, hpack]
        rfl
      · rw [State.rotation, show t.register = _ from congrArg Ledger.register hl', ← htag]
        simp [State.ledger, movedToTail]
      · rw [show t.inFlight = _ from congrArg Ledger.inFlight hl']
        simp [State.ledger]

/-- From FAULT (R149). -/
theorem State.packLeft_fault (ha : packsSorted s.register.packs = true) (hr : (s.bay b).reconcile = .no)
    (hp : rep.present = false) (hi : (s.bay b).state = .fault) : (s.delivered b rep).PackLeft s b := by
  refine ⟨fun _ h => absurd hi h, fun h => by simp [hi] at h, fun h => by simp [hi, Bay.inSession] at h,
    fun h => by simp [hi] at h, fun f _ hf => ?_⟩
  have hseen : s.seen b rep = (s.reported b rep).leftInFault b := by
    rw [State.seen_absent hr hp, State.absentAt, State.reported_state, hi]
  obtain ⟨hbay, hrec, hl⟩ := State.leftInFault_shows ((s.reported_faultRec b rep b).trans hf)
  rw [← hseen] at hbay hrec hl
  have hst : ((s.seen b rep).bay b).state = .fault := by rw [hbay, State.reported_state, hi]
  obtain ⟨prev, hd⟩ := State.delivered_eq (s := s) (b := b) (rep := rep) (by simp [hi])
  rw [hd, if_neg (by simp [hst])]
  have hwork := State.testsAndWork_absent hst hrec rfl hp prev (s.line b).answeredOn (s.line b).sent.drive.on
  generalize (s.seen b rep).testsAndWork b rep prev (s.line b).answeredOn (s.line b).sent.drive.on = w at hwork
  have hw : (w.bay b).state = .fault ∧ w.ledger = (s.seen b rep).ledger ∧ ∃ ks, w.faultRec b =
      some { f with held := false, secondary := ks } := by
    rcases hwork with h | h
    · exact ⟨h ▸ hst, h ▸ rfl, f.secondary, h ▸ hrec⟩
    · refine ⟨h ▸ hst, h ▸ rfl, ?_⟩
      rw [h, State.setFault_faultRec, if_pos rfl, FaultRec.join]
      split
      · exact ⟨f.secondary, rfl⟩
      · exact ⟨_, rfl⟩
  obtain ⟨hws, hwl, ks, hwr⟩ := hw
  have hledger : w.handAllReady.ledger = if f.held then ((s.reported b rep).loseAt b).ledger else s.settle.ledger := by
    rw [State.handAllReady_ledger, hwl, hl, State.reported_ledger]
  have hsorted : packsSorted (s.reported b rep).register.packs = true := by rw [State.reported_register]; exact ha
  have hstate : (w.handAllReady.bay b).state = .fault := by
    rw [← hws]
    exact Bay.state_of_outline (State.handAllReady_bay_outline w b)
  have hfault : w.handAllReady.faultRec b = some { f with held := false, secondary := ks } := by
    rw [State.faultRec_of_outline (State.handAllReady_outline w), hwr]
  generalize w.handAllReady = t at hledger hstate hfault
  refine ⟨hstate, ?_, ?_, ?_⟩
  · refine (congrArg Ledger.edges hledger).trans ?_
    split
    · rw [State.loseAt_ledger, (Ledger.foldl_setPlace_kept _ _ _).2, State.reported_ledger]
      rfl
    · rfl
  · cases hh : f.held with
    | true =>
      rw [hh, if_pos rfl] at hledger
      rw [if_pos rfl]
      intro g
      refine ((congrArg (Ledger.pack · g) hledger).trans (State.loseAt_lost hsorted b g)).trans ?_
      rw [State.reported_pack]
    | false =>
      rw [hh, if_neg (by simp)] at hledger
      rw [if_neg (by simp)]
      exact fun g => (State.pack_of_ledger (s := s.settle) hledger g).trans (s.settle_pack g)
  · rw [hfault]
    rfl

/-- A report that shows no pack, in every state of the bay (R29, step 2). -/
theorem State.delivered_packLeft (hb : s.BaysOk) (ha : s.register.Agrees) (hr : (s.bay b).reconcile = .no)
    (hp : rep.present = false) : (s.delivered b rep).PackLeft s b := by
  have unexpected := State.packLeft_unexpected (b := b) hb hr hp
  have elsewhere : ∀ t : State, (s.bay b).state = .vacant ∨ (s.bay b).state = .masked → t.PackLeft s b := fun t h => by
    refine ⟨fun hv _ hm => (h.elim hv hm).elim, fun hi => ?_, fun hi => ?_, fun hi => ?_, fun _ hi => ?_⟩ <;>
      rcases h with h | h <;> simp [h, Bay.inSession] at hi
  cases hst : (s.bay b).state with
  | identify => exact State.packLeft_identify hb ha.1 hr hp hst
  | release => exact State.packLeft_release hb hr hp hst
  | fault => exact State.packLeft_fault ha.1 hr hp hst
  | vacant => exact elsewhere _ (.inl hst)
  | masked => exact elsewhere _ (.inr hst)
  | cooling | assess | charge | maintain | standby =>
    rw [hst] at unexpected
    exact unexpected (fun u hu => by rw [State.absentAt, hu]) (by simp) (by simp) (by simp) (by simp)

end

end Sys2Proof.Machine
end

section
/-! SUPPORT. A latch outside RELEASE (R143, R144): the fault record, the bay in FAULT, and a ledger that gains charges
alone where
no registered pack is quarantined. -/

namespace Sys2Proof.Machine

section
variable (s : State) (b : BayNo)

theorem State.endSession_faultRec (x : BayNo) : (s.endSession b).faultRec x = s.faultRec x := by
  unfold State.endSession
  split
  · rw [State.faultRec_of_outline (State.releaseRequest_outline _ b)]
    rfl
  · rfl

theorem State.saveChargesAt_bays_faults :
    (s.saveChargesAt b).bays = s.bays ∧ (s.saveChargesAt b).faults = s.faults := by
  rw [State.saveChargesAt_eq]
  exact ⟨rfl, rfl⟩

@[simp] theorem State.quarantineFor_sansRecords (x : BayNo) (ks : List FaultKind) :
    (s.quarantineFor x ks).sansRecords = s.sansRecords := by
  unfold State.quarantineFor
  split
  · unfold State.quarantinePack
    split
    · split
      · unfold State.savePack
        split <;> rfl
      · rfl
    · rfl
  · rfl

/-- A record that names no registered pack in the bay has none to quarantine (R145). -/
theorem State.quarantineFor_of_no_tag {x : BayNo} {ks : List FaultKind}
    (h : (s.faultRec x).bind (·.quarantineTag) = none) : s.quarantineFor x ks = s := by
  unfold State.quarantineFor
  rw [h]

/-- The state of a latch after the session's end (R144, step 3). -/
def State.latching (s : State) (b : BayNo) (k : FaultKind) (ks : List FaultKind) (n : Option Nat) (c : Option ClassNo) :
    State :=
  ((s.setFault b (some (s.faultRecord b k ks n c))).saveChargesAt b).endSession b

variable {s b}

theorem State.latch_eq (hb : (s.bay b).state ≠ .release) (k : FaultKind) (ks : List FaultKind) (n : Option Nat)
    (c : Option ClassNo) (own : Bool) : s.latch b k ks n c own =
      (State.handUnless own ((((s.latching b k ks n c).quarantineFor b (k :: ks)).modBay b fun y =>
        { y with
          identity := .empty, outcome := .none, preIssue := none, coolExpiry := none }).moveTo b .fault)).relevel b := by
  simp only [State.latch, if_neg hb, State.latching]

theorem State.latching_faultRec (k : FaultKind) (ks : List FaultKind) (n : Option Nat) (c : Option ClassNo) :
    (s.latching b k ks n c).faultRec b = some (s.faultRecord b k ks n c) := by
  rw [State.latching, State.endSession_faultRec, State.faultRec, (State.saveChargesAt_bays_faults _ b).2]
  exact (State.setFault_faultRec s b b _).trans (if_pos rfl)

theorem State.latching_ledger (k : FaultKind) (ks : List FaultKind) (n : Option Nat) (c : Option ClassNo) :
    (s.latching b k ks n c).ledger = { s.ledger with inFlight := s.inFlight ++ s.chargeWrites b } := by
  rw [State.latching, State.endSession_ledger, State.saveChargesAt_eq]
  rfl

theorem State.latching_bay_outline (k : FaultKind) (ks : List FaultKind) (n : Option Nat) (c : Option ClassNo)
    (x : BayNo) :
    ((s.latching b k ks n c).bay x).outline =
      if x = b then ({ s.bay b with session := none } : Bay).outline else (s.bay x).outline := by
  have hbays : ((s.setFault b (some (s.faultRecord b k ks n c))).saveChargesAt b).bays = s.bays :=
    (State.saveChargesAt_bays_faults _ b).1
  have hbay : ∀ y, ((s.setFault b (some (s.faultRecord b k ks n c))).saveChargesAt b).bay y = s.bay y := fun y => by
    rw [State.bay, hbays, State.bay]
  rw [State.latching, State.endSession_bay_outline, hbay, hbay]

/-- A bay in which a fault latched (R144). -/
theorem State.latch_bay_outline (hb : (s.bay b).state ≠ .release) (k : FaultKind) (ks : List FaultKind) (n : Option Nat)
    (c : Option ClassNo) (own : Bool) : ((s.latch b k ks n c own).bay b).outline =
      ({ s.bay b with session := none, identity := .empty, outcome := .none, preIssue := none, coolExpiry := none,
                      state := .fault } : Bay).outline := by
  have hq := State.bay_of_sansRecords ((s.latching b k ks n c).quarantineFor_sansRecords b (k :: ks)) b
  have hl := (s.latching_bay_outline (b := b) k ks n c b).trans (if_pos rfl)
  rw [State.latch_eq hb, State.relevel_bay_outline, State.handUnless_bay_outline, State.moveTo_bay_outline, if_pos rfl,
    State.modBay_bay, if_pos rfl, hq]
  exact congrArg (fun y : Bay => { y with identity := .empty, outcome := .none, preIssue := none, coolExpiry := none,
                                          state := .fault }) hl

/-- The record of a latch (R143). -/
theorem State.latch_faultRec (hb : (s.bay b).state ≠ .release) (k : FaultKind) (ks : List FaultKind) (n : Option Nat)
    (c : Option ClassNo) (own : Bool) : (s.latch b k ks n c own).faultRec b = some (s.faultRecord b k ks n c) := by
  rw [State.latch_eq hb, State.faultRec_of_outline (State.relevel_outline _ b),
    State.faultRec_of_outline (State.handUnless_outline own _), State.moveTo,
    State.faultRec_of_outline (State.outline_congr (State.redrive_passOutline _ b)), State.modBay_faultRec,
    State.modBay_faultRec, State.faultRec_of_sansRecords (State.quarantineFor_sansRecords _ b _), State.latching_faultRec]

/-- A latch whose record has no pack to quarantine writes charges and records nothing else outside the bay. -/
theorem State.latch_ledger_of_no_tag (hb : (s.bay b).state ≠ .release) {k : FaultKind} {ks : List FaultKind}
    {n : Option Nat}
    {c : Option ClassNo} (hq : (s.faultRecord b k ks n c).quarantineTag = none) (own : Bool) :
    (s.latch b k ks n c own).ledger = { s.ledger with inFlight := s.inFlight ++ s.chargeWrites b } := by
  rw [State.latch_eq hb, State.relevel_ledger, State.handUnless_ledger, State.moveTo_ledger, State.modBay_ledger,
    State.quarantineFor_of_no_tag _ (by rw [State.latching_faultRec]; exact hq), State.latching_ledger]

/-- A bay that runs no identified pack has none to quarantine (R143, R145). -/
theorem State.no_tag_of_empty (h : (s.bay b).identity = .empty) (k : FaultKind) (ks : List FaultKind) (n : Option Nat)
    (c : Option ClassNo) : (s.faultRecord b k ks n c).quarantineTag = none := by
  have hp : ∀ g, (s.bay b).packAtLatch ≠ .registered g := fun g => by
    unfold Bay.packAtLatch
    rw [h]
    simp only
    split
    · simp
    · split <;> simp
  unfold FaultRec.quarantineTag
  split
  · next g hg => exact absurd hg (hp g)
  · rfl

end

end Sys2Proof.Machine
end

section
/-! SUPPORT. Identification at a bay in IDENTIFY that runs no pack (R12 to R16, R31): the fault tests, the verdict, and
what the
register and the bay do on each verdict. -/

namespace Sys2Proof.Machine

/-! ## The report at the bay -/

/-- A bay in IDENTIFY that runs no pack, with the report taken in it. -/
structure State.Identifying (v : State) (b : BayNo) (rep : Report) : Prop where
  state : (v.bay b).state = .identify
  identity : (v.bay b).identity = .empty
  session : (v.bay b).session = none
  latest : (v.bay b).latest.map (·.report) = some rep
  shown : rep.present = true

section
variable {v : State} {b : BayNo} {rep : Report}

theorem State.Identifying.not_release (h : v.Identifying b rep) : (v.bay b).state ≠ .release := by simp [h.state]

/-- A tag that may name a pack is shown by the fault record; another is not (R143). -/
theorem State.Identifying.packAtLatch (h : v.Identifying b rep) :
    (v.bay b).packAtLatch = .unidentified (if validTag rep.tag then some rep.tag else none) := by
  have hl := h.latest
  unfold Bay.packAtLatch
  rw [h.identity]
  simp only
  cases hx : (v.bay b).latest with
  | none => simp [hx] at hl
  | some l =>
    rw [hx, Option.map_some, Option.some.injEq] at hl
    simp only [hl, h.shown, if_true]

/-- A failed identification (R13, R15, R16, R143). -/
theorem State.Identifying.notIdentified (h : v.Identifying b rep) (k : FaultKind) (c : Option ClassNo) (own : Bool) :
    (v.latch b k [] none c own).handAllReady.NotIdentified b k c (if validTag rep.tag then some rep.tag else none) ∧
      (v.latch b k [] none c own).handAllReady.register = v.register := by
  have hbay := (State.handAllReady_bay_outline _ b).trans (State.latch_bay_outline h.not_release k [] none c own)
  have hrec := (State.faultRec_of_outline (State.handAllReady_outline _) b).trans
    (State.latch_faultRec h.not_release k [] none c own)
  have hnow := (State.now_of_away (State.handAllReady_away _ b)).trans
    (State.now_of_away (v.latch_away b k [] none c own))
  have hledger := (State.handAllReady_ledger _).trans
    (State.latch_ledger_of_no_tag h.not_release (State.no_tag_of_empty h.identity k [] none c) own)
  generalize (v.latch b k [] none c own).handAllReady = t at hbay hrec hnow hledger
  refine ⟨⟨(congrArg Bay.state hbay :), (congrArg Bay.session hbay :), (congrArg Bay.identity hbay :), _, hrec, rfl, rfl,
    ?_, h.packAtLatch, ?_, ?_, hnow.symm⟩, (congrArg Ledger.register hledger :)⟩
  · simp [State.faultRecord, h.identity]
  · simp [State.faultRecord, h.packAtLatch]
  · simp [State.faultRecord, h.session]

/-! ## The fault tests -/

/-- A calm report that a class bears passes the tests (R141). -/
theorem faultKinds_eq_nil {cr : Option ClassRec} {rep : Report} {on : Bool} (hc : ∀ r, cr = some r → r.Bears rep)
    (ha : rep.alarm = false) (hi : rep.latchEngaged = true ∨ on = false) : faultKinds cr rep on = [] := by
  have htests : ((cr.map fun c => overtempAt c rep).getD false) = false ∧
      ((cr.map fun c => overvoltAt c rep).getD false) = false := by
    cases cr with
    | none => exact ⟨rfl, rfl⟩
    | some r =>
      obtain ⟨ht, hv⟩ := hc r rfl
      simp [overtempAt, overvoltAt, ht, hv]
  have hlock : interlockAt rep on = false := by
    rcases hi with h | h <;> simp [interlockAt, h]
  simp [faultKinds, htests, ha, hlock, kindIf]

/-- Without a fault the state work of IDENTIFY is done. -/
theorem State.Identifying.testsAndWork (h : v.Identifying b rep)
    (hc : ∀ r, ((if v.presented b rep then (v.verdict b rep).cls? else none).bind v.classRec) = some r → r.Bears rep)
    (ha : rep.alarm = false) {answered : Bool} (hi : rep.latchEngaged = true ∨ answered = false) (prev : Nat)
        (on : Bool) :
    v.testsAndWork b rep prev on answered = v.identify b rep := by
  have hk : v.kindsFound b rep answered = [] := by
    rw [State.kindsFound, State.testClass, h.state]
    exact faultKinds_eq_nil hc ha hi
  simp only [State.testsAndWork, hk, h.state, State.stateWork]
  simp

/-! ## The register's part -/

theorem State.partDocked_ledger (u : State) (m g : Nat) :
    (u.partDocked m g).ledger = { u.ledger with issues := withoutDocked m g u.disp.issues } := by
  have hd : ∀ l : List Issue, ((l.map fun i => if i.machine = m then i.without (Part.leavesAtDocking g) else i).filter
      fun i => !i.complete) = withoutDocked m g l := fun l => by
    have hmap : (fun i : Issue => if i.machine = m then i.without (Part.leavesAtDocking g) else i) = fun i =>
        if i.machine = m then { i with parts := i.parts.filter fun p => decide (¬ (p.pack = some g ∧ p.state ≠ .done)) }
        else i := by
      funext i
      simp [Issue.without, Part.leavesAtDocking]
    rw [withoutDocked, hmap]
    rfl
  rw [State.partDocked_eq, ← hd]
  rfl

/-- The issue list after the pack of a record is docked (R14, step 1). -/
def PackRec.dockedIssues (r : PackRec) (l : List Issue) : List Issue :=
  match r.mark with
  | some m => withoutDocked m r.tag l
  | none => l

/-- A known tag is accepted: the record's changes and the part's end, and nothing at the bays (R9, R14). -/
theorem State.acceptKnown_eq {u : State} {g : Nat} {r : PackRec} (hr : u.pack g = some r) (b : BayNo) :
    u.acceptKnown b g = ((u.setIssues (r.dockedIssues u.disp.issues)).modPack g fun q =>
      q.docked b ((u.classRec q.cls).map (·.chemistry))).write
          (.pack (r.docked b ((u.classRec r.cls).map (·.chemistry)))) := by
  obtain ⟨-, htag⟩ := mem_of_findPack hr
  have hmark : (match r.mark with
      | some m => u.partDocked m g
      | none => u) = u.setIssues (r.dockedIssues u.disp.issues) := by
    unfold PackRec.dockedIssues
    cases r.mark with
    | none => rfl
    | some m => exact congrArg u.setIssues ((congrArg Ledger.issues (u.partDocked_ledger m g) :).trans (by rw [htag]))
  have hall : u.acceptKnown b g = ((u.setIssues (r.dockedIssues u.disp.issues)).modPack g fun q =>
      q.docked b ((u.classRec q.cls).map (·.chemistry))).savePack g := by
    rw [← hmark]
    simp only [State.acceptKnown, hr] <;> rfl
  rw [hall]
  exact State.modPack_savePack (s := u.setIssues (r.dockedIssues u.disp.issues)) hr
    (f := fun q => q.docked b ((u.classRec q.cls).map (·.chemistry))) fun _ => rfl

/-! ## The bay's part -/

/-- A hot pack is cooled (R33). -/
theorem State.goOn_of_hot {u : State} {cr : ClassRec} (hc : u.classAt b = some cr) {tm : Int} (h : cr.startLimit < tm) :
    u.goOn b tm = u.toCooling b cr.coolTimeout := by
  simp [State.goOn, hc, h]

/-- A cool pack's session starts (R31). -/
theorem State.goOn_of_cool {u : State} {cr : ClassRec} (hc : u.classAt b = some cr) {tm : Int} (h : tm ≤ cr.startLimit) :
    u.goOn b tm = u.startSession b (u.knownAt b) false false := by
  simp [State.goOn, hc, not_lt.2 h, State.startByCharge]

/-- What going on from a verdict records outside the bay: charges at most. -/
theorem State.goOn_ledger {u : State} (hb : (u.bay b).state ≠ .release) (tm : Int) :
    ∃ ws, (u.goOn b tm).ledger = { u.ledger with inFlight := u.inFlight ++ ws } := by
  have same : ∃ ws, u.ledger = { u.ledger with inFlight := u.inFlight ++ ws } := ⟨[], by simp [State.ledger]⟩
  unfold State.goOn
  split
  · exact same
  · split
    · rw [State.toCooling_ledger]
      exact same
    · rcases u.startSession_ledger b hb (u.knownAt b) false false with h | h
      · rw [State.startByCharge, h]
        exact same
      · exact ⟨_, h⟩

/-- The class record of a defined class with a valid profile lets a session start (R142). -/
theorem State.startClass_of {u : State} {cr : ClassRec} (hc : u.classAt b = some cr)
    (hv : (u.profile cr.profile).valid = true) : u.startClass b = some cr := by
  simp [State.startClass, hc, hv]

/-- A bay whose session starts without a known charge (R35). -/
def Bay.assessing (y : Bay) (p : ProfileNo) (warm : Bool) : Bay :=
  { y with session := some (Session.fresh p warm .none), outcome := .none, coolExpiry := none, preIssue := none
           state := .assess }

theorem State.openSession_bay (u : State) (x : BayNo) (p : ProfileNo) (w : Bool) (e : Ending) :
    (u.openSession b p w e).bay x = if x = b then { u.bay b with
      session := some (Session.fresh p w e), outcome := .none, coolExpiry := none, preIssue := none } else u.bay x := by
  rw [State.openSession, State.modGrant_bay, State.modBay_bay]

theorem State.startSession_assess {u : State} {cr : ClassRec} (hc : u.startClass b = some cr) (warm own : Bool) :
    ((u.startSession b false warm own).bay b).outline = ((u.bay b).assessing cr.profile warm).outline ∧
      ((u.startSession b false warm own).grant b).request = (u.grant b).request ∧
      (u.startSession b false warm own).ledger = u.ledger := by
  simp only [State.startSession, hc, Bool.false_eq_true, if_false]
  refine ⟨?_, ?_, by simp⟩
  · rw [State.moveTo_bay_outline, if_pos rfl, State.openSession_bay, if_pos rfl]
    rfl
  · rw [State.grant, State.moveTo, State.redrive_alloc, State.modBay_alloc]
    change ((u.openSession b cr.profile warm .none).grant b).request = _
    rw [State.openSession, State.modGrant_grant, if_pos rfl]
    rfl

theorem State.startSession_charge {u : State} {cr : ClassRec} (hc : u.startClass b = some cr) (warm own : Bool) :
    ((u.startSession b true warm own).bay b).state = .charge ∧
      ((u.startSession b true warm own).bay b).identity = (u.bay b).identity := by
  have h : ((u.startSession b true warm own).bay b).outline =
      ({ ((u.openSession b cr.profile warm .none).enterStage b 0 true).bay b with state := .charge } : Bay).outline := by
    simp only [State.startSession, hc, if_true]
    rw [State.relevel_bay_outline, State.releaseAtRest_bay_outline, State.moveTo_bay_outline, if_pos rfl]
  refine ⟨(congrArg Bay.state h :), (congrArg Bay.identity h).trans ?_⟩
  simp [State.enterStage, State.modSession, State.modBay_bay, State.openSession_identity]

theorem State.toCooling_bay_outline (u : State) (n : Nat) : ((u.toCooling b n).bay b).outline =
    ({ u.bay b with
        coolEntry := some u.now
        coolExpiry := if n = 0 then none else some (u.now + n * Config.minute)
        state := .cooling } : Bay).outline := by
  rw [State.toCooling, State.moveTo_bay_outline, if_pos rfl, State.modBay_bay, if_pos rfl]

end

end Sys2Proof.Machine
end

section
/-! SUPPORT. A docking (R30, R31): the bay in IDENTIFY with its report, and the verdict's grounds as they were before
the event. -/

namespace Sys2Proof.Machine

section
variable {w : State} {b : BayNo} {rep : Report}

/-- The attempts that a bay has behind it when a pack is shown: none at a docking (R30, R31). -/
def Bay.tries (y : Bay) : Nat := if y.state = .vacant then 0 else y.attempts

/-- A bay that runs no pack and is in VACANT or IDENTIFY, once its report shows one (R30). -/
def Bay.docking (y : Bay) (now : Nat) : Bay :=
  if y.state = .vacant then { y.emptied with dockTime := some now, state := .identify }
  else { y with dockTime := some (y.dockTime.getD now) }

theorem State.dock_bay_outline (w : State) (b : BayNo) : ((w.dock b).bay b).outline =
    ({ (w.bay b).emptied with dockTime := some w.now, state := .identify } : Bay).outline := by
  rw [State.dock, State.moveTo_bay_outline, if_pos rfl, State.modBay_bay, if_pos rfl]

/-- A pack shown in VACANT or IDENTIFY changes its bay alone (R30). -/
theorem State.presentAt_eq (h : (w.bay b).state = .vacant ∨ (w.bay b).state = .identify) :
    ((w.presentAt b).bay b).outline = ((w.bay b).docking w.now).outline ∧ (w.presentAt b).ledger = w.ledger ∧
      (w.presentAt b).alloc = w.alloc ∧ (w.presentAt b).faultRec b = w.faultRec b ∧
          (w.presentAt b).away b = w.away b := by
  rcases h with h | h <;> simp only [State.presentAt, h]
  · refine ⟨?_, w.dock_ledger b, ?_, ?_, w.dock_away b⟩
    · rw [State.dock_bay_outline, Bay.docking, if_pos h]
    · rw [State.dock, State.moveTo, State.redrive_alloc, State.modBay_alloc, State.modBay_alloc]
    · rw [State.dock, State.moveTo, State.faultRec_of_outline (State.outline_congr (State.redrive_passOutline _ b))]
      rfl
  · refine ⟨?_, w.stampDock_ledger b, rfl, rfl, w.stampDock_away b⟩
    rw [State.stampDock, State.modBay_bay, if_pos rfl, Bay.docking, if_neg (by simp [h])]

theorem Bay.docking_shows {y : Bay} (h : y.state = .vacant ∨ y.state = .identify ∧ y.identity = .empty) (now : Nat) :
    (y.docking now).state = .identify ∧ (y.docking now).identity = .empty ∧ (y.docking now).session = y.session ∧
      (y.docking now).latest = y.latest ∧ (y.docking now).attempts = y.tries ∧ (y.docking now).reconcile = y.reconcile ∧
      (y.docking now).cfg = y.cfg := by
  unfold Bay.docking Bay.tries
  split
  · exact ⟨rfl, rfl, rfl, rfl, rfl, rfl, rfl⟩
  · next hv =>
    obtain ⟨hs, hi⟩ := h.resolve_left hv
    exact ⟨hs, hi, rfl, rfl, rfl, rfl, rfl⟩

/-- A bay whose report shows a pack identifies it (R31). -/
theorem State.presentAt_identifying (h : (w.bay b).state = .vacant ∨ (w.bay b).state = .identify ∧
    (w.bay b).identity = .empty)
    (hs : (w.bay b).session = none) (hl : (w.bay b).latest.map (·.report) = some rep) (hp : rep.present = true) :
    (w.presentAt b).Identifying b rep := by
  obtain ⟨hbay, -⟩ := State.presentAt_eq (w := w) (b := b) (h.imp_right And.left)
  obtain ⟨hst, hid, hse, hla, -⟩ := Bay.docking_shows h w.now
  exact ⟨(congrArg Bay.state hbay).trans hst, (congrArg Bay.identity hbay).trans hid,
    (congrArg Bay.session hbay).trans (hse.trans hs),
    (congrArg (fun y : Bay => y.latest.map (·.report)) hbay).trans ((congrArg (·.map (·.report)) hla).trans hl), hp⟩

end

/-! ## The verdict's grounds -/

section
variable {s v : State} {b : BayNo}

/-- The verdict reads the register, the bay's configuration and the other bays. -/
theorem State.verdict_congr (hr : v.register = s.register) (hc : (v.bay b).cfg = (s.bay b).cfg)
    (ho : ∀ x, x ≠ b → (v.bay x).outline = (s.bay x).outline) (rep : Report) : v.verdict b rep = s.verdict b rep := by
  have hpack : v.pack rep.tag = s.pack rep.tag := by rw [State.pack, hr, State.pack]
  have hclass : v.classRec = s.classRec := by
    funext c
    rw [State.classRec, hr, State.classRec]
  have hfull : v.registerFull = s.registerFull := by rw [State.registerFull, hr, State.registerFull]
  have hdup : ∀ r, v.duplicateIn b r = s.duplicateIn b r := fun r => by
    unfold State.duplicateIn
    split
    · next b' _ =>
      by_cases hb : b' = b
      · simp [hb]
      · have hs : (v.bay b').state = (s.bay b').state := Bay.state_of_outline (ho b' hb)
        have ht : (v.bay b').showsTag r.tag = (s.bay b').showsTag r.tag :=
          (congrArg (fun y : Bay => y.showsTag r.tag) (ho b' hb) :)
        rw [hs, ht]
    · rfl
  simp only [State.verdict, State.knownVerdict, State.unknownVerdict, State.anonymousVerdict, hpack, hclass, hfull, hdup,
      hc]

end

/-! ## A bay of the running part that shows a pack -/

/-- A bay in VACANT or IDENTIFY that runs no pack, with nothing to reconcile, and a report that shows a pack in it. -/
structure State.Docks (s : State) (b : BayNo) (rep : Report) : Prop where
  state : (s.bay b).state = .vacant ∨ (s.bay b).state = .identify ∧ (s.bay b).identity = .empty
  session : (s.bay b).session = none
  reconcile : (s.bay b).reconcile = .no
  shown : rep.present = true

section
variable {s : State} {b : BayNo} {rep : Report}

theorem State.Docks.not_masked (h : s.Docks b rep) : (s.bay b).state ≠ .masked := by
  rcases h.state with hs | ⟨hs, -⟩ <;> simp [hs]

theorem State.Docks.seen_eq (h : s.Docks b rep) : s.seen b rep = (s.reported b rep).presentAt b :=
  State.seen_present h.reconcile h.shown

theorem State.Docks.reported (h : s.Docks b rep) : ((s.reported b rep).bay b).state = .vacant ∨
    ((s.reported b rep).bay b).state = .identify ∧ ((s.reported b rep).bay b).identity = .empty := by
  rw [State.reported_state, State.reported_identity]
  exact h.state

theorem State.reported_latest (s : State) (b : BayNo) (rep : Report) :
    ((s.reported b rep).bay b).latest.map (·.report) = some rep := by
  have h := s.reported_outline_self b rep
  exact (congrArg (fun y : Bay => y.latest.map (·.report)) h :)

theorem State.Docks.identifying (h : s.Docks b rep) : (s.seen b rep).Identifying b rep := by
  rw [h.seen_eq]
  exact State.presentAt_identifying h.reported ((s.reported_session b rep).trans h.session)
      (s.reported_latest b rep) h.shown

theorem State.Docks.seen_ledger (h : s.Docks b rep) : (s.seen b rep).ledger = s.settle.ledger := by
  rw [h.seen_eq, (State.presentAt_eq (h.reported.imp_right And.left)).2.1, State.reported_ledger]

theorem State.Docks.seen_register (h : s.Docks b rep) : (s.seen b rep).register = s.register :=
  State.register_of_ledger (s := s.settle) h.seen_ledger

theorem State.Docks.seen_pack (h : s.Docks b rep) (g : Nat) : (s.seen b rep).pack g = s.pack g := by
  rw [State.pack, h.seen_register, State.pack]

theorem State.Docks.seen_classRec (h : s.Docks b rep) (c : ClassNo) : (s.seen b rep).classRec c = s.classRec c := by
  rw [State.classRec, h.seen_register, State.classRec]

theorem State.Docks.seen_away (h : s.Docks b rep) : (s.seen b rep).away b = (s.reported b rep).away b := by
  rw [h.seen_eq]
  exact (State.presentAt_eq (h.reported.imp_right And.left)).2.2.2.2

theorem State.Docks.seen_now (h : s.Docks b rep) : (s.seen b rep).now = s.now :=
  (State.now_of_away h.seen_away).trans (s.reported_now b rep)

theorem State.Docks.seen_profile (h : s.Docks b rep) (p : ProfileNo) : (s.seen b rep).profile p = s.profile p := by
  have hp : (s.seen b rep).profiles = s.profiles := (State.profiles_of_away h.seen_away).trans (s.credited_profiles b)
  rw [State.profile, hp, State.profile]

theorem State.Docks.seen_request (h : s.Docks b rep) : ((s.seen b rep).grant b).request = (s.grant b).request := by
  rw [State.grant, h.seen_eq, (State.presentAt_eq (h.reported.imp_right And.left)).2.2.1]
  exact s.reported_request b rep b

theorem State.Docks.seen_faultRec (h : s.Docks b rep) : (s.seen b rep).faultRec b = s.faultRec b := by
  rw [h.seen_eq, (State.presentAt_eq (h.reported.imp_right And.left)).2.2.2.1, State.reported_faultRec]

/-- The bay as it identifies: what the report and a docking set. -/
theorem State.Docks.seen_bay (h : s.Docks b rep) : ((s.seen b rep).bay b).outline =
    (({ s.bay b with latest := some ⟨rep, s.now⟩ } : Bay).docking s.now).outline := by
  rw [h.seen_eq, (State.presentAt_eq (h.reported.imp_right And.left)).1, State.reported_now]
  have hd : ∀ y : Bay, (y.docking s.now).outline = (y.outline.docking s.now).outline := fun y => by
    unfold Bay.docking
    rw [Bay.outline_state]
    split <;> rfl
  rw [hd, State.reported_outline_self, ← hd]

theorem State.Docks.seen_attempts (h : s.Docks b rep) : ((s.seen b rep).bay b).attempts = (s.bay b).tries := by
  obtain ⟨-, -, -, -, ha, -⟩ := Bay.docking_shows (y := { s.bay b with latest := some ⟨rep, s.now⟩ }) h.state s.now
  exact (congrArg Bay.attempts h.seen_bay).trans ha

theorem State.Docks.seen_cfg (h : s.Docks b rep) : ((s.seen b rep).bay b).cfg = (s.bay b).cfg := by
  obtain ⟨-, -, -, -, -, -, hc⟩ := Bay.docking_shows (y := { s.bay b with latest := some ⟨rep, s.now⟩ }) h.state s.now
  exact (congrArg Bay.cfg h.seen_bay).trans hc

theorem State.Docks.seen_verdict (h : s.Docks b rep) : (s.seen b rep).verdict b rep = s.verdict b rep := by
  refine State.verdict_congr h.seen_register h.seen_cfg (fun x hx => ?_) rep
  rw [State.bay_of_away h.seen_away hx, State.reported_bay_outline, if_neg hx]

/-- Whether the report is presented (R12, R31). -/
theorem State.Docks.seen_presented (h : s.Docks b rep) :
    (s.seen b rep).presented b rep = (validTag rep.tag || decide (2 ≤ (s.bay b).tries)) := by
  rw [State.presented, h.seen_attempts]

/-- A calm docking whose class bears the report: what the bay does is to identify the pack. -/
theorem State.Docks.delivered (h : s.Docks b rep)
    (hc : ∀ r, ((if (validTag rep.tag || decide (2 ≤ (s.bay b).tries)) = true then (s.verdict b rep).cls? else none).bind
      s.classRec) = some r → r.Bears rep) (hcalm : s.Calm b rep) :
    s.delivered b rep = ((s.seen b rep).identify b rep).handAllReady := by
  obtain ⟨prev, hd⟩ := State.delivered_eq (rep := rep) h.not_masked
  have hv := h.identifying
  have hclass : (s.seen b rep).classRec = s.classRec := funext h.seen_classRec
  rw [hd, if_neg (by simp [hv.state]), hv.testsAndWork ?_ hcalm.1 hcalm.2]
  rw [h.seen_presented, h.seen_verdict, hclass]
  exact hc

end

end Sys2Proof.Machine
end

section
/-! SUPPORT. The verdicts of an identification, one by one (R13 to R16, R31), with the statement about a docking. -/

namespace Sys2Proof.Machine

section
variable {s : State} {b : BayNo} {rep : Report}

/-! ## Verdicts -/

/-- The state in which the verdict on a tag is acted on: REGFULL is raised where the register is full (R15). -/
def State.judged (s : State) (b : BayNo) (rep : Report) : State :=
  if (s.seen b rep).meetsFull rep then (s.seen b rep).raise .regfull else s.seen b rep

theorem State.judged_cases (s : State) (b : BayNo) (rep : Report) :
    s.judged b rep = s.seen b rep ∨ s.judged b rep = (s.seen b rep).raise .regfull := by
  unfold State.judged
  split
  · exact .inr rfl
  · exact .inl rfl

theorem State.Docks.judged (h : s.Docks b rep) : (s.judged b rep).Identifying b rep := by
  obtain ⟨h1, h2, h3, h4, h5⟩ := h.identifying
  rcases s.judged_cases b rep with hj | hj <;> rw [hj] <;> exact ⟨h1, h2, h3, h4, h5⟩

/-- What REGFULL leaves alone is all but the edge-type flags. -/
theorem State.judged_kept (s : State) (b : BayNo) (rep : Report) :
    (s.judged b rep).register = (s.seen b rep).register ∧ (s.judged b rep).inFlight = (s.seen b rep).inFlight ∧
      (s.judged b rep).bays = (s.seen b rep).bays ∧ (s.judged b rep).alloc = (s.seen b rep).alloc ∧
      (s.judged b rep).disp = (s.seen b rep).disp ∧ (s.judged b rep).now = (s.seen b rep).now ∧
      (s.judged b rep).profiles = (s.seen b rep).profiles := by
  rcases s.judged_cases b rep with hj | hj <;> rw [hj] <;> simp

/-- A valid tag is identified (R12 to R15). -/
theorem State.Docks.delivered_of_valid (h : s.Docks b rep) (ht : validTag rep.tag = true)
    (hc : ∀ r, ((s.verdict b rep).cls?.bind s.classRec) = some r → r.Bears rep) (hcalm : s.Calm b rep) :
    s.delivered b rep = ((s.judged b rep).actOnVerdict b rep.tm (s.verdict b rep)).handAllReady := by
  rw [h.delivered (by simpa [ht] using hc) hcalm, State.identify, if_pos ht, h.seen_verdict]
  rfl

/-- A tag that the register refuses latches MISMATCH (R13, R15). -/
theorem State.Docks.mismatch (h : s.Docks b rep) (ht : validTag rep.tag = true) (hcalm : s.Calm b rep)
    (hv : s.verdict b rep = .mismatch) : (s.delivered b rep).NotIdentified b .mismatch none (some rep.tag) ∧
      (s.delivered b rep).register = s.register := by
  have hn := h.judged.notIdentified .mismatch none false
  rw [if_pos ht, (s.judged_kept b rep).1, h.seen_register] at hn
  rw [h.delivered_of_valid ht (by simp [hv, Verdict.cls?]) hcalm, hv]
  exact hn

theorem State.Docks.duplicate (h : s.Docks b rep) (ht : validTag rep.tag = true) (hcalm : s.Calm b rep) {c : ClassNo}
    {cr : ClassRec} (hv : s.verdict b rep = .duplicate c) (hc : s.classRec c = some cr) (hb : cr.Bears rep) :
    (s.delivered b rep).NotIdentified b .duplicate (some c) (some rep.tag) ∧
      (s.delivered b rep).register = s.register := by
  have hn := h.judged.notIdentified .duplicate (some c) false
  rw [if_pos ht, (s.judged_kept b rep).1, h.seen_register] at hn
  rw [h.delivered_of_valid ht (fun r hr => by
    rw [hv] at hr
    exact Option.some.inj (hc.symm.trans hr) ▸ hb) hcalm, hv]
  exact hn

/-! ## The verdict on a tag -/

theorem Report.cls?_of {c : ClassNo} (h : rep.classCode = c.val) : rep.cls? = some c := by
  rw [Report.cls?, h, index?_val]

theorem Report.cls?_eq_some_iff {c : ClassNo} : rep.cls? = some c ↔ rep.classCode = c.val := by
  refine ⟨fun h => ?_, Report.cls?_of⟩
  unfold Report.cls? index? at h
  split at h
  · cases h; rfl
  · cases h

theorem State.verdict_known (ht : validTag rep.tag = true) {r : PackRec} (hr : s.pack rep.tag = some r) :
    s.verdict b rep = s.knownVerdict b rep r := by
  simp [State.verdict, ht, hr]

theorem State.verdict_unknown (ht : validTag rep.tag = true) (hr : s.pack rep.tag = none) :
    s.verdict b rep = s.unknownVerdict b rep := by
  simp [State.verdict, ht, hr]

/-- A known tag of its own class that shows in no other bay (R14). -/
theorem State.verdict_accepted (ht : validTag rep.tag = true) {r : PackRec} (hr : s.pack rep.tag = some r)
    (hc : rep.classCode = r.cls.val) (hd : s.duplicateIn b r = false) :
    s.verdict b rep = if r.standing = .serviceable then .accepted rep.tag r.cls true else .quarantined rep.tag r.cls := by
  rw [State.verdict_known ht hr, State.knownVerdict, Report.cls?_of hc, if_neg (by simp), hd, (mem_of_findPack hr).2]
  rfl

/-! ## A known tag accepted -/

/-- The return count, equalize count and known charge of an accepted pack, as the statement says them. -/
theorem PackRec.docked_eq_accepted (r : PackRec) (b : BayNo) (ch : Chemistry) :
    r.docked b (some ch) = r.accepted b (ch = .flooded) := by
  unfold PackRec.docked PackRec.accepted equalizeAfterReturn
  cases hp : r.place with
  | unaccounted => simp
  | machine m => cases hm : r.mark <;> simp
  | bay b' => by_cases hb : b' = b <;> simp [hb]

/-- The bay's pack accepted: the register's and the dispatcher's part, and the bay's identity. -/
def State.acceptedAt (u : State) (b : BayNo) (g : Nat) : State := (u.acceptKnown b g).setIdentity b (.registered g)

section
variable {u : State} {g : Nat} {r : PackRec} {cr : ClassRec}

theorem State.acceptedAt_eq (hr : u.pack g = some r) (hc : u.classRec r.cls = some cr) :
    u.acceptedAt b g = (((u.setIssues (r.dockedIssues u.disp.issues)).modPack g fun q =>
      q.docked b ((u.classRec q.cls).map (·.chemistry))).write
          (.pack (r.accepted b (cr.chemistry = .flooded)))).setIdentity b
        (.registered g) := by
  rw [State.acceptedAt, State.acceptKnown_eq hr, hc, Option.map_some, PackRec.docked_eq_accepted]

theorem State.acceptedAt_pack (hr : u.pack g = some r) (hc : u.classRec r.cls = some cr) (x : Nat) :
    (u.acceptedAt b g).pack x = if x = g then some (r.accepted b (cr.chemistry = .flooded)) else u.pack x := by
  have h := u.modPack_pack g x (f := fun q => q.docked b ((u.classRec q.cls).map (·.chemistry))) fun _ => rfl
  rw [State.acceptedAt_eq hr hc]
  refine h.trans ?_
  split
  · next hx => rw [hx, hr, Option.map_some, hc, Option.map_some, PackRec.docked_eq_accepted]
  · rfl

theorem State.acceptedAt_bay (hr : u.pack g = some r) (hc : u.classRec r.cls = some cr) :
    (u.acceptedAt b g).bay b = { u.bay b with identity := .registered g } := by
  rw [State.acceptedAt_eq hr hc, State.setIdentity, State.modBay_bay, if_pos rfl]
  rfl

theorem State.acceptedAt_kept (hr : u.pack g = some r) (hc : u.classRec r.cls = some cr) :
    (u.acceptedAt b g).register.classes = u.register.classes ∧
        (u.acceptedAt b g).register.rotation = u.register.rotation ∧
      (u.acceptedAt b g).disp.issues = r.dockedIssues u.disp.issues ∧
      (u.acceptedAt b g).inFlight = u.inFlight ++ [.pack (r.accepted b (cr.chemistry = .flooded))] ∧
      (u.acceptedAt b g).alloc = u.alloc ∧ (u.acceptedAt b g).now = u.now ∧ (u.acceptedAt b g).profiles = u.profiles := by
  rw [State.acceptedAt_eq hr hc]
  exact ⟨rfl, rfl, rfl, rfl, rfl, rfl, rfl⟩

/-- The class in use and the known charge of the accepted pack. -/
theorem State.acceptedAt_class (hr : u.pack g = some r) (hc : u.classRec r.cls = some cr) :
    (u.acceptedAt b g).classAt b = some cr ∧
      (u.acceptedAt b g).knownAt b = (r.accepted b (cr.chemistry = .flooded)).known := by
  have hp := (State.acceptedAt_pack (b := b) hr hc g).trans (if_pos rfl)
  have hi : ((u.acceptedAt b g).bay b).identity = .registered g := by rw [State.acceptedAt_bay hr hc]
  have hcls : (r.accepted b (cr.chemistry = .flooded)).cls = r.cls := by
    rw [← PackRec.docked_eq_accepted]
    rfl
  have hclasses : (u.acceptedAt b g).classRec r.cls = u.classRec r.cls := by
    rw [State.classRec, (State.acceptedAt_kept hr hc).1, State.classRec]
  refine ⟨?_, ?_⟩
  · simp only [State.classAt, State.classInUse, hi, hp, Option.map_some, Option.bind_some, hcls, hclasses, hc]
  · simp only [State.knownAt, hi, hp, Option.map_some, Option.getD_some]

end

/-! ## The bay after an accepted tag -/

section
variable {r : PackRec} {cr : ClassRec}

theorem State.Docks.judged_pack (h : s.Docks b rep) (g : Nat) : (s.judged b rep).pack g = s.pack g := by
  rw [State.pack, (s.judged_kept b rep).1, h.seen_register, State.pack]

theorem State.Docks.judged_classRec (h : s.Docks b rep) (c : ClassNo) : (s.judged b rep).classRec c = s.classRec c := by
  rw [State.classRec, (s.judged_kept b rep).1, h.seen_register, State.classRec]

theorem State.Docks.judged_bay (h : s.Docks b rep) : ((s.judged b rep).bay b).outline =
    (({ s.bay b with latest := some ⟨rep, s.now⟩ } : Bay).docking s.now).outline := by
  rw [State.bay, (s.judged_kept b rep).2.2.1]
  exact h.seen_bay

/-- What an accepted tag leaves of the register, the issue list and the writes (R14). -/
theorem State.accepted_records (h : s.Docks b rep) (hr : s.pack rep.tag = some r) (hc : s.classRec r.cls = some cr)
    {t : State} (ht : ∃ ws, t.ledger = { ((s.judged b rep).acceptedAt b rep.tag).ledger with
      inFlight := ((s.judged b rep).acceptedAt b rep.tag).inFlight ++ ws }) :
    t.pack rep.tag = some (r.accepted b (cr.chemistry = .flooded)) ∧ (∀ g, g ≠ rep.tag → t.pack g = s.pack g) ∧
      t.register.rotation = s.register.rotation ∧ .pack (r.accepted b (cr.chemistry = .flooded)) ∈ t.inFlight ∧
      t.disp.issues = r.dockedIssues s.disp.issues := by
  obtain ⟨ws, hl⟩ := ht
  have hr' := (h.judged_pack rep.tag).trans hr
  have hc' := (h.judged_classRec r.cls).trans hc
  have hpack : ∀ g, t.pack g = ((s.judged b rep).acceptedAt b rep.tag).pack g := fun g =>
    congrArg (Ledger.pack · g) hl
  obtain ⟨-, hrot, hissues, hfl, -⟩ := State.acceptedAt_kept (b := b) hr' hc'
  refine ⟨?_, fun g hg => ?_, ?_, ?_, ?_⟩
  · rw [hpack, State.acceptedAt_pack hr' hc', if_pos rfl]
  · rw [hpack, State.acceptedAt_pack hr' hc', if_neg hg, h.judged_pack]
  · refine (congrArg (fun l => l.register.rotation) hl).trans (hrot.trans ?_)
    rw [(s.judged_kept b rep).1, h.seen_register]
  · rw [show t.inFlight = _ from congrArg Ledger.inFlight hl, hfl]
    simp
  · refine (congrArg Ledger.issues hl).trans (hissues.trans ?_)
    rw [(s.judged_kept b rep).2.2.2.2.1]
    exact congrArg r.dockedIssues (State.issues_of_ledger (s := s.settle) h.seen_ledger)

/-- The fault tests pass under the class of an accepted or quarantined tag. -/
theorem State.accepted_bears (ht : validTag rep.tag = true) (hr : s.pack rep.tag = some r)
    (hcode : rep.classCode = r.cls.val) (hc : s.classRec r.cls = some cr) (hb : cr.Bears rep)
    (hd : s.duplicateIn b r = false) : ∀ x, ((s.verdict b rep).cls?.bind s.classRec) = some x → x.Bears rep := by
  intro x hx
  have hcls : (s.verdict b rep).cls? = some r.cls := by
    rw [State.verdict_accepted ht hr hcode hd]
    split <;> rfl
  rw [hcls, Option.bind_some, hc, Option.some.injEq] at hx
  exact hx ▸ hb

/-- A QUARANTINED pack is held in STANDBY (R31). -/
theorem State.Docks.quarantined (h : s.Docks b rep) (ht : validTag rep.tag = true) (hcalm : s.Calm b rep)
    (hr : s.pack rep.tag = some r) (hcode : rep.classCode = r.cls.val) (hc : s.classRec r.cls = some cr)
    (hb : cr.Bears rep) (hd : s.duplicateIn b r = false) (hs : r.standing ≠ .serviceable) :
    s.delivered b rep = (((s.judged b rep).acceptedAt b rep.tag).toStandby b .none).handAllReady := by
  rw [h.delivered_of_valid ht (State.accepted_bears ht hr hcode hc hb hd) hcalm, State.verdict_accepted ht hr hcode hd,
    if_neg hs]
  rfl

/-- A SERVICEABLE pack goes on (R31). -/
theorem State.Docks.serviceable (h : s.Docks b rep) (ht : validTag rep.tag = true) (hcalm : s.Calm b rep)
    (hr : s.pack rep.tag = some r) (hcode : rep.classCode = r.cls.val) (hc : s.classRec r.cls = some cr)
    (hb : cr.Bears rep) (hd : s.duplicateIn b r = false) (hs : r.standing = .serviceable) :
    s.delivered b rep = (((s.judged b rep).acceptedAt b rep.tag).goOn b rep.tm).handAllReady := by
  rw [h.delivered_of_valid ht (State.accepted_bears ht hr hcode hc hb hd) hcalm, State.verdict_accepted ht hr hcode hd,
    if_pos hs]
  rfl

/-- An accepted tag's record, list, writes and entry, whatever the bay then does (R14). -/
theorem State.Docks.accepted_delivered (h : s.Docks b rep) (ht : validTag rep.tag = true) (hcalm : s.Calm b rep)
    (hr : s.pack rep.tag = some r) (hcode : rep.classCode = r.cls.val) (hc : s.classRec r.cls = some cr)
    (hb : cr.Bears rep) (hd : s.duplicateIn b r = false) :
    ∃ ws, (s.delivered b rep).ledger = { ((s.judged b rep).acceptedAt b rep.tag).ledger with
      inFlight := ((s.judged b rep).acceptedAt b rep.tag).inFlight ++ ws } := by
  by_cases hs : r.standing = .serviceable
  · have hbay := State.acceptedAt_bay (b := b) ((h.judged_pack rep.tag).trans hr) ((h.judged_classRec r.cls).trans hc)
    rw [h.serviceable ht hcalm hr hcode hc hb hd hs, State.handAllReady_ledger]
    exact State.goOn_ledger (by rw [hbay]; exact h.judged.not_release) _
  · rw [h.quarantined ht hcalm hr hcode hc hb hd hs, State.handAllReady_ledger, State.toStandby_ledger]
    exact ⟨[], by simp [State.ledger]⟩

end

/-! ## What the bay shows -/

/-- A cool pack with a valid profile: its session starts, in CHARGE where its charge is known (R31, R35). -/
theorem State.goOn_shows {u : State} {cr : ClassRec} (hc : u.classAt b = some cr) {tm : Int} (ht : tm ≤ cr.startLimit)
    (hv : (u.profile cr.profile).valid = true) :
    ((u.goOn b tm).handAllReady.bay b).state = (if u.knownAt b then .charge else .assess) ∧
      ((u.goOn b tm).handAllReady.bay b).identity = (u.bay b).identity := by
  have hstate := Bay.state_of_outline (State.handAllReady_bay_outline (u.goOn b tm) b)
  have hidentity : ((u.goOn b tm).handAllReady.bay b).identity = ((u.goOn b tm).bay b).identity := by
    rw [← Bay.outline_identity, State.handAllReady_bay_outline, Bay.outline_identity]
  rw [hstate, hidentity, State.goOn_of_cool hc ht]
  cases u.knownAt b with
  | true => exact State.startSession_charge (State.startClass_of hc hv) false false
  | false =>
    obtain ⟨h, -⟩ := State.startSession_assess (State.startClass_of hc hv) false false
    exact ⟨(congrArg Bay.state h :), (congrArg Bay.identity h :)⟩

/-- A cool pack whose charge is not known rests in ASSESS with a session and no new request (R35). -/
theorem State.goOn_assesses {u : State} {cr : ClassRec} (hc : u.classAt b = some cr) {tm : Int} (ht : tm ≤ cr.startLimit)
    (hv : (u.profile cr.profile).valid = true) (hk : u.knownAt b = false) :
    ((u.goOn b tm).handAllReady.bay b).outline = ((u.bay b).assessing cr.profile false).outline ∧
      ((u.goOn b tm).handAllReady.grant b).request = (u.grant b).request ∧
      (u.goOn b tm).handAllReady.ledger = u.ledger := by
  obtain ⟨hbay, hreq, hl⟩ := State.startSession_assess (State.startClass_of hc hv) false false
  rw [State.goOn_of_cool hc ht, hk]
  exact ⟨(State.handAllReady_bay_outline _ b).trans hbay,
    (State.request_of_outline (State.handAllReady_outline _) b).trans hreq, (State.handAllReady_ledger _).trans hl⟩

section
variable {r : PackRec} {cr : ClassRec}

/-- A QUARANTINED pack's bay (R31). -/
theorem State.Docks.quarantined_bay (h : s.Docks b rep) (ht : validTag rep.tag = true) (hcalm : s.Calm b rep)
    (hr : s.pack rep.tag = some r) (hcode : rep.classCode = r.cls.val) (hc : s.classRec r.cls = some cr)
    (hb : cr.Bears rep) (hd : s.duplicateIn b r = false) (hs : r.standing ≠ .serviceable) :
    ((s.delivered b rep).bay b).state = .standby ∧ ((s.delivered b rep).bay b).outcome = .none ∧
      ((s.delivered b rep).bay b).identity = .registered rep.tag ∧ ((s.delivered b rep).bay b).session = none ∧
      ((s.delivered b rep).bay b).drive = ⟨false, 0, 0, false, .held⟩ := by
  have hbay := State.acceptedAt_bay (b := b) ((h.judged_pack rep.tag).trans hr) ((h.judged_classRec r.cls).trans hc)
  rw [h.quarantined ht hcalm hr hcode hc hb hd hs]
  have ho := (State.handAllReady_bay_outline (((s.judged b rep).acceptedAt b rep.tag).toStandby b .none) b).trans
    (State.toStandby_bay_outline _ b b .none)
  rw [if_pos rfl, hbay] at ho
  have hrests := (State.toStandby_rests ((s.judged b rep).acceptedAt b rep.tag) b .none).handAllReady
  have hsession := h.judged.session
  generalize (((s.judged b rep).acceptedAt b rep.tag).toStandby b .none).handAllReady = t at ho hrests ⊢
  generalize (s.judged b rep).bay b = y at ho hsession
  exact ⟨(congrArg Bay.state ho :), (congrArg Bay.outcome ho :), (congrArg Bay.identity ho :),
    (congrArg Bay.session ho).trans hsession, (hrests.drive ho).trans rfl⟩

/-- A hot pack's bay (R33). -/
theorem State.Docks.hot_bay (h : s.Docks b rep) (ht : validTag rep.tag = true) (hcalm : s.Calm b rep)
    (hr : s.pack rep.tag = some r) (hcode : rep.classCode = r.cls.val) (hc : s.classRec r.cls = some cr)
    (hb : cr.Bears rep) (hd : s.duplicateIn b r = false) (hs : r.standing = .serviceable) (hot : cr.startLimit < rep.tm) :
    ((s.delivered b rep).bay b).state = .cooling ∧ ((s.delivered b rep).bay b).identity = .registered rep.tag ∧
      ((s.delivered b rep).bay b).session = none ∧ ((s.delivered b rep).bay b).coolEntry = some s.now ∧
      ((s.delivered b rep).bay b).coolExpiry =
        (if cr.coolTimeout = 0 then none else some (s.now + cr.coolTimeout * 60000)) ∧
      ((s.delivered b rep).bay b).drive = ⟨false, 0, 0, false, .charging⟩ := by
  have hr' := (h.judged_pack rep.tag).trans hr
  have hc' := (h.judged_classRec r.cls).trans hc
  have hbay := State.acceptedAt_bay (b := b) hr' hc'
  have hnow : ((s.judged b rep).acceptedAt b rep.tag).now = s.now := by
    rw [(State.acceptedAt_kept hr' hc').2.2.2.2.2.1, (s.judged_kept b rep).2.2.2.2.2.1, h.seen_now]
  rw [h.serviceable ht hcalm hr hcode hc hb hd hs, State.goOn_of_hot (State.acceptedAt_class hr' hc').1 hot]
  have ho := (State.handAllReady_bay_outline (((s.judged b rep).acceptedAt b rep.tag).toCooling b cr.coolTimeout) b).trans
    (State.toCooling_bay_outline _ cr.coolTimeout)
  rw [hbay, hnow] at ho
  have hrests := (State.toCooling_rests ((s.judged b rep).acceptedAt b rep.tag) b cr.coolTimeout).handAllReady
  have hsession := h.judged.session
  generalize (((s.judged b rep).acceptedAt b rep.tag).toCooling b cr.coolTimeout).handAllReady = t at ho hrests ⊢
  generalize (s.judged b rep).bay b = y at ho hsession
  exact ⟨(congrArg Bay.state ho :), (congrArg Bay.identity ho :), (congrArg Bay.session ho).trans hsession,
    (congrArg Bay.coolEntry ho :), (congrArg Bay.coolExpiry ho :), (hrests.drive ho).trans rfl⟩

theorem State.Docks.accepted_profile (h : s.Docks b rep) (hr : s.pack rep.tag = some r)
    (hc : s.classRec r.cls = some cr) (p : ProfileNo) :
    ((s.judged b rep).acceptedAt b rep.tag).profile p = s.profile p := by
  have hp := (State.acceptedAt_kept (b := b) ((h.judged_pack rep.tag).trans hr)
    ((h.judged_classRec r.cls).trans hc)).2.2.2.2.2.2
  rw [State.profile, hp, (s.judged_kept b rep).2.2.2.2.2.2]
  exact h.seen_profile p

/-- A cool pack's bay (R31, R35). -/
theorem State.Docks.cool_bay (h : s.Docks b rep) (ht : validTag rep.tag = true) (hcalm : s.Calm b rep)
    (hr : s.pack rep.tag = some r) (hcode : rep.classCode = r.cls.val) (hc : s.classRec r.cls = some cr)
    (hb : cr.Bears rep) (hd : s.duplicateIn b r = false) (hs : r.standing = .serviceable) (hcool : rep.tm ≤ cr.startLimit)
    (hv : (s.profile cr.profile).valid = true) :
    ((s.delivered b rep).bay b).identity = .registered rep.tag ∧ ((s.delivered b rep).bay b).state =
      (if (r.accepted b (cr.chemistry = .flooded)).known then .charge else .assess) := by
  have hr' := (h.judged_pack rep.tag).trans hr
  have hc' := (h.judged_classRec r.cls).trans hc
  obtain ⟨hclass, hknown⟩ := State.acceptedAt_class (b := b) hr' hc'
  rw [h.serviceable ht hcalm hr hcode hc hb hd hs]
  obtain ⟨hstate, hidentity⟩ := State.goOn_shows (tm := rep.tm) hclass hcool (by rw [h.accepted_profile hr hc]; exact hv)
  rw [hknown] at hstate
  refine ⟨hidentity.trans ?_, hstate⟩
  rw [State.acceptedAt_bay hr' hc']

/-- A returned pack of a bay without a request rests in ASSESS. -/
theorem State.Docks.cool_assesses (h : s.Docks b rep) (ht : validTag rep.tag = true) (hcalm : s.Calm b rep)
    (hr : s.pack rep.tag = some r) (hcode : rep.classCode = r.cls.val) (hc : s.classRec r.cls = some cr)
    (hb : cr.Bears rep) (hd : s.duplicateIn b r = false) (hs : r.standing = .serviceable) (hcool : rep.tm ≤ cr.startLimit)
    (hv : (s.profile cr.profile).valid = true) (hk : (r.accepted b (cr.chemistry = .flooded)).known = false) :
    ((s.delivered b rep).bay b).outline =
      (({ (s.judged b rep).bay b with identity := .registered rep.tag } : Bay).assessing cr.profile false).outline ∧
      ((s.delivered b rep).grant b).request = (s.grant b).request := by
  have hr' := (h.judged_pack rep.tag).trans hr
  have hc' := (h.judged_classRec r.cls).trans hc
  obtain ⟨hclass, hknown⟩ := State.acceptedAt_class (b := b) hr' hc'
  rw [h.serviceable ht hcalm hr hcode hc hb hd hs]
  obtain ⟨hbay, hreq, -⟩ := State.goOn_assesses (tm := rep.tm) hclass hcool (by rw [h.accepted_profile hr hc]; exact hv)
    (hknown.trans hk)
  rw [State.acceptedAt_bay hr' hc'] at hbay
  refine ⟨hbay, hreq.trans ?_⟩
  rw [State.grant, (State.acceptedAt_kept hr' hc').2.2.2.2.1, (s.judged_kept b rep).2.2.2.1]
  exact h.seen_request

end

/-! ## An unknown tag -/

/-- An unknown tag of a defined class, with room in the register (R15, step 2). -/
theorem State.verdict_new (ht : validTag rep.tag = true) (hr : s.pack rep.tag = none) {c : ClassNo} {cr : ClassRec}
    (hcode : rep.classCode = c.val) (hc : s.classRec c = some cr) (hroom : s.register.packs.length < 96) :
    s.verdict b rep = .accepted rep.tag c false := by
  have hfull : s.registerFull = false := decide_eq_false (not_le.2 hroom)
  simp [State.verdict_unknown ht hr, State.unknownVerdict, Report.cls?_of hcode, hc, hfull]

/-- An unknown tag of an undefined class, or of none (R15, step 1). -/
theorem State.verdict_undefined (ht : validTag rep.tag = true) (hr : s.pack rep.tag = none)
    (hc : ∀ c : ClassNo, c.val = rep.classCode → s.classRec c = none) : s.verdict b rep = .mismatch := by
  rw [State.verdict_unknown ht hr]
  cases hx : rep.cls? with
  | none => simp [State.unknownVerdict, hx]
  | some c => simp [State.unknownVerdict, hx, hc c (Report.cls?_eq_some_iff.1 hx).symm]

theorem State.anonymousVerdict_of {cr : ClassRec} (hc : s.classRec (s.bay b).cfg.defaultClass = some cr) :
    s.anonymousVerdict b = .anonymous (s.bay b).cfg.defaultClass := by
  simp [State.anonymousVerdict, hc]

/-- A new pack is registered, and its bay rests in ASSESS (R15, R31). -/
theorem State.Docks.new_delivered (h : s.Docks b rep) (ht : validTag rep.tag = true) (hcalm : s.Calm b rep) {c : ClassNo}
    {cr : ClassRec} (hr : s.pack rep.tag = none) (hcode : rep.classCode = c.val) (hc : s.classRec c = some cr)
    (hb : cr.Bears rep) (hroom : s.register.packs.length < 96) (hcool : rep.tm ≤ cr.startLimit)
    (hv : (s.profile cr.profile).valid = true) :
    ((s.delivered b rep).bay b).outline =
      (({ (s.judged b rep).bay b with identity := .registered rep.tag } : Bay).assessing cr.profile false).outline ∧
      ((s.delivered b rep).grant b).request = (s.grant b).request ∧
      (s.delivered b rep).pack rep.tag = some (PackRec.fresh rep.tag c (.bay b)) ∧
      (s.delivered b rep).rotation c = rep.tag :: s.rotation c := by
  have hverdict := State.verdict_new (b := b) ht hr hcode hc hroom
  have hd := h.delivered_of_valid ht (fun x hx => by
    rw [hverdict] at hx
    exact Option.some.inj (hc.symm.trans hx) ▸ hb) hcalm
  rw [hverdict] at hd
  obtain ⟨hpack, -, hrot, -⟩ := (s.judged b rep).addPack_register (PackRec.fresh rep.tag c (.bay b))
  have hrotation : (s.judged b rep).rotation c = s.rotation c := by
    rw [State.rotation, (s.judged_kept b rep).1, h.seen_register, State.rotation]
  have hreq : ((s.judged b rep).grant b).request = (s.grant b).request := by
    rw [State.grant, (s.judged_kept b rep).2.2.2.1]
    exact h.seen_request
  have hprofile : (s.judged b rep).profile cr.profile = s.profile cr.profile := by
    rw [State.profile, (s.judged_kept b rep).2.2.2.2.2.2]
    exact h.seen_profile _
  have hclassRec := h.judged_classRec c
  rw [show s.delivered b rep = ((((s.judged b rep).addPack (PackRec.fresh rep.tag c (.bay b))).setIdentity b
    (.registered rep.tag)).goOn b rep.tm).handAllReady from hd]
  generalize s.judged b rep = j at hpack hrot hrotation hreq hprofile hclassRec ⊢
  obtain ⟨u, hu⟩ : ∃ u, (j.addPack (PackRec.fresh rep.tag c (.bay b))).setIdentity b (.registered rep.tag) = u := ⟨_, rfl⟩
  have hbay : u.bay b = { j.bay b with identity := .registered rep.tag } := by
    rw [← hu, State.setIdentity, State.modBay_bay, if_pos rfl]
    rfl
  have hpack' : u.pack rep.tag = some (PackRec.fresh rep.tag c (.bay b)) := by rw [← hu]; exact hpack
  have hclass : u.classAt b = some cr := by
    have hcr : u.classRec c = some cr := by rw [← hu]; exact hclassRec.trans hc
    rw [State.classAt, State.classInUse, hbay]
    simp only [hpack', Option.map_some, Option.bind_some, PackRec.fresh, hcr]
  have hknown : u.knownAt b = false := by
    rw [State.knownAt, hbay]
    simp only [hpack', Option.map_some, Option.getD_some, PackRec.fresh]
  obtain ⟨hassess, hrequest, hledger⟩ := State.goOn_assesses (tm := rep.tm) hclass hcool
    (by rw [← hu]; exact (congrArg Profile.valid hprofile).trans hv) hknown
  rw [hu]
  refine ⟨hassess.trans (by rw [hbay]), hrequest.trans (by rw [← hu]; exact hreq), ?_, ?_⟩
  · exact (State.pack_of_ledger hledger rep.tag).trans hpack'
  · rw [State.rotation, State.register_of_ledger hledger, ← hu]
    exact hrot.trans (congrArg _ hrotation)

/-! ## Anonymous packs -/

/-- A pack that runs anonymous under the bay's default class rests in ASSESS (R16, R31). -/
theorem State.anonymous_assesses {w : State} {d : ClassNo} {crd : ClassRec}
    (hc : w.classRec d = some crd) (hcool : rep.tm ≤ crd.startLimit) (hv : (w.profile crd.profile).valid = true) :
    (w.actOnVerdict b rep.tm (.anonymous d)).handAllReady.ledger = w.ledger ∧
      ((w.actOnVerdict b rep.tm (.anonymous d)).handAllReady.bay b).state = .assess ∧
      ((w.actOnVerdict b rep.tm (.anonymous d)).handAllReady.bay b).identity = .anonymous d 0 false ∧
      ((w.actOnVerdict b rep.tm (.anonymous d)).handAllReady.bay b).session =
        some (Session.fresh crd.profile false .none) := by
  have hbay : (w.setIdentity b (.anonymous d 0 false)).bay b = { w.bay b with identity := .anonymous d 0 false } := by
    rw [State.setIdentity, State.modBay_bay, if_pos rfl]
  have hclass : (w.setIdentity b (.anonymous d 0 false)).classAt b = some crd := by
    rw [State.classAt, State.classInUse, hbay]
    exact hc
  have hknown : (w.setIdentity b (.anonymous d 0 false)).knownAt b = false := by rw [State.knownAt, hbay]
  obtain ⟨hassess, -, hledger⟩ := State.goOn_assesses (tm := rep.tm) hclass hcool hv hknown
  rw [hbay] at hassess
  change ((w.setIdentity b (.anonymous d 0 false)).goOn b rep.tm).handAllReady.ledger = _ ∧
    (((w.setIdentity b (.anonymous d 0 false)).goOn b rep.tm).handAllReady.bay b).state = _ ∧
    (((w.setIdentity b (.anonymous d 0 false)).goOn b rep.tm).handAllReady.bay b).identity = _ ∧
    (((w.setIdentity b (.anonymous d 0 false)).goOn b rep.tm).handAllReady.bay b).session = _
  generalize ((w.setIdentity b (.anonymous d 0 false)).goOn b rep.tm).handAllReady = t at hassess hledger ⊢
  exact ⟨hledger, (congrArg Bay.state hassess :), (congrArg Bay.identity hassess :), (congrArg Bay.session hassess :)⟩

/-- An identification that meets a full register runs anonymous with REGFULL (R15, step 3). -/
theorem State.Docks.full_delivered (h : s.Docks b rep) (ht : validTag rep.tag = true) (hcalm : s.Calm b rep) {c : ClassNo}
    {cr crd : ClassRec} (hr : s.pack rep.tag = none) (hcode : rep.classCode = c.val) (hc : s.classRec c = some cr)
    (hfull : 96 ≤ s.register.packs.length) (hd : s.classRec (s.bay b).cfg.defaultClass = some crd) (hb : crd.Bears rep)
    (hcool : rep.tm ≤ crd.startLimit) (hv : (s.profile crd.profile).valid = true) :
    (s.delivered b rep).link.edges.regfull = true ∧ (s.delivered b rep).register = s.register ∧
      ((s.delivered b rep).bay b).state = .assess ∧
      ((s.delivered b rep).bay b).identity = .anonymous (s.bay b).cfg.defaultClass 0 false ∧
      ((s.delivered b rep).bay b).session = some (Session.fresh crd.profile false .none) := by
  have hfull' : s.registerFull = true := decide_eq_true hfull
  have hverdict : s.verdict b rep = .anonymous (s.bay b).cfg.defaultClass := by
    rw [State.verdict_unknown ht hr, State.unknownVerdict, Report.cls?_of hcode]
    simp [hc, hfull', State.anonymousVerdict_of hd]
  have hjudged : s.judged b rep = (s.seen b rep).raise .regfull := by
    refine if_pos ?_
    have hfull'' : (s.seen b rep).registerFull = true := by rw [State.registerFull, h.seen_register]; exact hfull'
    simp [State.meetsFull, ht, h.seen_pack, hr, hfull'', Report.cls?_of hcode, h.seen_classRec, hc]
  have hprofile : (s.judged b rep).profile crd.profile = s.profile crd.profile := by
    rw [State.profile, (s.judged_kept b rep).2.2.2.2.2.2]
    exact h.seen_profile _
  have hshows := State.anonymous_assesses (b := b) (rep := rep) ((h.judged_classRec _).trans hd) hcool
    ((congrArg Profile.valid hprofile).trans hv)
  rw [h.delivered_of_valid ht (fun x hx => by
    rw [hverdict] at hx
    exact Option.some.inj (hd.symm.trans hx) ▸ hb) hcalm, hverdict]
  generalize ((s.judged b rep).actOnVerdict b rep.tm (.anonymous (s.bay b).cfg.defaultClass)).handAllReady = t at hshows ⊢
  obtain ⟨hledger, hrest⟩ := hshows
  refine ⟨?_, ?_, hrest⟩
  · rw [State.edges_of_ledger hledger, hjudged]
    rfl
  · rw [State.register_of_ledger hledger, (s.judged_kept b rep).1, h.seen_register]

/-! ## Tags that cannot be read -/

/-- The bay with one more attempt behind it (R31). -/
def State.retried (s : State) (b : BayNo) (rep : Report) : State :=
  (s.seen b rep).modBay b fun y => { y with attempts := min 3 (y.attempts + 1) }

theorem State.retried_bay (s : State) (b : BayNo) (rep : Report) : (s.retried b rep).bay b =
    { (s.seen b rep).bay b with attempts := min 3 (((s.seen b rep).bay b).attempts + 1) } := by
  rw [State.retried, State.modBay_bay, if_pos rfl]

theorem State.Docks.retried (h : s.Docks b rep) : (s.retried b rep).Identifying b rep := by
  obtain ⟨h1, h2, h3, h4, h5⟩ := h.identifying
  refine ⟨?_, ?_, ?_, ?_, h5⟩ <;> rw [State.retried_bay] <;> assumption

theorem State.verdict_unread (ht : validTag rep.tag = false) : s.verdict b rep = s.anonymousVerdict b := by
  simp [State.verdict, ht]

/-- A tag that cannot be read is tried again, and on the third attempt the verdict is the anonymous one (R12, R31). -/
theorem State.Docks.delivered_of_unread (h : s.Docks b rep) (ht : validTag rep.tag = false)
    (hc : (s.bay b).tries < 2 ∨ ∀ r, ((s.anonymousVerdict b).cls?.bind s.classRec) = some r → r.Bears rep)
    (hcalm : s.Calm b rep) : s.delivered b rep =
      (if 2 ≤ (s.bay b).tries then (s.retried b rep).actOnVerdict b rep.tm (s.anonymousVerdict b)
        else s.retried b rep).handAllReady := by
  have hpresented : (s.seen b rep).presented b rep = decide (2 ≤ (s.bay b).tries) := by
    rw [h.seen_presented, ht]
    rfl
  rw [h.delivered (fun r hr => ?_) hcalm, State.identify, if_neg (by simp [ht])]
  · simp only [hpresented, h.seen_verdict, State.verdict_unread ht, decide_eq_true_eq]
    rfl
  · rw [ht, Bool.false_or, State.verdict_unread ht] at hr
    rcases hc with hlt | hc
    · rw [if_neg (by simpa using hlt)] at hr
      cases hr
    · split at hr
      · exact hc r hr
      · cases hr

/-! ## The statement -/

/-- The bay that an identification is about docks a pack. -/
theorem State.Docks.of_state (hb : s.BaysOk) (h : (s.bay b).state = .vacant ∨ (s.bay b).state = .identify ∧
    (s.bay b).identity = .empty)
    (hr : (s.bay b).reconcile = .no) (hp : rep.present = true) : s.Docks b rep := by
  refine ⟨h, State.session_of_baysOk hb ?_, hr, hp⟩
  rcases h with h | ⟨h, -⟩ <;> simp [Bay.inSession, h]

theorem State.Docks.judged_dockTime (h : s.Docks b rep) (hv : (s.bay b).state = .vacant) :
    ((s.judged b rep).bay b).dockTime = some s.now := by
  have hd := h.judged_bay
  rw [Bay.docking, if_pos hv] at hd
  exact (congrArg Bay.dockTime hd :)

/-- What a bay that rests in ASSESS after a docking shows. -/
theorem Bay.assessing_shows {y z : Bay} {i : Identity} {p : ProfileNo}
    (h : y.outline = (({ z with identity := i } : Bay).assessing p false).outline) :
    y.state = .assess ∧ y.identity = i ∧ y.dockTime = z.dockTime ∧ y.session = some (Session.fresh p false .none) :=
  ⟨(congrArg Bay.state h :), (congrArg Bay.identity h :), (congrArg Bay.dockTime h :), (congrArg Bay.session h :)⟩

/-- A pack that returns from a machine (R9). -/
theorem PackRec.accepted_of_return {r : PackRec} {m : Nat} (hp : r.place = .machine m) (hm : r.mark = none) (b : BayNo)
    (ch : Chemistry) : r.accepted b (ch = .flooded) = { r with
      place := .bay b, known := false, returns := min 65535 (r.returns + 1)
      equalize := if ch = .flooded then min 255 (r.equalize + 1) else r.equalize } := by
  simp [PackRec.accepted, hp, hm]

theorem State.duplicateIn_of_machine {r : PackRec} {m : Nat} (hp : r.place = .machine m) : s.duplicateIn b r = false := by
  simp [State.duplicateIn, hp]

/-- A cool pack docks in a VACANT bay: registered new, or a return. -/
theorem State.docking_assesses {c : ClassNo} {cr : ClassRec} (h : s.Docks b rep) (hbays : s.BaysOk)
    (hvacant : (s.bay b).state = .vacant) (hcalm : s.Calm b rep) (ht : validTag rep.tag = true)
    (hcode : rep.classCode = c.val) (hc : s.classRec c = some cr) (hb : cr.Bears rep) (hcool : rep.tm ≤ cr.startLimit)
    (hv : (s.profile cr.profile).valid = true) :
    ((s.pack rep.tag = none ∧ s.register.packs.length < 96 ∨ ∃ r m, s.pack rep.tag = some r ∧ r.cls = c ∧
        r.place = .machine m ∧ r.mark = none ∧ r.standing = .serviceable) →
      ((s.delivered b rep).bay b).state = .assess ∧ ((s.delivered b rep).bay b).identity = .registered rep.tag ∧
      ((s.delivered b rep).bay b).dockTime = some s.now ∧ ((s.delivered b rep).grant b).request = 0 ∧
      ((s.delivered b rep).bay b).session = some (Session.fresh cr.profile false .none)) := by
  have hassess : (s.pack rep.tag = none ∧ s.register.packs.length < 96 ∨ ∃ r m, s.pack rep.tag = some r ∧ r.cls = c ∧
      r.place = .machine m ∧ r.mark = none ∧ r.standing = .serviceable) → ((s.delivered b rep).bay b).outline =
        (({ (s.judged b rep).bay b with identity := .registered rep.tag } : Bay).assessing cr.profile false).outline ∧
      ((s.delivered b rep).grant b).request = (s.grant b).request := by
    rintro (⟨hr, hroom⟩ | ⟨r, m, hr, rfl, hplace, hmark, hserv⟩)
    · obtain ⟨hbay, hreq, -⟩ := h.new_delivered ht hcalm hr hcode hc hb hroom hcool hv
      exact ⟨hbay, hreq⟩
    · exact h.cool_assesses ht hcalm hr hcode hc hb (State.duplicateIn_of_machine hplace) hserv hcool hv
        (by rw [PackRec.accepted_of_return hplace hmark])
  intro hcase
  obtain ⟨hbay, hreq⟩ := hassess hcase
  obtain ⟨hstate, hidentity, hdock, hsession⟩ := Bay.assessing_shows hbay
  exact ⟨hstate, hidentity, hdock.trans (h.judged_dockTime hvacant),
    hreq.trans (State.request_of_baysOk hbays (by simp [hvacant]) (by simp [hvacant])), hsession⟩

/-- A known tag that shows in another bay (R13). -/
theorem State.verdict_duplicate (ht : validTag rep.tag = true) {r : PackRec} {b' : BayNo} (hr : s.pack rep.tag = some r)
    (hcode : rep.classCode = r.cls.val) (hplace : r.place = .bay b') (hne : b' ≠ b) (hm : (s.bay b').state ≠ .masked)
    (hshows : (s.bay b').showsTag rep.tag = true) : s.verdict b rep = .duplicate r.cls := by
  have hd : s.duplicateIn b r = true := by
    rw [← (mem_of_findPack hr).2] at hshows
    simp [State.duplicateIn, hplace, hne, hm, hshows]
  rw [State.verdict_known ht hr, State.knownVerdict, Report.cls?_of hcode, if_neg (by simp), hd]
  rfl

theorem PackRec.dockedIssues_eq {r : PackRec} {g : Nat} (h : r.tag = g) (l : List Issue) :
    r.dockedIssues l = (match r.mark with
      | some m => withoutDocked m g l
      | none => l) := by
  subst h
  unfold PackRec.dockedIssues
  cases r.mark <;> rfl

/-- A tag that cannot be read, tried for the first or second time (R31). -/
theorem State.Docks.retry_delivered (h : s.Docks b rep) (ht : validTag rep.tag = false) (hcalm : s.Calm b rep)
    (hlt : (s.bay b).tries < 2) : ((s.delivered b rep).bay b).state = .identify ∧
      ((s.delivered b rep).bay b).attempts = (s.bay b).tries + 1 ∧ ((s.delivered b rep).bay b).identity = .empty ∧
      (s.delivered b rep).register = s.register ∧ (s.delivered b rep).faultRec b = s.faultRec b := by
  rw [h.delivered_of_unread ht (.inl hlt) hcalm, if_neg (not_le.2 hlt)]
  have hbay := State.handAllReady_bay_outline (s.retried b rep) b
  have hfault : (s.retried b rep).handAllReady.faultRec b = s.faultRec b :=
    (State.faultRec_of_outline (State.handAllReady_outline _) b).trans h.seen_faultRec
  have hregister : (s.retried b rep).handAllReady.register = s.register :=
    (State.register_of_ledger (State.handAllReady_ledger _)).trans h.seen_register
  have hattempts : ((s.retried b rep).bay b).attempts = (s.bay b).tries + 1 := by
    rw [State.retried_bay]
    simp only [h.seen_attempts]
    omega
  have hv := h.retried
  generalize (s.retried b rep).handAllReady = t at hbay hfault hregister ⊢
  exact ⟨(congrArg Bay.state hbay).trans hv.state, (congrArg Bay.attempts hbay).trans hattempts,
    (congrArg Bay.identity hbay).trans hv.identity, hregister, hfault⟩

/-- The third attempt under an undefined default class (R16). -/
theorem State.Docks.unread_mismatch (h : s.Docks b rep) (ht : validTag rep.tag = false) (hcalm : s.Calm b rep)
    (htwo : (s.bay b).tries = 2) (hd : s.classRec (s.bay b).cfg.defaultClass = none) :
    (s.delivered b rep).NotIdentified b .mismatch none none ∧ (s.delivered b rep).register = s.register := by
  have hv : s.anonymousVerdict b = .mismatch := by simp [State.anonymousVerdict, hd]
  have hn := h.retried.notIdentified .mismatch none false
  rw [ht, if_neg (by simp), show (s.retried b rep).register = s.register from h.seen_register] at hn
  rw [h.delivered_of_unread ht (.inr (by simp [hv, Verdict.cls?])) hcalm, if_pos htwo.ge, hv]
  exact hn

/-- The third attempt under a defined default class (R16). -/
theorem State.Docks.unread_anonymous (h : s.Docks b rep) (ht : validTag rep.tag = false) (hcalm : s.Calm b rep)
    (htwo : (s.bay b).tries = 2) {crd : ClassRec} (hd : s.classRec (s.bay b).cfg.defaultClass = some crd)
    (hb : crd.Bears rep) (hcool : rep.tm ≤ crd.startLimit) (hv : (s.profile crd.profile).valid = true) :
    (s.delivered b rep).register = s.register ∧ ((s.delivered b rep).bay b).state = .assess ∧
      ((s.delivered b rep).bay b).identity = .anonymous (s.bay b).cfg.defaultClass 0 false ∧
      ((s.delivered b rep).bay b).session = some (Session.fresh crd.profile false .none) := by
  have hverdict := State.anonymousVerdict_of hd
  have hprofile : (s.retried b rep).profile crd.profile = s.profile crd.profile := h.seen_profile _
  have hclass : (s.retried b rep).classRec (s.bay b).cfg.defaultClass = some crd := (h.seen_classRec _).trans hd
  have hregister : (s.retried b rep).register = s.register := h.seen_register
  have hshows := State.anonymous_assesses (b := b) (rep := rep) hclass hcool ((congrArg Profile.valid hprofile).trans hv)
  rw [h.delivered_of_unread ht (.inr fun r hr => by
    rw [hverdict] at hr
    exact Option.some.inj (hd.symm.trans hr) ▸ hb) hcalm, if_pos htwo.ge, hverdict]
  generalize ((s.retried b rep).actOnVerdict b rep.tm (.anonymous (s.bay b).cfg.defaultClass)).handAllReady =
      t at hshows ⊢
  exact ⟨(State.register_of_ledger hshows.1).trans hregister, hshows.2⟩

end

/-- Settles O48, verdict by verdict. -/
theorem dockingIdentifiesThePack : Obligations.DockingIdentifiesThePack := by
  refine ⟨?_, ?_, ?_⟩
  · intro s x bytes rep c cr hrun hbays _ hslot hlen htime hjudge hvacant hrec hpresent halarm hlatch h1 h2 hcode hc hhot hcool
      hvolt hvalid
    have h : s.Docks x.bay rep := .of_state hbays (.inl hvacant) hrec hpresent
    have ht := validTag_of h1 h2
    refine ⟨_, State.exec_reportReceived ⟨hrun, hslot, hlen, htime, hjudge⟩,
      State.docking_assesses h hbays hvacant ⟨halarm, hlatch⟩ ht hcode hc ⟨hhot, hvolt⟩ hcool hvalid,
      fun hr hroom => ?_, fun r m hr hcls hplace hmark _ => ?_⟩
    · obtain ⟨-, -, hnew⟩ := h.new_delivered ht ⟨halarm, hlatch⟩ hr hcode hc ⟨hhot, hvolt⟩ hroom hcool hvalid
      exact hnew
    · subst hcls
      obtain ⟨hpack, -, hrot, -⟩ := State.accepted_records h hr hc (h.accepted_delivered ht ⟨halarm, hlatch⟩ hr hcode hc
        ⟨hhot, hvolt⟩ (State.duplicateIn_of_machine hplace))
      rw [PackRec.accepted_of_return hplace hmark] at hpack
      exact ⟨hpack, hrot⟩
  · rintro s x bytes rep ⟨hhears, hbays, hstate, hempty, hrec, hpresent, hcalm⟩ h1 h2
    have h : s.Docks x.bay rep := .of_state hbays (hstate.imp_right fun hi => ⟨hi, hempty⟩) hrec hpresent
    have ht := validTag_of h1 h2
    have hexec := State.exec_reportReceived hhears
    refine ⟨fun r hr hcode => ⟨_, hexec, h.mismatch ht hcalm ?_⟩, fun hr hc => ⟨_, hexec, h.mismatch ht hcalm
      (State.verdict_undefined ht hr hc)⟩, fun r cr b' hr hcode hc hb hplace hne hm hshows => ?_,
      fun r cr hr hcode hc hb hd => ?_, fun c cr d crd hr hcode hc hfull hd hcd hb hcool hv => ?_⟩
    · rw [State.verdict_known ht hr, State.knownVerdict, if_pos (mt Report.cls?_eq_some_iff.1 hcode)]
    · obtain ⟨hn, hregister⟩ := h.duplicate ht hcalm (State.verdict_duplicate ht hr hcode hplace hne hm hshows) hc hb
      obtain ⟨-, -, -, -, -, hothers, -⟩ := s.delivered_credited x.bay rep
      exact ⟨_, hexec, hn, hregister, (hothers b' hne).1⟩
    · obtain ⟨hpack, hothers, hrot, hwrite, hissues⟩ :=
        State.accepted_records h hr hc (h.accepted_delivered ht hcalm hr hcode hc hb hd)
      refine ⟨_, hexec, hpack, hothers, hrot, hwrite, hissues.trans (PackRec.dockedIssues_eq (mem_of_findPack hr).2 _),
        fun k hk => h.quarantined_bay ht hcalm hr hcode hc hb hd (by simp [hk]),
        fun hs hot => h.hot_bay ht hcalm hr hcode hc hb hd hs hot,
        fun hs hcool hv => h.cool_bay ht hcalm hr hcode hc hb hd hs hcool hv⟩
    · subst hd
      exact ⟨_, hexec, h.full_delivered ht hcalm hr hcode.symm hc hfull hcd hb hcool hv⟩
  · rintro s x bytes rep ⟨hhears, hbays, hstate, hempty, hrec, hpresent, hcalm⟩ htag
    have h : s.Docks x.bay rep := .of_state hbays (hstate.imp_right fun hi => ⟨hi, hempty⟩) hrec hpresent
    have ht : validTag rep.tag = false := by rcases htag with h0 | h0 <;> simp [validTag, between, h0]
    have hexec := State.exec_reportReceived hhears
    refine ⟨fun hlt => ⟨_, hexec, h.retry_delivered ht hcalm hlt⟩, fun htwo d hd => ?_⟩
    subst hd
    exact ⟨fun hnone => ⟨_, hexec, h.unread_mismatch ht hcalm htwo hnone⟩,
      fun crd hcd hb hcool hv => ⟨_, hexec, h.unread_anonymous ht hcalm htwo hcd hb hcool hv⟩⟩

end Sys2Proof.Machine
end

section
/-! SUPPORT. The first report after a restart or UNMASK BAY (R23, R44, R148): the records that name the bay are settled
before
the report is used, and nothing that follows in the event takes that back. -/

namespace Sys2Proof.Machine

/-! ## What the rest of the event leaves -/

/-- What an identification of tag `g` at a bay leaves: the records of the other tags, the writes and flags already
there, and
what is pending at the bay. -/
structure State.Leaves (u t : State) (b : BayNo) (g : Nat) : Prop where
  pack : ∀ x, x ≠ g → t.pack x = u.pack x
  writes : ∀ w ∈ u.inFlight, w ∈ t.inFlight
  unaccounted : u.link.edges.unaccounted = true → t.link.edges.unaccounted = true
  taken : u.link.edges.taken = true → t.link.edges.taken = true
  reconcile : (t.bay b).reconcile = (u.bay b).reconcile

section
variable {u t v : State} {b : BayNo} {g : Nat}

theorem State.Leaves.trans (h : u.Leaves t b g) (h' : t.Leaves v b g) : u.Leaves v b g :=
  ⟨fun x hx => (h'.pack x hx).trans (h.pack x hx), fun w hw => h'.writes w (h.writes w hw),
    fun hu => h'.unaccounted (h.unaccounted hu), fun hu => h'.taken (h.taken hu), h'.reconcile.trans h.reconcile⟩

/-- More writes, and nothing else recorded. -/
theorem State.Leaves.of_ledger {ws : List StoreWrite} (h : t.ledger = { u.ledger with inFlight := u.inFlight ++ ws })
    (hb : (t.bay b).reconcile = (u.bay b).reconcile) : u.Leaves t b g where
  pack x _ := congrArg (Ledger.pack · x) h
  writes w hw := by
    rw [show t.inFlight = _ from congrArg Ledger.inFlight h]
    exact List.mem_append_left ws hw
  unaccounted hu := by
    rw [show t.link.edges = _ from congrArg Ledger.edges h]
    exact hu
  taken hu := by
    rw [show t.link.edges = _ from congrArg Ledger.edges h]
    exact hu
  reconcile := hb

theorem State.Leaves.of_same (h : t.ledger = u.ledger) (hb : (t.bay b).reconcile = (u.bay b).reconcile) :
    u.Leaves t b g :=
  .of_ledger (ws := []) (by rw [h]; simp [State.ledger]) hb

theorem State.Leaves.refl (u : State) (b : BayNo) (g : Nat) : u.Leaves u b g := .of_same rfl rfl

theorem Bay.reconcile_of_outline {y z : Bay} {q : Reconcile} (h : y.outline = z.outline) (hq : z.reconcile = q) :
    y.reconcile = q :=
  (congrArg Bay.reconcile h).trans hq

theorem State.handAllReady_leaves (u : State) (b : BayNo) (g : Nat) : u.Leaves u.handAllReady b g :=
  .of_same u.handAllReady_ledger (Bay.reconcile_of_outline (u.handAllReady_bay_outline b) rfl)

/-- A latch at a bay that runs no identified pack. -/
theorem State.latch_leaves (hb : (u.bay b).state ≠ .release) (hi : (u.bay b).identity = .empty) (k : FaultKind)
    (ks : List FaultKind) (n : Option Nat) (c : Option ClassNo) (own : Bool) : u.Leaves (u.latch b k ks n c own) b g :=
  .of_ledger (State.latch_ledger_of_no_tag hb (State.no_tag_of_empty hi k ks n c) own)
    (Bay.reconcile_of_outline (State.latch_bay_outline hb k ks n c own) rfl)

theorem State.startSession_reconcile (hb : (u.bay b).state ≠ .release) (toCharge warm own : Bool) :
    ((u.startSession b toCharge warm own).bay b).reconcile = (u.bay b).reconcile := by
  cases hc : u.startClass b with
  | none =>
    simp only [State.startSession, hc]
    exact Bay.reconcile_of_outline (State.latch_bay_outline hb .profile [] none none own) rfl
  | some cr =>
    cases toCharge with
    | false => exact Bay.reconcile_of_outline (State.startSession_assess hc warm own).1 rfl
    | true =>
      have h : ((u.startSession b true warm own).bay b).outline =
          ({ ((u.openSession b cr.profile warm .none).enterStage b 0 true).bay b with state := .charge } :
              Bay).outline := by
        simp only [State.startSession, hc, if_true]
        rw [State.relevel_bay_outline, State.releaseAtRest_bay_outline, State.moveTo_bay_outline, if_pos rfl]
      refine Bay.reconcile_of_outline h ?_
      simp [State.enterStage, State.modSession, State.modBay_bay, State.openSession_bay]

theorem State.goOn_leaves (hb : (u.bay b).state ≠ .release) (tm : Int) : u.Leaves (u.goOn b tm) b g := by
  obtain ⟨ws, h⟩ := State.goOn_ledger hb tm
  refine .of_ledger h ?_
  unfold State.goOn
  split
  · rfl
  · split
    · exact Bay.reconcile_of_outline (u.toCooling_bay_outline _) rfl
    · exact State.startSession_reconcile hb _ false false

theorem State.setIdentity_leaves (u : State) (b : BayNo) (i : Identity) (g : Nat) : u.Leaves (u.setIdentity b i) b g :=
  .of_same rfl (by rw [State.setIdentity, State.modBay_bay, if_pos rfl])

theorem State.setIdentity_state (u : State) (b : BayNo) (i : Identity) :
    ((u.setIdentity b i).bay b).state = (u.bay b).state := by
  rw [State.setIdentity, State.modBay_bay, if_pos rfl]

/-- An accepted known tag changes its own record. -/
theorem State.acceptKnown_leaves (u : State) (b : BayNo) (g : Nat) : u.Leaves (u.acceptKnown b g) b g := by
  cases hr : u.pack g with
  | none =>
    rw [show u.acceptKnown b g = u by simp [State.acceptKnown, hr]]
    exact .refl u b g
  | some r =>
    rw [State.acceptKnown_eq hr]
    refine ⟨fun x hx => ?_, fun w hw => List.mem_append_left _ hw, id, id, rfl⟩
    exact (u.modPack_pack g x (f := fun q => q.docked b ((u.classRec q.cls).map (·.chemistry))) fun _ => rfl).trans
      (if_neg hx)

theorem State.acceptKnown_state (u : State) (b : BayNo) (g : Nat) :
    ((u.acceptKnown b g).bay b).state = (u.bay b).state := by
  cases hr : u.pack g with
  | none => simp [State.acceptKnown, hr]
  | some r => rw [State.acceptKnown_eq hr]; rfl

/-- A new record is that of its own tag. -/
theorem State.addPack_leaves (u : State) (b : BayNo) (r : PackRec) : u.Leaves (u.addPack r) b r.tag := by
  refine ⟨fun x hx => findPack_putPack_of_ne r _ hx, fun w hw => ?_, id, id, rfl⟩
  exact List.mem_append_left _ (List.mem_append_left _ hw)

theorem State.verdict_tag {u : State} {rep : Report} {g : Nat} {c : ClassNo} :
    (∀ k, u.verdict b rep = .accepted g c k → g = rep.tag) ∧ (u.verdict b rep = .quarantined g c → g = rep.tag) := by
  have hanon : ∀ k, u.anonymousVerdict b ≠ .accepted g c k ∧ u.anonymousVerdict b ≠ .quarantined g c := fun k => by
    unfold State.anonymousVerdict
    split <;> simp
  have hknown : ∀ {r}, u.pack rep.tag = some r → (∀ k, u.knownVerdict b rep r = .accepted g c k → g = rep.tag) ∧
      (u.knownVerdict b rep r = .quarantined g c → g = rep.tag) := fun {r} hr => by
    rw [← (mem_of_findPack hr).2]
    unfold State.knownVerdict
    split
    · simp
    · split
      · simp
      · split <;> simp_all
  have hunknown : (∀ k, u.unknownVerdict b rep = .accepted g c k → g = rep.tag) ∧
      (u.unknownVerdict b rep = .quarantined g c → g = rep.tag) := by
    unfold State.unknownVerdict
    split
    · simp
    · split
      · simp
      · split
        · exact ⟨fun k h => absurd h (hanon k).1, fun h => absurd h (hanon true).2⟩
        · simp_all
  unfold State.verdict
  split
  · split
    · next r hr => exact hknown hr
    · exact hunknown
  · exact ⟨fun k h => absurd h (hanon k).1, fun h => absurd h (hanon true).2⟩

/-- The bay acts on the verdict on a report (R31). -/
theorem State.actOnVerdict_leaves {rep : Report} (hb : (u.bay b).state = .identify) (hi : (u.bay b).identity = .empty)
    (v : Verdict) (hv : ∀ g c k, v = .accepted g c k → g = rep.tag) (hq : ∀ g c, v = .quarantined g c → g = rep.tag) :
    u.Leaves (u.actOnVerdict b rep.tm v) b rep.tag := by
  have hnr : (u.bay b).state ≠ .release := by simp [hb]
  have known : u.Leaves ((u.acceptKnown b rep.tag).setIdentity b (.registered rep.tag)) b rep.tag :=
    (u.acceptKnown_leaves b rep.tag).trans (State.setIdentity_leaves _ b _ _)
  cases v with
  | mismatch => exact State.latch_leaves hnr hi .mismatch [] none none false
  | duplicate c => exact State.latch_leaves hnr hi .duplicate [] none (some c) false
  | anonymous c =>
    exact (u.setIdentity_leaves b _ _).trans (State.goOn_leaves (by rw [State.setIdentity_state]; exact hnr) _)
  | quarantined g c =>
    obtain rfl := hq g c rfl
    exact known.trans (.of_same (State.toStandby_ledger _ b .none)
      (Bay.reconcile_of_outline ((State.toStandby_bay_outline _ b b .none).trans (if_pos rfl)) rfl))
  | accepted g c k =>
    obtain rfl := hv g c k rfl
    cases k with
    | true =>
      exact known.trans (State.goOn_leaves (by rw [State.setIdentity_state, State.acceptKnown_state]; exact hnr) _)
    | false =>
      exact ((u.addPack_leaves b (PackRec.fresh rep.tag c (.bay b))).trans (State.setIdentity_leaves _ b _ _)).trans
        (State.goOn_leaves (by rw [State.setIdentity_state]; exact hnr) _)

/-- The work of a good report at a bay in IDENTIFY that runs no pack (R29, R31). -/
theorem State.testsAndWork_leaves {rep : Report} (hb : (u.bay b).state = .identify) (hi : (u.bay b).identity = .empty)
    (prev : Nat) (on answered : Bool) : u.Leaves (u.testsAndWork b rep prev on answered) b rep.tag := by
  have act : ∀ w : State, (w.bay b).state = .identify → (w.bay b).identity = .empty → u.Leaves w b rep.tag →
      u.Leaves (w.actOnVerdict b rep.tm (u.verdict b rep)) b rep.tag := fun w hw hwi hl =>
    hl.trans (State.actOnVerdict_leaves hw hwi _ (fun _ _ k h => State.verdict_tag.1 k h) fun _ c h =>
      (State.verdict_tag (c := c)).2 h)
  simp only [State.testsAndWork, hb, if_neg (show BayState.identify ≠ .fault by simp)]
  split
  · simp only [State.stateWork, hb, State.identify]
    have hretry : u.Leaves (u.modBay b fun y => { y with attempts := min 3 (y.attempts + 1) }) b rep.tag :=
      .of_same rfl (by rw [State.modBay_bay, if_pos rfl])
    split
    · split
      · exact act _ hb hi ⟨fun _ _ => rfl, fun _ => id, id, id, rfl⟩
      · exact act u hb hi (.refl u b _)
    · split
      · exact act _ (by rw [State.modBay_bay, if_pos rfl]; exact hb) (by rw [State.modBay_bay, if_pos rfl]; exact hi) hretry
      · exact hretry
  · exact State.latch_leaves (by simp [hb]) hi _ _ _ _ _

end

end Sys2Proof.Machine
end

section
/-! SUPPORT. Reconciliation (R23, R44, R148), with the statement about a good report. -/

namespace Sys2Proof.Machine

/-! ## The records that name the bay -/

/-- A record UNACCOUNTED with attention (R23, R44). -/
def Ledger.settle (l : Ledger) (c : Cause) (g : Nat) : Ledger := (l.setPlace g .unaccounted).raise c

theorem State.settleAt_ledger (s : State) (b : BayNo) (t : Option Nat) (c : Cause) : (s.settleAt b t c).ledger =
    ((s.packsAt b).filter fun r => decide (some r.tag ≠ t)).foldl (fun l r => l.settle c r.tag) s.ledger :=
  (List.foldl_hom (f := State.ledger) (g₁ := fun u (r : PackRec) => (u.setPlace r.tag .unaccounted).raise c)
    (fun u r => by rw [State.raise_ledger, State.setPlace_ledger]; rfl)).symm

theorem Ledger.setPlace_writes (l : Ledger) (g : Nat) (p : Place) {w : StoreWrite} (h : w ∈ l.inFlight) :
    w ∈ (l.setPlace g p).inFlight := List.mem_append_left _ h

theorem Ledger.foldl_settle_writes (c : Cause) (rs : List PackRec) (l : Ledger) {w : StoreWrite} (h : w ∈ l.inFlight) :
    w ∈ (rs.foldl (fun u r => u.settle c r.tag) l).inFlight := by
  induction rs generalizing l with
  | nil => exact h
  | cons r rs ih => exact ih _ (l.setPlace_writes r.tag _ h)

theorem Ledger.foldl_settle_edges (c : Cause) (rs : List PackRec) (l : Ledger) :
    (rs.foldl (fun u r => u.settle c r.tag) l).edges = if rs = [] then l.edges else l.edges.raise c := by
  have htwice : ∀ e : Edges, (e.raise c).raise c = e.raise c := fun e => by cases c <;> rfl
  induction rs generalizing l with
  | nil => rfl
  | cons r rs ih =>
    rw [List.foldl_cons, ih, if_neg (List.cons_ne_nil r rs)]
    split
    · rfl
    · exact htwice l.edges

/-- A settled record is UNACCOUNTED, and written so. -/
theorem Ledger.foldl_settle_pack (c : Cause) {rs : List PackRec} {l : Ledger} {g : Nat} {r : PackRec}
    (hr : l.pack g = some r) (hg : g ∈ rs.map (·.tag)) :
    (rs.foldl (fun u r => u.settle c r.tag) l).pack g = some { r with place := .unaccounted } ∧
      .pack { r with place := .unaccounted } ∈ (rs.foldl (fun u r => u.settle c r.tag) l).inFlight := by
  have keeps : ∀ (xs : List PackRec) (u : Ledger), u.pack g = some { r with place := .unaccounted } →
      (xs.foldl (fun u r => u.settle c r.tag) u).pack g = some { r with place := .unaccounted } := fun xs => by
    induction xs with
    | nil => exact fun _ h => h
    | cons x xs ih =>
      intro u h
      refine ih _ ?_
      change (u.setPlace x.tag .unaccounted).pack g = _
      rw [Ledger.setPlace_pack]
      split
      · rw [h]; rfl
      · exact h
  induction rs generalizing l with
  | nil => simp at hg
  | cons x xs ih =>
    rw [List.foldl_cons]
    by_cases hx : g = x.tag
    · have hset : (l.settle c x.tag).pack g = some { r with place := .unaccounted } := by
        change (l.setPlace x.tag .unaccounted).pack g = _
        rw [Ledger.setPlace_pack, if_pos hx, hr]
        rfl
      have hwrite : StoreWrite.pack { r with place := .unaccounted } ∈ (l.settle c x.tag).inFlight := by
        change _ ∈ (l.setPlace x.tag .unaccounted).inFlight
        rw [Ledger.setPlace, ← hx, hr]
        exact List.mem_append_right _ (List.mem_singleton.2 rfl)
      exact ⟨keeps xs _ hset, Ledger.foldl_settle_writes c xs _ hwrite⟩
    · have hset : (l.settle c x.tag).pack g = some r := by
        change (l.setPlace x.tag .unaccounted).pack g = _
        rw [Ledger.setPlace_pack, if_neg hx, hr]
      exact ih hset (by simpa [hx] using hg)

/-! ## What a reconciliation leaves -/

/-- A record settled: UNACCOUNTED, written, and with the attention of the bay's pending reconciliation. -/
structure State.SettledIn (t : State) (pending : Reconcile) (g : Nat) (r : PackRec) : Prop where
  pack : t.pack g = some { r with place := .unaccounted }
  write : .pack { r with place := .unaccounted } ∈ t.inFlight
  unaccounted : pending = .restore → t.link.edges.unaccounted = true
  taken : pending = .unmask → t.link.edges.taken = true

section
variable {u t : State} {b : BayNo} {rep : Report} {g : Nat} {r : PackRec} {q : Reconcile}

theorem State.SettledIn.leaves (h : u.SettledIn q g r) {x : Nat} (hl : u.Leaves t b x) (hg : g ≠ x) : t.SettledIn q g r :=
  ⟨(hl.pack g hg).trans h.pack, hl.writes _ h.write, fun hq => hl.unaccounted (h.unaccounted hq),
    fun hq => hl.taken (h.taken hq)⟩

theorem State.SettledIn.of_ledger (h : u.SettledIn q g r) (hl : t.ledger = u.ledger) : t.SettledIn q g r := by
  obtain ⟨hp, hw, hu, ht⟩ := h
  refine ⟨(State.pack_of_ledger hl g).trans hp, ?_, ?_, ?_⟩
  · rw [State.inFlight_of_ledger hl]; exact hw
  · rw [State.edges_of_ledger hl]; exact hu
  · rw [State.edges_of_ledger hl]; exact ht

/-- A loss of the records that still name the bay takes no settlement back. -/
theorem State.SettledIn.loseAt (h : u.SettledIn q g r) (x : BayNo) : (u.loseAt x).SettledIn q g r := by
  obtain ⟨hp, hw, hu, ht⟩ := h
  have hwrites : ∀ (rs : List PackRec) (l : Ledger), StoreWrite.pack { r with place := .unaccounted } ∈ l.inFlight →
      StoreWrite.pack { r with place := .unaccounted } ∈
        (rs.foldl (fun u r => u.setPlace r.tag .unaccounted) l).inFlight := fun rs => by
    induction rs with
    | nil => exact fun _ h => h
    | cons y ys ih => exact fun l h => ih _ (l.setPlace_writes y.tag _ h)
  have hl := u.loseAt_ledger x
  have hkept := Ledger.foldl_setPlace_kept .unaccounted (u.packsAt x) u.ledger
  have hpack := Ledger.foldl_setPlace_pack .unaccounted (u.packsAt x) u.ledger g
  rw [← hl] at hkept hpack
  refine ⟨hpack.trans ?_, (show (u.loseAt x).inFlight = _ from congrArg Ledger.inFlight hl) ▸ hwrites _ _ hw, ?_, ?_⟩
  · rw [State.ledger_pack, hp]
    split <;> rfl
  · rw [show (u.loseAt x).link.edges = _ from hkept.2]; exact hu
  · rw [show (u.loseAt x).link.edges = _ from hkept.2]; exact ht

/-- A record of the bay is the pack that the report shows (R28, R148). -/
def State.ownShown (u : State) (b : BayNo) (rep : Report) : Bool :=
  (u.packsAt b).any fun r => decide (some r.tag = rep.shownTag)

theorem State.settleAt_bays_faults (u : State) (b : BayNo) (o : Option Nat) (c : Cause) :
    (u.settleAt b o c).bays = u.bays ∧ (u.settleAt b o c).faults = u.faults := by
  unfold State.settleAt
  generalize (u.packsAt b).filter (fun r => decide (some r.tag ≠ o)) = rs
  induction rs generalizing u with
  | nil => exact ⟨rfl, rfl⟩
  | cons r rs ih =>
    have h := u.setPlace_sansRecords r.tag .unaccounted
    obtain ⟨hb, hf⟩ := ih ((u.setPlace r.tag .unaccounted).raise c)
    exact ⟨hb.trans (State.bays_of_sansRecords (t := u.setPlace r.tag .unaccounted) h),
      hf.trans (State.faults_of_sansRecords (t := u.setPlace r.tag .unaccounted) h)⟩

/-- What reconciliation does to the bay, its fault record and the records (R23, R148). -/
theorem State.reconcile_shows (hq : (u.bay b).reconcile ≠ .no) :
    (u.reconcile b rep).ledger = (u.settleAt b rep.shownTag (u.bay b).reconcile.cause).ledger ∧
      (u.reconcile b rep).faultRec b = u.faultRec b ∧
      (u.reconcile b rep).bay b = if (u.bay b).state = .fault ∧ u.ownShown b rep = true then u.bay b
        else { u.bay b with reconcile := .no } := by
  obtain ⟨hb, hf⟩ := u.settleAt_bays_faults b rep.shownTag (u.bay b).reconcile.cause
  have hbay : (u.settleAt b rep.shownTag (u.bay b).reconcile.cause).bay b = u.bay b := by rw [State.bay, hb, State.bay]
  have hfault : (u.settleAt b rep.shownTag (u.bay b).reconcile.cause).faultRec b = u.faultRec b := by
    rw [State.faultRec, hf, State.faultRec]
  simp only [State.reconcile, hq, if_false]
  change ((if (u.bay b).state = .fault ∧ u.ownShown b rep = true then _ else _) : State).ledger = _ ∧
    ((if (u.bay b).state = .fault ∧ u.ownShown b rep = true then _ else _) : State).faultRec b = _ ∧
    ((if (u.bay b).state = .fault ∧ u.ownShown b rep = true then _ else _) : State).bay b = _
  split
  · exact ⟨rfl, hfault, hbay⟩
  · refine ⟨rfl, hfault, ?_⟩
    rw [State.modBay_bay, if_pos rfl, hbay]

/-- Reconciliation settles each record that names the bay and is not the shown pack's. -/
theorem State.reconcile_settles (hs : packsSorted u.register.packs = true) (hq : (u.bay b).reconcile ≠ .no)
    (hr : u.pack g = some r) (hplace : r.place = .bay b) (hshown : rep.shownTag ≠ some g) :
    (u.reconcile b rep).SettledIn (u.bay b).reconcile g r := by
  have hmem : g ∈ ((u.packsAt b).filter fun r => decide (some r.tag ≠ rep.shownTag)).map (·.tag) := by
    obtain ⟨y, hy, hyt⟩ := List.mem_map.1 ((State.mem_packsAt_tags hs b hr).2 hplace)
    refine List.mem_map.2 ⟨y, List.mem_filter.2 ⟨hy, ?_⟩, hyt⟩
    simpa [hyt] using Ne.symm hshown
  have hl := (State.reconcile_shows (rep := rep) hq).1.trans (u.settleAt_ledger b rep.shownTag (u.bay b).reconcile.cause)
  have hedges := Ledger.foldl_settle_edges (u.bay b).reconcile.cause
    ((u.packsAt b).filter fun r => decide (some r.tag ≠ rep.shownTag)) u.ledger
  rw [if_neg (fun h => by rw [h] at hmem; simp at hmem), ← hl] at hedges
  have hpack := Ledger.foldl_settle_pack (u.bay b).reconcile.cause (l := u.ledger) hr hmem
  rw [← hl] at hpack
  have hflag : (u.reconcile b rep).link.edges = u.link.edges.raise (u.bay b).reconcile.cause := hedges
  exact ⟨hpack.1, hpack.2, fun h => by rw [hflag, h]; rfl, fun h => by rw [hflag, h]; rfl⟩

/-! ## In FAULT -/

/-- A kind that joins a record with no pack to quarantine. -/
theorem State.joinFault_of_no_tag (h : (u.faultRec b).bind (·.quarantineTag) = none) (k : FaultKind) :
    (u.joinFault b k).ledger = u.ledger ∧ (u.joinFault b k).bay b = u.bay b ∧
      ((u.joinFault b k).faultRec b).bind (·.quarantineTag) = none := by
  unfold State.joinFault
  cases hf : u.faultRec b with
  | none => exact ⟨rfl, rfl, by rw [hf]; rfl⟩
  | some f =>
    simp only
    split
    · exact ⟨rfl, rfl, h⟩
    · have hjoin : ((u.setFault b (some (f.join k))).faultRec b).bind (·.quarantineTag) = none := by
        rw [State.setFault_faultRec, if_pos rfl]
        rw [hf] at h
        refine Eq.trans ?_ h
        unfold FaultRec.join
        split <;> rfl
      rw [State.quarantineFor_of_no_tag _ hjoin]
      exact ⟨rfl, rfl, hjoin⟩

theorem State.foldl_joinFault_of_no_tag (ks : List FaultKind) (h : (u.faultRec b).bind (·.quarantineTag) = none) :
    (ks.foldl (fun s k => s.joinFault b k) u).ledger = u.ledger ∧
      (ks.foldl (fun s k => s.joinFault b k) u).bay b = u.bay b := by
  induction ks generalizing u with
  | nil => exact ⟨rfl, rfl⟩
  | cons k ks ih =>
    obtain ⟨hl, hb, ht⟩ := State.joinFault_of_no_tag h k
    obtain ⟨hl', hb'⟩ := ih ht
    exact ⟨hl'.trans hl, hb'.trans hb⟩

/-- A report at a bay in FAULT whose record has no pack to quarantine: the bay stays, and no settlement is taken back. -/
theorem State.SettledIn.inFault (hst : (u.bay b).state = .fault) (htag : (u.faultRec b).bind (·.quarantineTag) = none)
    (prev : Nat) (on answered : Bool) :
    (((u.presence b rep).testsAndWork b rep prev on answered).bay b) = u.bay b ∧
      ∀ g r q, u.SettledIn q g r → ((u.presence b rep).testsAndWork b rep prev on answered).SettledIn q g r := by
  have hpresence : (u.presence b rep).bay b = u.bay b ∧ ((u.presence b rep).faultRec b).bind (·.quarantineTag) = none ∧
      ∀ g r q, u.SettledIn q g r → (u.presence b rep).SettledIn q g r := by
    unfold State.presence
    split
    · rw [State.presentAt, hst]
      exact ⟨rfl, htag, fun _ _ _ h => h⟩
    · rw [State.absentAt, hst]
      cases hf : u.faultRec b with
      | none =>
        have hsame : u.leftInFault b = u := by simp [State.leftInFault, hf]
        rw [hsame]
        exact ⟨rfl, htag, fun _ _ _ h => h⟩
      | some f =>
        obtain ⟨hb, hrec, hl⟩ := State.leftInFault_shows hf
        refine ⟨hb, ?_, fun g r q h => ?_⟩
        · change ((u.leftInFault b).faultRec b).bind _ = none
          rw [hrec, Option.bind_some, FaultRec.quarantineTag]
          split <;> rfl
        · cases hh : f.held with
          | true => rw [hh, if_pos rfl] at hl; exact (h.loseAt b).of_ledger hl
          | false => rw [hh, if_neg (by simp)] at hl; exact h.of_ledger hl
  obtain ⟨hb, ht, hsettled⟩ := hpresence
  have hwork : (u.presence b rep).testsAndWork b rep prev on answered =
      ((u.presence b rep).kindsFound b rep answered).foldl (fun s k => s.joinFault b k) (u.presence b rep) := by
    simp only [State.testsAndWork, hb, hst, if_true]
  rw [hwork]
  obtain ⟨hl, hbay⟩ := State.foldl_joinFault_of_no_tag ((u.presence b rep).kindsFound b rep answered) ht
  exact ⟨hbay.trans hb, fun g r q h => (hsettled g r q h).of_ledger hl⟩

end

/-! ## The statement -/

section
variable {s : State} {b : BayNo} {rep : Report}

theorem State.reported_settles (ha : packsSorted s.register.packs = true) (hq : (s.bay b).reconcile ≠ .no) {g : Nat}
    {r : PackRec} (hr : s.pack g = some r) (hplace : r.place = .bay b) (hshown : rep.shownTag ≠ some g) :
    ((s.reported b rep).reconcile b rep).SettledIn (s.bay b).reconcile g r := by
  have h := State.reconcile_settles (u := s.reported b rep) (rep := rep) (by rw [State.reported_register]; exact ha)
    (by rw [State.reported_reconcile]; exact hq) ((s.reported_pack b rep g).trans hr) hplace hshown
  rw [State.reported_reconcile] at h
  exact h

/-- A VACANT bay (R23). -/
theorem State.reconciled_vacant (ha : packsSorted s.register.packs = true) (hq : (s.bay b).reconcile ≠ .no)
    (hv : (s.bay b).state = .vacant) : ((s.delivered b rep).bay b).reconcile = .no ∧
      ∀ g r, s.pack g = some r → r.place = .bay b → rep.shownTag ≠ some g →
        (s.delivered b rep).SettledIn (s.bay b).reconcile g r := by
  have hq' : ((s.reported b rep).bay b).reconcile ≠ .no := by rw [State.reported_reconcile]; exact hq
  obtain ⟨-, -, hbay⟩ := State.reconcile_shows (rep := rep) hq'
  rw [if_neg (by rw [State.reported_state, hv]; simp)] at hbay
  have hst : (((s.reported b rep).reconcile b rep).bay b).state = .vacant := by
    rw [hbay]
    exact (s.reported_state b rep).trans hv
  have hno : (((s.reported b rep).reconcile b rep).bay b).reconcile = .no := by rw [hbay]
  have hsettles := fun g r hr hp hs => State.reported_settles (b := b) (rep := rep) (g := g) (r := r) ha hq hr hp hs
  obtain ⟨prev, hd⟩ := State.delivered_eq (s := s) (b := b) (rep := rep) (by simp [hv])
  rw [State.seen] at hd
  generalize (s.reported b rep).reconcile b rep = w at hst hno hsettles hd
  cases hp : rep.present with
  | false =>
    have hpres : w.presence b rep = w := by simp [State.presence, hp, State.absentAt, hst]
    rw [hpres, if_pos hst] at hd
    rw [hd]
    exact ⟨(w.handAllReady_leaves b 0).reconcile.trans hno,
      fun g r hr hpl hsh => (hsettles g r hr hpl hsh).of_ledger w.handAllReady_ledger⟩
  | true =>
    have hpres : w.presence b rep = w.dock b := by simp [State.presence, hp, State.presentAt, hst]
    have hdock := w.dock_bay_outline b
    have hdst : ((w.dock b).bay b).state = .identify := (congrArg Bay.state hdock :)
    have hdid : ((w.dock b).bay b).identity = .empty := (congrArg Bay.identity hdock :)
    have hleaves := ((State.Leaves.of_same (g := rep.tag) (w.dock_ledger b) (Bay.reconcile_of_outline hdock rfl)).trans
      (State.testsAndWork_leaves hdst hdid prev (s.line b).answeredOn (s.line b).sent.drive.on)).trans
        (State.handAllReady_leaves _ b rep.tag)
    rw [hpres, if_neg (by simp [hdst])] at hd
    rw [hd]
    refine ⟨hleaves.reconcile.trans hno, fun g r hr hpl hsh => (hsettles g r hr hpl hsh).leaves hleaves fun hg => ?_⟩
    exact hsh (by rw [Report.shownTag, hp, hg]; rfl)

/-- A bay in FAULT whose record has no pack to quarantine (R148). -/
theorem State.reconciled_fault (ha : packsSorted s.register.packs = true) (hq : (s.bay b).reconcile ≠ .no)
    (hf : (s.bay b).state = .fault) (htag : (s.faultRec b).bind (·.quarantineTag) = none) :
    (((s.delivered b rep).bay b).reconcile = .no ↔ s.ownShown b rep = false) ∧
      ∀ g r, s.pack g = some r → r.place = .bay b → rep.shownTag ≠ some g →
        (s.delivered b rep).SettledIn (s.bay b).reconcile g r := by
  have hq' : ((s.reported b rep).bay b).reconcile ≠ .no := by rw [State.reported_reconcile]; exact hq
  have hown : (s.reported b rep).ownShown b rep = s.ownShown b rep := by
    rw [State.ownShown, State.reported_packsAt, State.ownShown]
  obtain ⟨-, hrec, hbay⟩ := State.reconcile_shows (rep := rep) hq'
  rw [State.reported_faultRec] at hrec
  rw [State.reported_state, hown] at hbay
  have hst : (((s.reported b rep).reconcile b rep).bay b).state = .fault := by
    rw [hbay]
    split <;> exact (s.reported_state b rep).trans hf
  have hno : (((s.reported b rep).reconcile b rep).bay b).reconcile = .no ↔ s.ownShown b rep = false := by
    rw [hbay]
    cases s.ownShown b rep with
    | true => simp [hf, hq']
    | false => simp
  have hsettles := fun g r hr hp hs => State.reported_settles (b := b) (rep := rep) (g := g) (r := r) ha hq hr hp hs
  obtain ⟨prev, hd⟩ := State.delivered_eq (s := s) (b := b) (rep := rep) (by simp [hf])
  rw [State.seen] at hd
  generalize (s.reported b rep).reconcile b rep = w at hst hno hsettles hd hrec
  obtain ⟨hsame, hkeeps⟩ := State.SettledIn.inFault (rep := rep) hst (by rw [hrec]; exact htag) prev
    (s.line b).answeredOn (s.line b).sent.drive.on
  have hpresence : ((w.presence b rep).bay b).state ≠ .vacant := by
    unfold State.presence
    split
    · rw [State.presentAt, hst]; simp [hst]
    · rw [State.absentAt, hst]
      cases hfr : w.faultRec b with
      | none => simp [State.leftInFault, hfr, hst]
      | some f => simp [(State.leftInFault_shows hfr).1, hst]
  rw [if_neg hpresence] at hd
  rw [hd]
  refine ⟨?_, fun g r hr hpl hsh => (hkeeps g r _ (hsettles g r hr hpl hsh)).of_ledger (State.handAllReady_ledger _)⟩
  rw [(State.handAllReady_leaves _ b 0).reconcile, hsame]
  exact hno

theorem State.ownShown_eq_false (hs : packsSorted s.register.packs = true) : s.ownShown b rep = false ↔
    ∀ r, s.pack rep.tag = some r → r.place = .bay b → rep.present = false := by
  have hiff : s.ownShown b rep = true ↔ ∃ r, s.pack rep.tag = some r ∧ r.place = .bay b ∧ rep.present = true := by
    have hshown : ∀ g, some g = rep.shownTag ↔ g = rep.tag ∧ rep.present = true := fun g => by
      unfold Report.shownTag
      split <;> simp_all
    simp only [State.ownShown, List.any_eq_true, decide_eq_true_eq, State.packsAt, List.mem_filter, hshown]
    constructor
    · rintro ⟨r, ⟨hr, hp⟩, ht, hpres⟩
      exact ⟨r, ht ▸ findPack_of_mem hs hr, hp, hpres⟩
    · rintro ⟨r, hr, hp, hpres⟩
      obtain ⟨hmem, ht⟩ := mem_of_findPack hr
      exact ⟨r, ⟨hmem, hp⟩, ht, hpres⟩
  rw [← Bool.not_eq_true, hiff]
  simp

end

/-- Settles O46: the credit, a removal, and a reconciliation. -/
theorem goodReportIsCredited : Obligations.GoodReportIsCredited := by
  refine ⟨fun s x bytes rep hrun hslot hlen htime hjudge => ?_, fun s x bytes rep hhears hbays hagrees hrec hp => ?_,
    fun s x bytes rep hhears hagrees hrec hstate => ?_⟩
  · obtain ⟨h1, hlines, hcarried, hlatest, hmasked, hothers, hconfig, hres, hreply⟩ := s.delivered_credited x.bay rep
    have hline : ∀ b, (s.delivered x.bay rep).line b = if b = x.bay then (s.line x.bay).heard else s.line b := fun b => by
      rw [State.line, hlines]
      exact s.credited_line x.bay b
    have hself := (hline x.bay).trans (if_pos rfl)
    exact ⟨_, State.exec_reportReceived ⟨hrun, hslot, hlen, htime, hjudge⟩, h1, congrArg LineRec.misses hself,
      congrArg LineRec.lostExpiry hself, hcarried.trans (s.credited_carried x.bay), congrArg LineRec.answeredOn hself,
      hlatest, hmasked, fun b hb => ⟨(hothers b hb).1, (hline b).trans (if_neg hb), (hothers b hb).2.1,
          (hothers b hb).2.2⟩,
      hconfig, hres, hreply⟩
  · exact ⟨_, State.exec_reportReceived hhears, State.delivered_packLeft hbays hagrees hrec hp⟩
  · refine ⟨_, State.exec_reportReceived hhears, ?_⟩
    rcases hstate with hv | ⟨hf, htag⟩
    · obtain ⟨hno, hsettles⟩ := State.reconciled_vacant (rep := rep) hagrees.1 hrec hv
      refine ⟨fun g r hr hplace hshown => ?_, fun _ => hno, fun h => by simp [hv] at h⟩
      obtain ⟨h1, h2, h3, h4⟩ := hsettles g r hr hplace hshown
      exact ⟨h1, h2, h3, h4⟩
    · obtain ⟨hno, hsettles⟩ := State.reconciled_fault (rep := rep) hagrees.1 hrec hf htag
      refine ⟨fun g r hr hplace hshown => ?_, fun h => by simp [hf] at h,
        fun _ => hno.trans (State.ownShown_eq_false hagrees.1)⟩
      obtain ⟨h1, h2, h3, h4⟩ := hsettles g r hr hplace hshown
      exact ⟨h1, h2, h3, h4⟩

end Sys2Proof.Machine
end

section
/-! SUPPORT. The allocator while nothing is requested or granted: a pass changes nothing, and a level change the level
alone
(R96, R102). -/

namespace Sys2Proof.Machine

/-- Nothing is requested or granted, and no turn runs. -/
def State.AllocIdle (s : State) : Prop :=
  ∀ b, (s.grant b).request = 0 ∧ (s.grant b).granted = 0 ∧ (s.grant b).turnExpiry = none

section
variable {s : State}

theorem State.AllocIdle.order (h : s.AllocIdle) : s.order = [] := by
  have hl : ∀ l, s.levelOrder l = [] := fun l => by
    simp [State.levelOrder, (h _).1]
  simp [State.order, hl]

/-- The stages of a pass leave the granted units at 0. -/
theorem State.AllocIdle.stages (h : s.AllocIdle) (b : BayNo) :
    s.afterCut[b] = 0 ∧ s.afterFill[b] = 0 ∧ s.afterPass[b] = 0 := by
  have hkeep : (s.keep s.grantedUnits)[b] = 0 := by
    simp [State.keep, State.grantedUnits, (h b).2.1]
  have hfeeder : ∀ (fs : List FeederNo) (g : Grants), fs.foldl s.cutFeeder g = g := fun fs => by
    induction fs with
    | nil => exact fun _ => rfl
    | cons f fs ih =>
      intro g
      rw [List.foldl_cons, ih]
      simp [State.cutFeeder, State.feederOrder, h.order, cutWalks, cutToFloor, cutToZero]
  have hcut : s.afterCut = s.keep s.grantedUnits := by
    rw [State.afterCut, State.cut, hfeeder]
    simp [State.cutSite, h.order, cutWalks, cutToFloor, cutToZero]
  have hfill : s.afterFill = s.afterCut := by
    rw [State.afterFill, State.fill]
    split
    · rfl
    · simp [State.fillOrder, h.order]
  have hpass : s.afterPass = s.afterFill := by
    simp [State.afterPass, State.preempt, h.order]
  rw [hpass, hfill, hcut]
  exact ⟨hkeep, hkeep, hkeep⟩

/-- A pass changes nothing. -/
theorem State.AllocIdle.pass (h : s.AllocIdle) : s.pass = s := by
  have hgrant : ∀ b, s.grantAfterPass b = s.grant b := fun b => by
    obtain ⟨hc, hf, hp⟩ := h.stages b
    obtain ⟨-, hg, ht⟩ := h b
    rw [State.grantAfterPass, hc, hf, hp]
    simp [Grant.afterPass, ← hg, ← ht]
  have hgrants : Vector.ofFn s.grantAfterPass = s.alloc.grants := by
    refine Vector.ext fun i hi => ?_
    rw [Vector.getElem_ofFn, hgrant]
    rfl
  have henter : s.enterPass = s := by
    rw [State.enterPass, hgrants]
  have hnone : s.regranted = [] := by
    rw [State.regranted, List.filter_eq_nil_iff]
    intro b _
    simp [(h.stages b).2.2, (h b).2.1]
  rw [State.pass, hnone, henter]
  rfl

/-- A change of a grant entry that is none leaves the state. -/
theorem State.modGrant_of_same {b : BayNo} {f : Grant → Grant} (h : f (s.grant b) = s.grant b) : s.modGrant b f = s := by
  have hset : s.alloc.grants.set b (f s.alloc.grants[b]) = s.alloc.grants := by
    rw [show f s.alloc.grants[b] = s.alloc.grants[b] from h]
    exact Vector.set_getElem_self _
  rw [State.modGrant, hset]

/-- A bay's level recomputed. -/
theorem State.AllocIdle.relevel (h : s.AllocIdle) (b : BayNo) :
    s.relevel b = s.modGrant b fun e => { e with level := s.levelOf b } := by
  simp only [State.relevel]
  split
  · next hl => exact (State.modGrant_of_same (by rw [hl])).symm
  · have hidle : (s.modGrant b fun e => { e with level := s.levelOf b }).AllocIdle := fun x => by
      rw [State.modGrant_grant]
      split
      · next hx => rw [← hx]; exact h x
      · exact h x
    rw [State.enterLevel, if_neg (by simp [(h b).1])]
    exact hidle.pass

/-- The level of a bay that is not in CHARGE (R96). -/
theorem State.levelOf_of_idle {b : BayNo} (h : (s.bay b).state ≠ .charge) : s.levelOf b = (s.bay b).cfg.baseLevel := by
  unfold State.levelOf
  split
  · next hc _ => exact absurd hc h
  · rfl

/-- A state with other grant entries. -/
def State.withGrants (s : State) (v : Vector Grant 24) : State := { s with alloc := { s.alloc with grants := v } }

/-- The levels of some bays recomputed while none is in CHARGE. -/
theorem State.AllocIdle.foldl_relevel (hs : s.AllocIdle) (hb : ∀ b, (s.bay b).state ≠ .charge) (l : List BayNo) :
    ∃ v, l.foldl State.relevel s = s.withGrants v ∧ ∀ b : BayNo,
      v[b] = if b ∈ l then { s.grant b with level := (s.bay b).cfg.baseLevel } else s.grant b := by
  induction l generalizing s with
  | nil => exact ⟨s.alloc.grants, rfl, fun _ => rfl⟩
  | cons x xs ih =>
    have hstep : s.relevel x = s.modGrant x fun e => { e with level := (s.bay x).cfg.baseLevel } := by
      rw [hs.relevel x, State.levelOf_of_idle (hb x)]
    have hidle : (s.modGrant x fun e => { e with level := (s.bay x).cfg.baseLevel }).AllocIdle := fun y => by
      rw [State.modGrant_grant]
      split
      · next hy => rw [← hy]; exact hs y
      · exact hs y
    obtain ⟨v, hv, hg⟩ := ih hidle hb
    refine ⟨v, ?_, fun b => ?_⟩
    · rw [List.foldl_cons, hstep, hv]
      rfl
    · rw [hg b, State.modGrant_grant]
      by_cases hbx : b = x
      · simp [hbx]
      · simp [hbx]

end

end Sys2Proof.Machine
end

section
/-! SUPPORT. CLEAR block by block (R24, R50, R111, R138, R152, R168, R181): the records and their writes, the allocator,
and the
bays. -/

namespace Sys2Proof.Machine

section
variable {s : State}

/-! ## The bay sequencers -/

/-- A bay after CLEAR, but for its drive (R50). -/
def Bay.cleared (y : Bay) : Bay :=
  if y.state.restarts then
    (if y.showsPack then { y.emptied with session := none, reconcile := .no, state := .identify }
      else { y.emptied with session := none, state := .vacant })
  else y

/-- A bay with the drive that its state and its granted units give (Table 2-5). -/
def Bay.driven (y : Bay) (granted : Nat) : Bay := { y with drive := driveOf y granted }

theorem State.modBay_modBay (s : State) (b : BayNo) (f g : Bay → Bay) :
    (s.modBay b f).modBay b g = s.modBay b fun y => g (f y) := by
  simp [State.modBay]

theorem State.modBay_congr (s : State) (b : BayNo) {f g : Bay → Bay} (h : f (s.bay b) = g (s.bay b)) :
    s.modBay b f = s.modBay b g := by
  simp only [State.bay] at h
  simp only [State.modBay, h]

theorem State.modBay_id (s : State) (b : BayNo) : (s.modBay b fun y => y) = s := by
  have hset : s.bays.set b s.bays[b] = s.bays := Vector.set_getElem_self _
  rw [State.modBay, hset]

theorem State.clearBay_eq (s : State) (b : BayNo) : s.clearBay b = (s.modBay b Bay.cleared).redrive b := by
  unfold State.clearBay
  split
  · next hr =>
    have hshows : ((s.modBay b fun y => { y with session := none }).bay b).showsPack = (s.bay b).showsPack := by
      rw [State.modBay_bay, if_pos rfl]
      rfl
    rw [State.reidentify, hshows]
    split
    · next hp =>
      rw [State.toFreshIdentify, State.moveTo, State.modBay_modBay, State.modBay_modBay,
        State.modBay_congr s b (g := Bay.cleared)]
      rw [Bay.cleared, if_pos hr, if_pos hp]
      rfl
    · next hp =>
      rw [State.toVacant, State.moveTo, State.modBay_modBay, State.modBay_modBay,
        State.modBay_congr s b (g := Bay.cleared)]
      rw [Bay.cleared, if_pos hr, if_neg hp]
      rfl
  · next hr =>
    rw [State.modBay_congr s b (f := Bay.cleared) (g := fun y => y) (by rw [Bay.cleared, if_neg hr]), State.modBay_id]

/-- A state with other sequencers and prompt list. -/
def State.withBays (s : State) (v : Vector Bay 24) (q : List BayNo) : State :=
  { s with bays := v, scanner := { s.scanner with prompt := q } }

theorem State.redrive_eq (s : State) (b : BayNo) :
    ∃ q, s.redrive b = s.withBays (s.bays.set b ((s.bay b).driven (s.grant b).granted)) q := by
  simp only [State.redrive]
  split
  · unfold State.promptAdd
    split
    · exact ⟨s.scanner.prompt, rfl⟩
    · exact ⟨_, rfl⟩
  · exact ⟨s.scanner.prompt, rfl⟩

theorem State.clearBay_withBays (s : State) (b : BayNo) :
    ∃ q, s.clearBay b = s.withBays (s.bays.set b ((s.bay b).cleared.driven (s.grant b).granted)) q := by
  obtain ⟨q, h⟩ := (s.modBay b Bay.cleared).redrive_eq b
  refine ⟨q, ?_⟩
  rw [State.clearBay_eq, h, State.modBay_bay, if_pos rfl]
  simp [State.modBay, State.withBays, State.grant]

theorem State.withBays_bay (s : State) (v : Vector Bay 24) (q : List BayNo) (x : BayNo) :
    (s.withBays v q).bay x = v[x] := rfl

/-- CLEAR at some bays, each once. -/
theorem State.foldl_clearBay (l : List BayNo) (hl : l.Nodup) (s : State) :
    ∃ v q, l.foldl State.clearBay s = s.withBays v q ∧
    ∀ b : BayNo, v[b] = if b ∈ l then (s.bay b).cleared.driven (s.grant b).granted else s.bay b := by
  induction l generalizing s with
  | nil => exact ⟨s.bays, s.scanner.prompt, rfl, fun _ => rfl⟩
  | cons x xs ih =>
    obtain ⟨hx, hxs⟩ := List.nodup_cons.1 hl
    obtain ⟨q, hstep⟩ := s.clearBay_withBays x
    obtain ⟨v, q', hv, hb⟩ := ih hxs (s.clearBay x)
    rw [hstep] at hv hb
    refine ⟨v, q', ?_, fun b => ?_⟩
    · rw [List.foldl_cons, hstep, hv]
      rfl
    · rw [hb b, State.withBays_bay]
      change (if b ∈ xs then Bay.driven (Bay.cleared _) (s.grant b).granted else _) = _
      by_cases hbx : b = x
      · subst hbx
        simp [hx]
      · have hne : (s.bays.set x ((s.bay x).cleared.driven (s.grant x).granted))[b] = s.bay b := by
          simp [State.bay, Fin.val_inj, Ne.symm hbx]
        rw [hne]
        simp [hbx]

/-- What a cleared bay shows (R50). -/
theorem Bay.cleared_shows {y : Bay} (hs : y.session.isSome = y.inSession) :
    y.cleared.session = none ∧ y.cleared.cfg = y.cfg ∧ y.cleared.latest = y.latest ∧
      y.cleared.state = (if y.state.restarts then (if y.showsPack then .identify else .vacant) else y.state) ∧
      (y.state.restarts = true → y.cleared.identity = .empty ∧ y.cleared.preIssue = none ∧ y.cleared.dockTime = none) ∧
      (y.state.restarts = false → y.cleared = y) := by
  unfold Bay.cleared
  cases hr : y.state.restarts with
  | true =>
    simp only [if_true]
    split <;> exact ⟨rfl, rfl, rfl, rfl, fun _ => ⟨rfl, rfl, rfl⟩, fun h => by cases h⟩
  | false =>
    have hnone : y.session = none := by
      have hin : y.inSession = false := by
        unfold BayState.restarts at hr
        unfold Bay.inSession
        cases hst : y.state <;> simp_all
      rw [hin] at hs
      simpa using hs
    exact ⟨hnone, rfl, rfl, rfl, fun h => by simp at h, fun _ => rfl⟩

/-- A cleared bay takes no power. -/
theorem Bay.cleared_unpowered (y : Bay) : y.cleared.unpowered := by
  unfold Bay.cleared BayState.restarts
  cases hst : y.state <;> simp [Bay.unpowered, hst]
  all_goals split <;> simp

theorem driveOf_off {y : Bay} (h : y.unpowered) (n : Nat) : (driveOf y n).on = false := by
  obtain ⟨hc, hm⟩ := h
  unfold driveOf
  split <;> simp_all

/-! ## The charges of the sessions that end -/

theorem State.saveChargeAt_inFlight (s : State) (b : BayNo) : ∃ ws, s.saveChargeAt b =
    { s with inFlight := s.inFlight ++ ws } ∧ ∀ g r, (s.bay b).identity = .registered g → s.pack g = some r →
      .charge g r.charge ∈ ws := by
  unfold State.saveChargeAt
  cases hi : (s.bay b).identity with
  | registered t =>
    simp only
    cases hr : s.pack t with
    | none =>
      refine ⟨[], by simp [State.saveCharge, hr], fun g r hg hg' => ?_⟩
      cases hg
      rw [hr] at hg'
      cases hg'
    | some r =>
      refine ⟨[.charge t r.charge], by simp [State.saveCharge, hr, State.write], fun g r' hg hg' => ?_⟩
      cases hg
      rw [hr] at hg'
      cases hg'
      exact List.mem_singleton.2 rfl
  | _ => exact ⟨[], by simp, fun g r hg => by cases hg⟩

theorem State.foldl_saveChargeAt (l : List BayNo) (s : State) : ∃ ws, l.foldl State.saveChargeAt s =
    { s with inFlight := s.inFlight ++ ws } ∧ ∀ b ∈ l, ∀ g r, (s.bay b).identity = .registered g → s.pack g = some r →
      .charge g r.charge ∈ ws := by
  induction l generalizing s with
  | nil => exact ⟨[], by simp, by simp⟩
  | cons x xs ih =>
    obtain ⟨ws, hstep, hw⟩ := s.saveChargeAt_inFlight x
    obtain ⟨ws', hv, hw'⟩ := ih (s.saveChargeAt x)
    rw [hstep] at hv hw'
    refine ⟨ws ++ ws', ?_, fun b hb g r hg hr => ?_⟩
    · rw [List.foldl_cons, hstep, hv]
      simp
    · rcases List.mem_cons.1 hb with rfl | hb
      · exact List.mem_append_left _ (hw g r hg hr)
      · exact List.mem_append_right _ (hw' b hb g r hg hr)

theorem State.clearCharges_eq (s : State) : ∃ ws, s.clearCharges = { s with inFlight := s.inFlight ++ ws } ∧
    ∀ b g r, (s.bay b).session.isSome = true → (s.bay b).identity = .registered g → s.pack g = some r →
      .charge g r.charge ∈ ws := by
  obtain ⟨ws, h, hw⟩ := State.foldl_saveChargeAt (allBays.filter fun b => (s.bay b).session.isSome) s
  exact ⟨ws, h, fun b g r hs hg hr => hw b (List.mem_filter.2 ⟨mem_allBays b, hs⟩) g r hg hr⟩

/-! ## The packs of TAKEN parts -/

theorem State.setPlace_withPacks (s : State) (g : Nat) (p : Place) : ∃ ws, s.setPlace g p =
    s.withPacks (s.register.packs.map fun q => if q.tag = g then { q with place := p } else q) ws ∧
      ∀ r, s.pack g = some r → .pack { r with place := p } ∈ ws := by
  cases hr : s.pack g with
  | some r =>
    refine ⟨[.pack { r with place := p }], State.setPlace_eq hr p, fun r' h => ?_⟩
    cases h
    exact List.mem_singleton.2 rfl
  | none =>
    refine ⟨[], ?_, fun r h => by cases h⟩
    have hn : (s.modPack g fun q => { q with place := p }).pack g = none := by
      rw [State.modPack_pack s g g (f := fun q => { q with place := p }) fun _ => rfl, if_pos rfl, hr]
      rfl
    simp only [State.setPlace, State.savePack, hn]
    simp [State.modPack, State.withPacks]

theorem State.foldl_setPlace (p : Place) (gs : List Nat) (s : State) : ∃ ws, gs.foldl (fun t g => t.setPlace g p) s =
    s.withPacks (s.register.packs.map fun q => if q.tag ∈ gs then { q with place := p } else q) ws ∧
      ∀ g ∈ gs, ∀ r, s.pack g = some r → .pack { r with place := p } ∈ ws := by
  induction gs generalizing s with
  | nil => exact ⟨[], by simp [State.withPacks], by simp⟩
  | cons x xs ih =>
    obtain ⟨ws, hstep, hw⟩ := s.setPlace_withPacks x p
    obtain ⟨ws', hv, hw'⟩ := ih (s.setPlace x p)
    refine ⟨ws ++ ws', ?_, fun g hg r hr => ?_⟩
    · rw [List.foldl_cons, hv, hstep]
      simp only [State.withPacks, List.map_map, List.append_assoc]
      congr 2
      refine List.map_congr_left fun q _ => ?_
      by_cases hq : q.tag = x <;> by_cases hqs : q.tag ∈ xs <;> simp [Function.comp, hq]
    · by_cases hgx : g = x
      · subst hgx
        exact List.mem_append_left _ (hw r hr)
      · refine List.mem_append_right _ (hw' g ((List.mem_cons.1 hg).resolve_left hgx) r ?_)
        have h := congrArg (Ledger.pack · g) (s.setPlace_ledger x p)
        refine h.trans ((Ledger.setPlace_pack s.ledger x g p).trans ?_)
        rw [if_neg hgx]
        exact hr

/-- A pack of a TAKEN part (R138). -/
def State.isTaken (s : State) (r : PackRec) : Bool :=
  s.disp.issues.any fun i => i.parts.any fun p => decide (p.pack = some r.tag ∧ p.state = .taken)

theorem State.mem_takenTags (s : State) (r : PackRec) :
    r.tag ∈ s.tagsOfParts (fun p => decide (p.state = .taken)) ↔ s.isTaken r = true := by
  simp only [State.tagsOfParts, State.isTaken, List.mem_filterMap, List.mem_flatMap, List.mem_filter, decide_eq_true_eq,
    List.any_eq_true]
  constructor
  · rintro ⟨p, ⟨i, hi, hp, hs⟩, ht⟩
    exact ⟨i, hi, p, hp, ht, hs⟩
  · rintro ⟨i, hi, p, hp, ht, hs⟩
    exact ⟨p, ⟨i, hi, hp, hs⟩, ht⟩

/-- The records after CLEAR (R24, R138). -/
def State.clearedPacks (s : State) : List PackRec :=
  s.register.packs.map fun r => { r with mark := none, place := if s.isTaken r then .unaccounted else r.place }

theorem State.clearLists_eq (s : State) : ∃ ws, s.clearLists = { s with
      register := { s.register with packs := s.clearedPacks }
      disp := { s.disp with issues := [], reservations := [] }
      inFlight := s.inFlight ++ ws } ∧
    ∀ g r, s.pack g = some r → s.isTaken r = true → .pack { r with mark := none, place := .unaccounted } ∈ ws := by
  obtain ⟨ws, h, hw⟩ := State.foldl_setPlace .unaccounted (s.tagsOfParts fun p => decide (p.state = .taken)) s.clearMarks
  have hpacks : (s.clearMarks.register.packs.map fun q =>
      if q.tag ∈ s.tagsOfParts (fun p => decide (p.state = .taken)) then { q with place := .unaccounted } else q) =
        s.clearedPacks := by
    simp only [State.clearMarks, State.clearedPacks, List.map_map]
    refine List.map_congr_left fun r _ => ?_
    by_cases ht : s.isTaken r = true
    · simp [Function.comp, (s.mem_takenTags r).2 ht, ht]
    · simp [Function.comp, mt (s.mem_takenTags r).1 ht, ht]
  rw [hpacks] at h
  refine ⟨ws, ?_, fun g r hr ht => ?_⟩
  · rw [State.clearLists, h]
    rfl
  · have hmem : g ∈ s.tagsOfParts fun p => decide (p.state = .taken) := by
      rw [← (mem_of_findPack hr).2]
      exact (s.mem_takenTags r).2 ht
    have hmark : s.clearMarks.pack g = some { r with mark := none } := by
      have hmap : s.clearMarks.pack g = (s.pack g).map fun r => { r with mark := none } := by
        simp only [State.pack, findPack, State.clearMarks, List.find?_map]
        rfl
      rw [hmap, hr]
      rfl
    exact hw g hmem _ hmark

end

end Sys2Proof.Machine
end

section
/-! SUPPORT. CLEAR as a whole (R181), with the statement about it. -/

namespace Sys2Proof.Machine

section
variable {s : State}

/-! ## The shortages computed at the end -/

/-- A class joins the set of SHORT where it becomes short, and no other does (R178). -/
theorem State.computeShort_shortSet (s : State) (c k : ClassNo) : (s.computeShort c).link.shortSet[k] =
    (s.link.shortSet[k] || (decide (k = c) && s.isShort k && !s.disp.short[k])) := by
  rw [show (s.computeShort c).link.shortSet = _ from congrArg Books.shortSet (s.computeShort_books c)]
  by_cases hk : k = c
  · subst hk
    cases hv : s.isShort k <;> cases ho : s.disp.short[k] <;> simp
  · split <;> simp [hk, Fin.val_inj, Ne.symm hk]

theorem State.computeShorts_shortSet (cs : List ClassNo) (hc : cs.Nodup) (s : State) (k : ClassNo) :
    (cs.foldl State.computeShort s).link.shortSet[k] =
      (s.link.shortSet[k] || (decide (k ∈ cs) && s.isShort k && !s.disp.short[k])) := by
  induction cs generalizing s with
  | nil => simp
  | cons c cs ih =>
    obtain ⟨hn, hcs⟩ := List.nodup_cons.1 hc
    rw [List.foldl_cons, ih hcs, State.computeShort_shortSet, State.computeShort_isShort, State.computeShort_short]
    by_cases hk : k = c
    · subst hk; simp [hn]
    · simp [hk]

/-- A state with every ready count entered as it is. -/
def State.readied (s : State) : State := { s with disp := { s.disp with ready := Vector.ofFn s.readyCount } }

/-- The end of the event with every class computed, while no bay is in CHARGE (R117). -/
theorem State.closeEvent_of_idle (h : ∀ b, (s.bay b).state ≠ .charge) : ∃ v w,
    s.closeEvent allClasses = s.readied.setShorts v w ∧
      ∀ c : ClassNo, v[c] = s.readied.isShort c ∧ w[c] = (s.link.shortSet[c] || (v[c] && !s.disp.short[c])) := by
  have hall : allClasses.filter (fun c => decide (s.readyCount c ≠ s.disp.ready[c]) || decide (c ∈ allClasses)) =
      allClasses := List.filter_eq_self.2 fun c hc => by simp [hc]
  have hclose : s.closeEvent allClasses = allClasses.foldl State.computeShort s.readied := by
    simp only [State.closeEvent]
    rw [hall, State.setReadys_eq]
    rfl
  obtain ⟨v, w, hvw⟩ := State.computeShorts_of_idle (s := s.readied) h allClasses
  refine ⟨v, w, hclose.trans hvw, fun c => ?_⟩
  have hv : v[c] = s.readied.isShort c := by
    have h' := State.computeShorts_short allClasses s.readied c
    rw [hvw, if_pos (mem_allClasses c)] at h'
    exact h'
  refine ⟨hv, ?_⟩
  have h' := State.computeShorts_shortSet allClasses (List.nodup_finRange 8) s.readied c
  rw [hvw] at h'
  rw [hv]
  simp only [mem_allClasses, decide_true, Bool.true_and] at h'
  exact h'

/-! ## All of it -/

/-- The state of CLEAR before the bays: the records, lists, fault records and grants (R24, R111, R138, R152). -/
def State.clearedBase (s : State) (ws : List StoreWrite) : State :=
  { s with
    register := { s.register with packs := s.clearedPacks }
    alloc := { s.alloc with
      shed := none, queues := Vector.replicate 4 [], grants := Vector.ofFn fun b => (s.grant b).cleared }
    disp := { s.disp with issues := [], reservations := [] }
    faults := Vector.replicate 24 none
    link := { s.link with edges := Edges.clear, shortSet := Vector.replicate 8 false }
    inFlight := s.inFlight ++ ws }

theorem State.clearedBase_eq (s : State) : ∃ ws,
    s.clearEdges.clearCharges.clearAlloc.clearLists.clearFaults = s.clearedBase ws ∧
    (∀ b g r, (s.bay b).session.isSome = true → (s.bay b).identity = .registered g → s.pack g = some r →
      .charge g r.charge ∈ ws) ∧
    ∀ g r, s.pack g = some r → s.isTaken r = true → .pack { r with mark := none, place := .unaccounted } ∈ ws := by
  obtain ⟨ws, hcharges, hw⟩ := s.clearEdges.clearCharges_eq
  obtain ⟨ws', hlists, hw'⟩ := s.clearEdges.clearCharges.clearAlloc.clearLists_eq
  rw [hcharges] at hlists hw'
  refine ⟨ws ++ ws', ?_, fun b g r hs hg hr => List.mem_append_left _ (hw b g r hs hg hr),
    fun g r hr ht => List.mem_append_right _ (hw' g r hr ht)⟩
  rw [hcharges, hlists]
  simp only [State.clearFaults, State.clearedBase, ← List.append_assoc]
  rfl

theorem State.withGrants_grant (s : State) (g : Vector Grant 24) (x : BayNo) : (s.withGrants g).grant x = g[x] := rfl
theorem State.withGrants_bay (s : State) (g : Vector Grant 24) (x : BayNo) : (s.withGrants g).bay x = s.bay x := rfl
theorem State.withGrants_disp (s : State) (g : Vector Grant 24) : (s.withGrants g).disp = s.disp := rfl
theorem State.withGrants_link (s : State) (g : Vector Grant 24) : (s.withGrants g).link = s.link := rfl
theorem State.withBays_disp (s : State) (v : Vector Bay 24) (q : List BayNo) : (s.withBays v q).disp = s.disp := rfl
theorem State.withBays_link (s : State) (v : Vector Bay 24) (q : List BayNo) : (s.withBays v q).link = s.link := rfl

theorem State.clearedBase_allocIdle (s : State) (ws : List StoreWrite) (v : Vector Bay 24) (q : List BayNo) :
    ((s.clearedBase ws).withBays v q).AllocIdle := fun b => by
  have hg : ((s.clearedBase ws).withBays v q).grant b = (s.grant b).cleared := by
    simp [State.clearedBase, State.withBays, State.grant]
  rw [hg]
  exact ⟨rfl, rfl, rfl⟩

/-- A bay's sequencer and grant entry, and every class's shortage, once CLEAR is done. -/
structure State.ClearedBays (s : State) (v : Vector Bay 24) (g : Vector Grant 24) : Prop where
  bay : ∀ b : BayNo, v[b] = (s.bay b).cleared.driven 0
  grant : ∀ b : BayNo, g[b] = ⟨0, 0, (s.grant b).carried, (s.bay b).cleared.cfg.baseLevel, .hold, none, none, false⟩

/-- The bays of CLEAR, each in its state with its drive off. -/
theorem State.clearedBase_bays (s : State) (ws : List StoreWrite) : ∃ v q,
    allBays.foldl State.clearBay (s.clearedBase ws) = (s.clearedBase ws).withBays v q ∧
      ∀ b : BayNo, v[b] = (s.bay b).cleared.driven 0 := by
  obtain ⟨v, q, hbays, hv⟩ := State.foldl_clearBay allBays (List.nodup_finRange 24) (s.clearedBase ws)
  have hgranted : ∀ b, ((s.clearedBase ws).grant b).granted = 0 := fun b =>
    (s.clearedBase_allocIdle ws s.bays s.scanner.prompt b).2.1
  refine ⟨v, q, hbays, fun b => ?_⟩
  rw [hv b, if_pos (mem_allBays b), hgranted]
  rfl

/-- The levels of CLEAR, each its bay's base level, with nothing requested or granted. -/
theorem State.clearedBase_grants (s : State) (ws : List StoreWrite) {v : Vector Bay 24} (q : List BayNo)
    (hv : ∀ b : BayNo, v[b] = (s.bay b).cleared.driven 0) : ∃ g,
      (allBays.foldl State.relevel ((s.clearedBase ws).withBays v q)).pass =
          ((s.clearedBase ws).withBays v q).withGrants g ∧
      ∀ b : BayNo, g[b] = ⟨0, 0, (s.grant b).carried, (s.bay b).cleared.cfg.baseLevel, .hold, none, none, false⟩ := by
  have hcharge : ∀ b, (((s.clearedBase ws).withBays v q).bay b).state ≠ .charge := fun b => by
    rw [State.withBays_bay, hv]
    exact (s.bay b).cleared_unpowered.1
  obtain ⟨g, hlevels, hg⟩ := (s.clearedBase_allocIdle ws v q).foldl_relevel hcharge allBays
  have hgrant : ∀ b : BayNo, g[b] = ⟨0, 0, (s.grant b).carried, (s.bay b).cleared.cfg.baseLevel, .hold, none, none,
      false⟩ :=
    fun b => by
      have hcleared : ((s.clearedBase ws).withBays v q).grant b = (s.grant b).cleared := by
        simp [State.clearedBase, State.withBays, State.grant]
      rw [hg b, if_pos (mem_allBays b), State.withBays_bay, hv, hcleared]
      rfl
  have hidle : (((s.clearedBase ws).withBays v q).withGrants g).AllocIdle := fun b => by
    rw [State.withGrants_grant, hgrant]
    exact ⟨rfl, rfl, rfl⟩
  exact ⟨g, by rw [hlevels, hidle.pass], hgrant⟩

/-- CLEAR before its last computation. -/
theorem State.clearedRack_shows (s : State) : ∃ ws v q g,
    s.clearedRack = ((s.clearedBase ws).withBays v q).withGrants g ∧ s.ClearedBays v g ∧
    (∀ b g r, (s.bay b).session.isSome = true → (s.bay b).identity = .registered g → s.pack g = some r →
      .charge g r.charge ∈ ws) ∧
    ∀ g r, s.pack g = some r → s.isTaken r = true → .pack { r with mark := none, place := .unaccounted } ∈ ws := by
  obtain ⟨ws, hbase, hcharges, htaken⟩ := s.clearedBase_eq
  obtain ⟨v, q, hbays, hv⟩ := s.clearedBase_bays ws
  obtain ⟨g, hgrants, hg⟩ := s.clearedBase_grants ws q hv
  exact ⟨ws, v, q, g, by rw [State.clearedRack, hbase, hbays, hgrants], ⟨hv, hg⟩, hcharges, htaken⟩

/-- The whole of CLEAR. -/
theorem State.clearAll_shows (s : State) : ∃ ws v q g sh ss,
    s.clearAll = (((s.clearedBase ws).withBays v q).withGrants g).readied.setShorts sh ss ∧ s.ClearedBays v g ∧
    (∀ b g r, (s.bay b).session.isSome = true → (s.bay b).identity = .registered g → s.pack g = some r →
      .charge g r.charge ∈ ws) ∧
    (∀ g r, s.pack g = some r → s.isTaken r = true → .pack { r with mark := none, place := .unaccounted } ∈ ws) ∧
    ∀ c : ClassNo, sh[c] = (((s.clearedBase ws).withBays v q).withGrants g).readied.isShort c ∧
      ss[c] = (sh[c] && !s.disp.short[c]) := by
  obtain ⟨ws, v, q, g, hrack, hbays, hcharges, htaken⟩ := s.clearedRack_shows
  have hcharge : ∀ b, ((((s.clearedBase ws).withBays v q).withGrants g).bay b).state ≠ .charge := fun b => by
    rw [State.withGrants_bay, State.withBays_bay, hbays.bay]
    exact (s.bay b).cleared_unpowered.1
  have hnone : ∀ c : ClassNo, (((s.clearedBase ws).withBays v q).withGrants g).link.shortSet[c] = false := fun c => by
    rw [State.withGrants_link, State.withBays_link]
    simp [State.clearedBase]
  have hold : (((s.clearedBase ws).withBays v q).withGrants g).disp.short = s.disp.short := by
    rw [State.withGrants_disp, State.withBays_disp]
    rfl
  generalize hu : ((s.clearedBase ws).withBays v q).withGrants g = u at hrack hcharge hnone hold
  obtain ⟨sh, ss, hclose, hshort⟩ := State.closeEvent_of_idle hcharge
  refine ⟨ws, v, q, g, sh, ss, ?_, hbays, hcharges, htaken, fun c => ⟨?_, ?_⟩⟩
  · rw [hu, State.clearAll_eq, hrack, hclose]
  · rw [hu, (hshort c).1]
  · rw [(hshort c).2, hnone, Bool.false_or, hold]

/-! ## The reply -/

/-- The digits of a number made of marks are the marks. -/
theorem testBit_bitsNat (l : List Bool) (i : Nat) : (bitsNat l).testBit i = (l[i]?).getD false := by
  induction l generalizing i with
  | nil => simp [bitsNat]
  | cons b bs ih =>
    cases i with
    | zero => cases b <;> simp [bitsNat, Nat.testBit_zero]
    | succ i =>
      have hdiv : bitsNat (b :: bs) / 2 = bitsNat bs := by
        rw [bitsNat]
        split <;> omega
      rw [Nat.testBit_succ, hdiv, ih]
      simp

theorem shortSetByte_getLsbD (s : State) (c : ClassNo) : s.shortSetByte.getLsbD c.val = s.link.shortSet[c] := by
  have hget : (allClasses.map fun c => s.link.shortSet[c])[c.val]? = some s.link.shortSet[c] := by
    rw [List.getElem?_map, List.getElem?_eq_getElem (by simp [allClasses])]
    simp [allClasses]
  rw [State.shortSetByte, u1, BitVec.getLsbD_ofNat, testBit_bitsNat, hget]
  simp

theorem faultSetBytes_of_none (h : ∀ b, s.faultRec b = none) : s.faultSetBytes = [0, 0, 0] := by
  have hzero : ∀ l : List BayNo, bitsNat (l.map fun b => (s.faultRec b).isSome) = 0 := fun l => by
    induction l with
    | nil => rfl
    | cons b l ih => rw [List.map_cons, bitsNat, ih, h]; rfl
  simp only [State.faultSetBytes, hzero]
  rfl

/-- A frame's bytes from its length sum to 0 (R170). -/
theorem sumBytes_frame (kind : Byte) (body : List Byte) :
    sumBytes (u1 (body.length + 1) :: kind :: body ++ [checkByte kind body]) = 0 := by
  have happ : ∀ (xs : List Byte) (y : Byte), sumBytes (xs ++ [y]) = sumBytes xs + y := fun xs y => by
    induction xs with
    | nil => simp [sumBytes]
    | cons x xs ih => rw [List.cons_append, sumBytes, ih, sumBytes, add_assoc]
  rw [happ, checkByte, add_neg_cancel]

/-- What CLEAR leaves, field by field. -/
structure State.Cleared (s c : State) (ws : List StoreWrite) : Prop where
  issues : c.disp.issues = []
  reservations : c.disp.reservations = []
  shed : c.alloc.shed = none
  queues : c.alloc.queues = Vector.replicate 4 []
  edges : c.link.edges = Edges.clear
  mask : c.link.mask = s.link.mask
  shortSet : ∀ k : ClassNo, c.link.shortSet[k] = (c.disp.short[k] && !s.disp.short[k])
  bay : ∀ b, c.bay b = (s.bay b).cleared.driven 0
  grant : ∀ b, c.grant b = ⟨0, 0, (s.grant b).carried, (s.bay b).cleared.cfg.baseLevel, .hold, none, none, false⟩
  faultRec : ∀ b, c.faultRec b = none
  register : c.register = { s.register with packs := s.clearedPacks }
  inFlight : c.inFlight = s.inFlight ++ ws
  profiles : c.profiles = s.profiles
  now : c.now = s.now
  minute : c.minute = s.minute
  lines : c.scanner.lines = s.scanner.lines
  walk : c.scanner.walk = s.scanner.walk
  handed : c.ReadyHanded
  shortages : c.ShortagesOk

theorem State.clearAll_cleared (s : State) : ∃ ws, s.Cleared s.clearAll ws ∧
    (∀ b g r, (s.bay b).session.isSome = true → (s.bay b).identity = .registered g → s.pack g = some r →
      .charge g r.charge ∈ ws) ∧
    ∀ g r, s.pack g = some r → s.isTaken r = true → .pack { r with mark := none, place := .unaccounted } ∈ ws := by
  obtain ⟨ws, v, q, g, sh, ss, hclear, hbays, hcharges, htaken, hshort⟩ := s.clearAll_shows
  have hfaults : ∀ b : BayNo, (Vector.replicate 24 (none : Option FaultRec))[b] = none := fun b => by simp
  have hhanded : s.clearAll.ReadyHanded := by
    rw [State.clearAll_eq]
    exact State.closeEvent_readyHanded _ _
  have hready : ∀ k, s.clearAll.isShort k = (((s.clearedBase ws).withBays v q).withGrants g).readied.isShort k :=
    fun k => by
      rw [hclear]
      exact State.isShort_congr rfl rfl rfl rfl rfl
  refine ⟨ws, ?_, hcharges, htaken⟩
  refine ⟨?_, ?_, ?_, ?_, ?_, ?_, fun k => ?_, fun b => ?_, fun b => ?_, fun b => ?_, ?_, ?_, ?_, ?_, ?_, ?_, ?_, hhanded,
    fun k => ?_⟩
  case refine_18 => rw [hready, ← (hshort k).1, hclear]; rfl
  case refine_7 => rw [hclear]; exact (hshort k).2
  case refine_8 => rw [hclear]; exact hbays.bay b
  case refine_9 => rw [hclear]; exact hbays.grant b
  case refine_10 => rw [hclear]; exact hfaults b
  all_goals rw [hclear]; rfl

end

/-- Settles O44: CLEAR field by field, and its reply. -/
theorem clearDropsTheOperation : Obligations.ClearDropsTheOperation := by
  intro s h hbays
  obtain ⟨ws, hc, hcharges, htaken⟩ := s.settle.clearAll_cleared
  have hexec : exec .clear s = .next (s.settle.clearAll.reply 0x3F .ok
      (s.settle.clearAll.flagBytes ++ s.settle.clearAll.faultSetBytes ++ [s.settle.clearAll.shortSetByte])) :=
    congrArg Host.Outcome.next (State.command_of_taken (s := s) (f := takeClear) h rfl)
  refine ⟨_, hexec, ?_⟩
  generalize s.settle.clearAll = c at hc
  have hbytes := faultSetBytes_of_none hc.faultRec
  refine ⟨hc.issues, hc.reservations, hc.shed, fun l => ?_, hc.edges,
    fun k => ⟨hc.handed k, hc.shortages k, hc.shortSet k⟩, fun b => ?_, (congrArg Register.classes hc.register :),
    (congrArg Register.rotation hc.register :), (congrArg Register.packs hc.register :), fun b g r hs hg hr => ?_,
    fun g r hr ht => ?_, hc.profiles, hc.mask, hc.now, hc.minute, hc.lines, hc.walk, _,
    checkByte 0xBF (Status.ok.code :: (c.flagBytes ++ c.faultSetBytes ++ [c.shortSetByte])), rfl, ?_, ?_, ?_, fun k => ?_,
    rfl, ?_⟩
  · change c.alloc.queues[l] = []
    rw [hc.queues]
    simp
  · obtain ⟨hsession, hcfg, hlatest, hstate, hrestart, hkept⟩ := Bay.cleared_shows (hbays b).2.1
    have hb : c.bay b = (s.bay b).cleared.driven 0 := hc.bay b
    refine ⟨?_, hc.faultRec b, ?_, ?_, ?_, ?_, fun hr => ?_, fun hr => ?_, ?_⟩
    · exact (congrArg Bay.session hb).trans hsession
    · exact (congrArg Bay.cfg hb).trans hcfg
    · exact (congrArg (fun y : Bay => y.drive.on) hb).trans (driveOf_off (s.bay b).cleared_unpowered 0)
    · exact (congrArg Bay.latest hb).trans hlatest
    · exact (congrArg Bay.state hb).trans hstate
    · obtain ⟨h1, h2, h3⟩ := hrestart hr
      exact ⟨(congrArg Bay.identity hb).trans h1, (congrArg Bay.preIssue hb).trans h2,
          (congrArg Bay.dockTime hb).trans h3⟩
    · have hdriven : ((s.bay b).cleared.driven 0).outline = (s.bay b).cleared.outline := rfl
      exact (congrArg Bay.outline hb).trans (hdriven.trans (congrArg Bay.outline (hkept hr)))
    · refine (hc.grant b).trans ?_
      rw [State.settle_bay, hcfg]
      rfl
  · change _ ∈ c.inFlight
    rw [hc.inFlight]
    exact hcharges b g r hs hg hr
  · change _ ∈ c.inFlight
    rw [hc.inFlight]
    exact htaken g r hr ht
  · rw [hbytes]
    rfl
  · rw [hbytes]
    rfl
  · rw [hbytes]
    rfl
  · rw [hbytes]
    exact congrArg some (shortSetByte_getLsbD c k)
  · exact sumBytes_frame 0xBF (Status.ok.code :: (c.flagBytes ++ c.faultSetBytes ++ [c.shortSetByte]))

end Sys2Proof.Machine
end

section
/-! SUPPORT. What a taken command can do (Table 9-4), said once: the cases that the invariants of the bays, the drives and the
prompt list are proved from. -/

namespace Sys2Proof.Machine

/-- The bays, the allocator, the scanner and the fault records are as they were. -/
def State.SameRack (s t : State) : Prop :=
  t.bays = s.bays ∧ t.alloc = s.alloc ∧ t.scanner = s.scanner ∧ t.faults = s.faults

/-- The state in which a taken command leaves a part in state `s`. -/
inductive State.TakenTo (s : State) : State → Prop
  | still {t : State} (h : s.SameRack t) : s.TakenTo t
  | site (v : SiteSettings) :
      s.TakenTo ((((s.write (.site v)).applySiteCap v).applyLookahead v).applyScanInterval v)
  | feeder (f : FeederNo) (v : Nat) : s.TakenTo (((s.setFeederCap f v).write (.feederCap f v)).pass)
  | feederKept (f : FeederNo) (v : Nat) : s.TakenTo ((s.setFeederCap f v).write (.feederCap f v))
  | cls (c : ClassNo) (r : ClassRec) : s.TakenTo (s.applyClass c r)
  | bayCfg (b : BayNo) (cfg : BayCfg) (h : s.refuseCfg b cfg = none) : s.TakenTo (s.applyCfg b cfg)
  | mask (b : BayNo) (cfg : BayCfg) (h : (s.bay b).state ≠ .release) : s.TakenTo ((s.setCfg b cfg).maskOut b)
  | unmask (b : BayNo) (cfg : BayCfg) (h : (s.bay b).state = .masked) : s.TakenTo ((s.setCfg b cfg).maskIn b)
  | stop (b : BayNo) (e : Ending) (h : stopEnding (s.bay b).state = some e) : s.TakenTo (s.stopAt b e)
  | start (b : BayNo) (h : (s.bay b).state = .standby) : s.TakenTo ((s.startByCharge b false false).handAllReady)
  | clearFault (b : BayNo) (h : (s.bay b).state = .fault) : s.TakenTo (s.clearFaultAt b)
  | issueClass (m : Nat) (c : ClassNo) (ps : List Pick) (h : ps = (s.selection c).filterMap PackRec.pick?) :
      s.TakenTo (s.issueClass m c ps).drawn
  | issueBay (m : Nat) (bs : List BayNo) (h : ∀ b ∈ bs, s.issuable b = true) :
      s.TakenTo ((s.makeIssue m none (bs.map s.pickBay)).closeEvent [])
  | cancel (i : Issue) : s.TakenTo ((s.endIssue i).closeEvent [])
  | reservations (l : List Reservation) (c : ClassNo) : s.TakenTo ((s.setReservations l).computeShort c)
  | shed (cap d : Nat) : s.TakenTo (s.applyShed cap d)
  | releasePack (g : Nat) (f : PackRec → PackRec) : s.TakenTo (((s.modPack g f).savePack g).handAllReady)
  | clear : s.TakenTo s.clearAll

section
variable (s : State)

theorem State.confirmPack_sameRack (m t : Nat) : s.SameRack (s.confirmPack m t) := by
  have charge : ∀ u : State, u.SameRack (u.saveCharge t) := fun u => by
    unfold State.saveCharge
    split <;> exact ⟨rfl, rfl, rfl, rfl⟩
  have record : ∀ u : State, u.SameRack (u.savePack t) := fun u => by
    unfold State.savePack
    split <;> exact ⟨rfl, rfl, rfl, rfl⟩
  unfold State.confirmPack
  split
  · exact ⟨rfl, rfl, rfl, rfl⟩
  · obtain ⟨hb, ha, hs, hf⟩ := charge _
    obtain ⟨hb', ha', hs', hf'⟩ := record _
    exact ⟨hb.trans hb', ha.trans ha', hs.trans hs', hf.trans hf'⟩

theorem State.confirmIssue_sameRack (i : Issue) : s.SameRack (s.confirmIssue i) := by
  have packs : ∀ (ts : List Nat) (u : State), u.SameRack (u.confirmPacks i.machine ts) := by
    intro ts
    induction ts with
    | nil => exact fun u => ⟨rfl, rfl, rfl, rfl⟩
    | cons t ts ih =>
      intro u
      obtain ⟨hb, ha, hs, hf⟩ := u.confirmPack_sameRack i.machine t
      obtain ⟨hb', ha', hs', hf'⟩ := ih (u.confirmPack i.machine t)
      exact ⟨hb'.trans hb, ha'.trans ha, hs'.trans hs, hf'.trans hf⟩
  exact packs _ s

theorem State.setPlace_sameRack (t : Nat) (p : Place) : s.SameRack (s.setPlace t p) := by
  unfold State.setPlace State.savePack
  split <;> exact ⟨rfl, rfl, rfl, rfl⟩

/-- The cases of a command that its owner takes. -/
theorem ownerOf_takenTo {c : Instr} {f : State → Answer} (hf : ownerOf c = some f) : (f s).Leaves s.TakenTo := by
  have still : ∀ {t : State} {cs : List Byte}, s.SameRack t → (Answer.taken t cs).Leaves s.TakenTo := fun h => .still h
  cases c <;> simp only [ownerOf, Option.some.injEq, reduceCtorEq] at hf <;> subst hf
  case setSite a =>
    unfold takeSetSite
    split
    · trivial
    · exact .site _
  case setFeeder f n =>
    simp only [takeSetFeeder]
    split
    · trivial
    · dsimp only [Answer.Leaves]
      split
      · exact .feederKept _ _
      · exact .feeder _ _
  case setClass c a =>
    unfold takeSetClass
    split
    · trivial
    · split
      · trivial
      · split
        · trivial
        · exact .cls _ _
  case setOcv c a =>
    unfold takeSetOcv
    split
    · split
      · trivial
      · split
        · trivial
        · exact still ⟨rfl, rfl, rfl, rfl⟩
    · trivial
  case setProfile p a =>
    unfold takeSetProfile
    split
    · split
      · trivial
      · exact still ⟨rfl, rfl, rfl, rfl⟩
    · trivial
  case setStage p k a =>
    unfold takeSetStage
    split
    · split
      · trivial
      · exact still ⟨rfl, rfl, rfl, rfl⟩
    · trivial
  case setBay b a =>
    unfold takeSetBay
    split
    · split
      · trivial
      · next h => exact .bayCfg _ _ h
    · trivial
  case maskBay b =>
    unfold takeMaskBay
    split
    · trivial
    · split
      · trivial
      · next h => exact .mask _ _ fun hr => h (.inl hr)
  case unmaskBay b =>
    unfold takeUnmaskBay
    split
    · trivial
    · split
      · trivial
      · next h => exact .unmask _ _ (not_not.1 h)
  case stopBay b =>
    unfold takeStopBay
    split
    · trivial
    · split
      · trivial
      · next h => exact .stop _ _ h
  case startBay b =>
    unfold takeStartBay
    split
    · trivial
    · split
      · trivial
      · next h => exact .start _ (not_not.1 fun hs => h (.inl hs))
  case clearFault b =>
    unfold takeClearFault
    split
    · trivial
    · split
      · next h _ =>
        split
        · trivial
        · exact .clearFault _ h
      · trivial
  case issueClass m c =>
    unfold takeIssueClass
    split
    · split
      · trivial
      · split
        · trivial
        · split
          · trivial
          · exact .issueClass _ _ _ rfl
    · trivial
  case issueBay m b b' =>
    unfold takeIssueBay
    split
    · split
      · trivial
      · split
        · trivial
        · split
          · trivial
          · next h =>
            split
            · trivial
            · exact .issueBay _ _ fun b hb => List.all_eq_true.1 (by simpa using h) b hb
    · trivial
  case confirm m =>
    unfold takeConfirm
    split
    · trivial
    · split
      · trivial
      · split
        · trivial
        · exact still (s.confirmIssue_sameRack _)
  case confirmNext =>
    unfold takeConfirmNext
    split
    · trivial
    · exact still (s.confirmIssue_sameRack _)
  case cancelIssue m =>
    unfold takeCancelIssue
    split
    · trivial
    · split
      · trivial
      · exact .cancel _
  case reserve c m d =>
    unfold takeReserve
    split
    · trivial
    · split
      · trivial
      · split
        · trivial
        · split
          · trivial
          · exact .reservations _ _
  case dropReservations c =>
    unfold takeDropReservations
    split
    · trivial
    · exact .reservations _ _
  case shed c d => exact .shed _ _
  case registerPack t c m =>
    unfold takeRegisterPack
    split
    · split
      · trivial
      · split
        · trivial
        · split
          · trivial
          · split
            · trivial
            · exact still ⟨rfl, rfl, rfl, rfl⟩
    · trivial
  case removePack t =>
    unfold takeRemovePack
    split
    · trivial
    · split
      · trivial
      · split
        · trivial
        · exact still ⟨rfl, rfl, rfl, rfl⟩
  case releasePack t =>
    unfold takeReleasePack
    split
    · trivial
    · split
      · trivial
      · split
        · trivial
        · exact .releasePack _ _
  case assignPack t m =>
    unfold takeAssignPack
    split
    · trivial
    · split
      · trivial
      · split
        · exact still (s.setPlace_sameRack _ _)
        · trivial
  case readAttention => exact still ⟨rfl, rfl, rfl, rfl⟩
  case setAttentionMask m =>
    unfold takeSetAttentionMask
    split
    · trivial
    · exact still ⟨rfl, rfl, rfl, rfl⟩
  case clear => exact .clear
  case readBay b =>
    simp only [takeReadBay]
    split
    · trivial
    · exact still ⟨rfl, rfl, rfl, rfl⟩
  case readPack t =>
    simp only [takeReadPack]
    split
    · trivial
    · split
      · trivial
      · exact still ⟨rfl, rfl, rfl, rfl⟩
  case readClass c =>
    simp only [takeReadClass]
    split
    · trivial
    · exact still ⟨rfl, rfl, rfl, rfl⟩
  case readGrants f n =>
    simp only [takeReadGrants]
    split
    · trivial
    · exact still ⟨rfl, rfl, rfl, rfl⟩
  case readIssues => exact still ⟨rfl, rfl, rfl, rfl⟩
  case readReservations => exact still ⟨rfl, rfl, rfl, rfl⟩
  case readFault b =>
    simp only [takeReadFault]
    split
    · trivial
    · exact still ⟨rfl, rfl, rfl, rfl⟩

end

end Sys2Proof.Machine
end

section
/-! SUPPORT. What a drive follows from (R48, R49) and what the prompt list is kept for (R161), bay by bay: an update of the
running part leaves the bays it does not work on as they were, and a bay whose drive is recomputed is in order again. -/

namespace Sys2Proof.Machine

/-! ## The rack: what drives and the prompt list follow from -/

/-- The fields of a sequencer that its drive follows from, with the drive. -/
def Bay.driveBasis (y : Bay) : BayState × Ending × Nat × Nat × Drive :=
  (y.state, y.outcome, y.keptTarget, y.keptIset, y.drive)

/-- The part of the state that the drives and the prompt list speak of. -/
structure Rack where
  basis : BayNo → BayState × Ending × Nat × Nat × Drive
  granted : BayNo → Nat
  sent : BayNo → Sent
  prompt : List BayNo

/-- The rack of a state. -/
def State.rack (s : State) : Rack :=
  ⟨fun b => (s.bay b).driveBasis, fun b => (s.grant b).granted, fun b => (s.line b).sent, s.scanner.prompt⟩

/-- A bay's drive is that of its state and grant (R48). -/
def State.driveOk (s : State) (b : BayNo) : Prop := (s.bay b).drive = driveOf (s.bay b) (s.grant b).granted

/-- A bay whose drive lowers power against the last drive sent is on the prompt list (R161). -/
def State.listed (s : State) (b : BayNo) : Prop :=
  lowersPower (s.line b).sent (s.bay b).drive (s.grant b).granted = true → b ∈ s.scanner.prompt

theorem State.lowersListed_iff (s : State) : s.LowersListed ↔ ∀ b, s.listed b :=
  forall_congr' fun b => by rw [State.listed, lowersPower_iff]

/-- A drive follows from the driven fields and the grant. -/
theorem driveOf_congr {y z : Bay} (h : y.driveBasis = z.driveBasis) (n : Nat) : driveOf y n = driveOf z n := by
  simp only [Bay.driveBasis, Prod.mk.injEq] at h
  obtain ⟨hs, ho, ht, hi, -⟩ := h
  simp only [driveOf, hs, ho, ht, hi]

theorem Bay.drive_of_driveBasis {y z : Bay} (h : y.driveBasis = z.driveBasis) : y.drive = z.drive := by
  simp only [Bay.driveBasis, Prod.mk.injEq] at h
  exact h.2.2.2.2

section
variable {s t : State} {x : BayNo}

/-- Whether a drive is in order follows from the driven fields and the grant of its bay. -/
theorem State.driveOk.congr (h : s.driveOk x) (hb : (t.bay x).driveBasis = (s.bay x).driveBasis)
    (hg : (t.grant x).granted = (s.grant x).granted) : t.driveOk x := by
  rw [State.driveOk, Bay.drive_of_driveBasis hb, driveOf_congr hb, hg]
  exact h

/-- Whether a bay is listed where it must be follows from its drive, its grant, the drive sent and the list. -/
theorem State.listed.congr (h : s.listed x) (hb : (t.bay x).drive = (s.bay x).drive)
    (hg : (t.grant x).granted = (s.grant x).granted) (hl : (t.line x).sent = (s.line x).sent)
    (hp : x ∈ s.scanner.prompt → x ∈ t.scanner.prompt) : t.listed x := by
  rw [State.listed, hb, hg, hl]
  exact fun hlow => hp (h hlow)

end

/-! ## Keeping drives -/

/-- From `s` to `t` the drives and places of the bays outside `D` stay in order, and the prompt list only grows at its
tail. -/
structure State.KeepsDrives (D : List BayNo) (s t : State) : Prop where
  drive : ∀ x, x ∉ D → s.driveOk x → t.driveOk x
  listed : ∀ x, x ∉ D → s.listed x → t.listed x
  prompt : s.scanner.prompt <+: t.scanner.prompt

section
variable {D : List BayNo} {s t u : State}

theorem State.KeepsDrives.refl (s : State) : s.KeepsDrives D s := ⟨fun _ _ h => h, fun _ _ h => h, List.prefix_rfl⟩

theorem State.KeepsDrives.trans (h : s.KeepsDrives D t) (h' : t.KeepsDrives D u) : s.KeepsDrives D u :=
  ⟨fun x hx hs => h'.drive x hx (h.drive x hx hs), fun x hx hs => h'.listed x hx (h.listed x hx hs),
    h.prompt.trans h'.prompt⟩

/-- More bays may be left out of account. -/
theorem State.KeepsDrives.mono {E : List BayNo} (h : s.KeepsDrives D t) (hD : ∀ x ∈ D, x ∈ E) : s.KeepsDrives E t :=
  ⟨fun x hx => h.drive x fun hd => hx (hD x hd), fun x hx => h.listed x fun hd => hx (hD x hd), h.prompt⟩

theorem State.KeepsDrives.any (h : s.KeepsDrives [] t) : s.KeepsDrives D t := h.mono (by simp)

/-- What keeps every bay may follow. -/
theorem State.KeepsDrives.step (h : s.KeepsDrives D t) (h' : t.KeepsDrives [] u) : s.KeepsDrives D u := h.trans h'.any

/-- An update of one bay's records that shows in no other bay's rack, and not on the prompt list. -/
theorem State.KeepsDrives.of_away (hb : ∀ x, x ∉ D → (t.bay x).driveBasis = (s.bay x).driveBasis)
    (hg : ∀ x, x ∉ D → (t.grant x).granted = (s.grant x).granted)
    (hl : ∀ x, x ∉ D → (t.line x).sent = (s.line x).sent) (hp : t.scanner.prompt = s.scanner.prompt) :
    s.KeepsDrives D t where
  drive x hx h := h.congr (hb x hx) (hg x hx)
  listed x hx h := h.congr (Bay.drive_of_driveBasis (hb x hx)) (hg x hx) (hl x hx) fun hm => hp ▸ hm
  prompt := by rw [hp]

/-- An operation that leaves the rack alone keeps every drive. -/
theorem State.KeepsDrives.of_rack (h : t.rack = s.rack) : s.KeepsDrives D t :=
  .of_away (fun x _ => congrFun (congrArg Rack.basis h) x) (fun x _ => congrFun (congrArg Rack.granted h) x)
    (fun x _ => congrFun (congrArg Rack.sent h) x) (congrArg Rack.prompt h)

/-- An operation that leaves the rack alone may follow. -/
theorem State.KeepsDrives.quiet (h : s.KeepsDrives D t) (hu : u.rack = t.rack) : s.KeepsDrives D u :=
  h.trans (.of_rack hu)

/-- What is done for each member of a list keeps what it keeps for one. -/
theorem State.KeepsDrives.foldl {α : Type} {f : State → α → State} (h : ∀ (u : State) a, u.KeepsDrives D (f u a)) (l : List α)
    (s : State) : s.KeepsDrives D (l.foldl f s) := by
  induction l generalizing s with
  | nil => exact .refl s
  | cons a l ih => exact (h s a).trans (ih _)

/-- An update of the sequencer of a bay. -/
theorem State.KeepsDrives.modBay {b : BayNo} (h : s.KeepsDrives D t) (hb : b ∈ D) (f : Bay → Bay) :
    s.KeepsDrives D (t.modBay b f) :=
  h.trans (.of_away (fun x hx => by rw [State.modBay_bay, if_neg fun e : x = b => hx (e ▸ hb)]) (fun _ _ => rfl)
    (fun _ _ => rfl) rfl)

/-- An update of the grant entry of a bay. -/
theorem State.KeepsDrives.modGrant {b : BayNo} (h : s.KeepsDrives D t) (hb : b ∈ D) (f : Grant → Grant) :
    s.KeepsDrives D (t.modGrant b f) :=
  h.trans (.of_away (fun _ _ => rfl) (fun x hx => by rw [State.modGrant_grant, if_neg fun e : x = b => hx (e ▸ hb)])
    (fun _ _ => rfl) rfl)

/-- The bay that recomputes its drive is in order again, and the others stay so (R49, R161). -/
theorem State.KeepsDrives.redrive {b : BayNo} (h : s.KeepsDrives (b :: D) t) : s.KeepsDrives D (t.redrive b) := by
  have hp : t.scanner.prompt <+: (t.redrive b).scanner.prompt := by
    rw [State.redrive_prompt]
    split
    · exact List.prefix_append _ _
    · exact List.prefix_rfl
  have hgrant : ∀ x, (t.redrive b).grant x = t.grant x := fun x => by simp only [State.grant, State.redrive_alloc]
  have hline : ∀ x, (t.redrive b).line x = t.line x := fun x => by
    simp only [State.redrive]
    split
    · unfold State.promptAdd; split <;> rfl
    · rfl
  have hout : ∀ x, x ∉ D → x ≠ b → x ∉ b :: D := fun x hx hne => by simp [hx, hne]
  refine ⟨fun x hx hs => ?_, fun x hx hs => ?_, h.prompt.trans hp⟩
  · by_cases hxb : x = b
    · subst hxb
      rw [State.driveOk, hgrant, State.redrive_bay, if_pos rfl]
      rfl
    · refine (h.drive x (hout x hx hxb) hs).congr ?_ (by rw [hgrant])
      rw [State.redrive_bay, if_neg hxb]
  · by_cases hxb : x = b
    · subst hxb
      rw [State.listed, hgrant, hline, State.redrive_bay, if_pos rfl, State.redrive_prompt]
      intro hlow
      by_cases hm : x ∈ t.scanner.prompt
      · split <;> simp [hm]
      · rw [if_pos ⟨hlow, hm⟩]
        simp
    · refine (h.listed x (hout x hx hxb) hs).congr ?_ (by rw [hgrant]) (by rw [hline]) fun hm => hp.subset hm
      rw [State.redrive_bay, if_neg hxb]

/-- Bays out of order that recompute their drives one after the other are in order again. -/
theorem State.KeepsDrives.redrives {l : List BayNo} (h : s.KeepsDrives (l ++ D) t) :
    s.KeepsDrives D (l.foldl State.redrive t) := by
  induction l generalizing t with
  | nil => exact h
  | cons b l ih => exact ih h.redrive

/-- A bay whose state, sequencer or grant was touched and that enters a state is in order again. -/
theorem State.KeepsDrives.moveTo {b : BayNo} (h : s.KeepsDrives [b] t) (st : BayState) :
    s.KeepsDrives [] (t.moveTo b st) :=
  (h.modBay (by simp) _).redrive

end

/-! ## What leaves the rack alone -/

section
variable (s : State) (b : BayNo)

theorem State.modBay_rack {f : Bay → Bay} (hf : (f (s.bay b)).driveBasis = (s.bay b).driveBasis) :
    (s.modBay b f).rack = s.rack := by
  have h : (fun x => ((s.modBay b f).bay x).driveBasis) = fun x => (s.bay x).driveBasis := by
    funext x
    rw [State.modBay_bay]
    split
    · next hx => rw [hx, hf]
    · rfl
  simp only [State.rack, h]
  rfl

theorem State.modGrant_rack {f : Grant → Grant} (hf : (f (s.grant b)).granted = (s.grant b).granted) :
    (s.modGrant b f).rack = s.rack := by
  have h : (fun x => ((s.modGrant b f).grant x).granted) = fun x => (s.grant x).granted := by
    funext x
    rw [State.modGrant_grant]
    split
    · next hx => rw [hx, hf]
    · rfl
  simp only [State.rack, h]
  rfl

theorem State.modLine_rack {f : LineRec → LineRec} (hf : (f (s.line b)).sent = (s.line b).sent) :
    (s.modLine b f).rack = s.rack := by
  have h : (fun x => ((s.modLine b f).line x).sent) = fun x => (s.line x).sent := by
    funext x
    rw [State.modLine_line]
    split
    · next hx => rw [hx, hf]
    · rfl
  simp only [State.rack, h]
  rfl

theorem State.foldl_rack {α : Type} {f : State → α → State} (h : ∀ s x, (f s x).rack = s.rack) (l : List α)
    (s : State) : (l.foldl f s).rack = s.rack := by
  induction l generalizing s with
  | nil => rfl
  | cons x xs ih => rw [List.foldl_cons, ih, h]

@[simp] theorem State.modSession_rack (f : Session → Session) : (s.modSession b f).rack = s.rack := s.modBay_rack b rfl
@[simp] theorem State.setFault_rack (r : Option FaultRec) : (s.setFault b r).rack = s.rack := rfl
@[simp] theorem State.setQueue_rack (l : LevelNo) (q : List BayNo) : (s.setQueue l q).rack = s.rack := rfl
@[simp] theorem State.setIssues_rack (l : List Issue) : (s.setIssues l).rack = s.rack := rfl
@[simp] theorem State.setReservations_rack (l : List Reservation) : (s.setReservations l).rack = s.rack := rfl
@[simp] theorem State.setReceiver_rack (r : Receiver) : (s.setReceiver r).rack = s.rack := rfl
@[simp] theorem State.raise_rack (c : Cause) : (s.raise c).rack = s.rack := rfl
@[simp] theorem State.raiseShort_rack (c : ClassNo) : (s.raiseShort c).rack = s.rack := rfl
@[simp] theorem State.write_rack (w : StoreWrite) : (s.write w).rack = s.rack := rfl
@[simp] theorem State.settle_rack : s.settle.rack = s.rack := rfl
@[simp] theorem State.modPack_rack (t : Nat) (f : PackRec → PackRec) : (s.modPack t f).rack = s.rack := rfl
@[simp] theorem State.setMark_rack (t : Nat) (m : Option Nat) : (s.setMark t m).rack = s.rack := rfl
@[simp] theorem State.setRotation_rack (c : ClassNo) (l : List Nat) : (s.setRotation c l).rack = s.rack := rfl
@[simp] theorem State.toTail_rack (r : PackRec) : (s.toTail r).rack = s.rack := rfl
@[simp] theorem State.addPack_rack (r : PackRec) : (s.addPack r).rack = s.rack := rfl
@[simp] theorem State.deletePack_rack (r : PackRec) : (s.deletePack r).rack = s.rack := rfl
@[simp] theorem State.setShort_rack (c : ClassNo) (v : Bool) : (s.setShort c v).rack = s.rack := rfl
@[simp] theorem State.setReady_rack (c : ClassNo) (n : Nat) : (s.setReady c n).rack = s.rack := rfl
@[simp] theorem State.setShed_rack (v : Option ShedRec) : (s.setShed v).rack = s.rack := rfl
@[simp] theorem State.setFeederCap_rack (f : FeederNo) (n : Nat) : (s.setFeederCap f n).rack = s.rack := rfl
@[simp] theorem State.reply_rack (k : Byte) (st : Status) (cs : List Byte) : (s.reply k st cs).rack = s.rack := rfl
@[simp] theorem State.drawn_rack : s.drawn.rack = s.rack := rfl
@[simp] theorem State.clearEdges_rack : s.clearEdges.rack = s.rack := rfl
@[simp] theorem State.clearMarks_rack : s.clearMarks.rack = s.rack := rfl
@[simp] theorem State.clearFaults_rack : s.clearFaults.rack = s.rack := rfl
@[simp] theorem State.dropComplete_rack : s.dropComplete.rack = s.rack := rfl
@[simp] theorem State.partDocked_rack (m t : Nat) : (s.partDocked m t).rack = s.rack := rfl
@[simp] theorem State.setIdentity_rack (i : Identity) : (s.setIdentity b i).rack = s.rack := s.modBay_rack b rfl
@[simp] theorem State.stampDock_rack : (s.stampDock b).rack = s.rack := s.modBay_rack b rfl
@[simp] theorem State.enterStage_rack (k : StageNo) (m : Bool) : (s.enterStage b k m).rack = s.rack :=
  s.modSession_rack b _
@[simp] theorem State.setCfg_rack (g : BayCfg) : (s.setCfg b g).rack = s.rack :=
  s.modBay_rack b (f := fun y => { y with cfg := g }) rfl
@[simp] theorem State.setClassRec_rack (c : ClassNo) (r : ClassRec) : (s.setClassRec c r).rack = s.rack := rfl
@[simp] theorem State.applyScanInterval_rack (v : SiteSettings) : (s.applyScanInterval v).rack = s.rack := rfl

@[simp] theorem State.savePack_rack (t : Nat) : (s.savePack t).rack = s.rack := by
  unfold State.savePack
  split <;> rfl

@[simp] theorem State.saveCharge_rack (t : Nat) : (s.saveCharge t).rack = s.rack := by
  unfold State.saveCharge
  split <;> rfl

@[simp] theorem State.saveChargeAt_rack : (s.saveChargeAt b).rack = s.rack := by
  unfold State.saveChargeAt
  split
  · exact s.saveCharge_rack _
  · rfl

@[simp] theorem State.saveChargesAt_rack : (s.saveChargesAt b).rack = s.rack := State.foldl_rack State.saveCharge_rack _ s

@[simp] theorem State.setPlace_rack (t : Nat) (p : Place) : (s.setPlace t p).rack = s.rack := by simp [State.setPlace]

@[simp] theorem State.loseAt_rack : (s.loseAt b).rack = s.rack :=
  State.foldl_rack (fun u (r : PackRec) => u.setPlace_rack r.tag .unaccounted) _ s

@[simp] theorem State.settleAt_rack (t : Option Nat) (c : Cause) : (s.settleAt b t c).rack = s.rack :=
  State.foldl_rack (fun u (r : PackRec) => by rw [State.raise_rack, State.setPlace_rack]) _ s

@[simp] theorem State.setChargeAt_rack (q : Nat) : (s.setChargeAt b q).rack = s.rack := by
  unfold State.setChargeAt
  split
  · rfl
  · rfl
  · exact s.modBay_rack b rfl

@[simp] theorem State.setKnownAt_rack : (s.setKnownAt b).rack = s.rack := by
  unfold State.setKnownAt
  split
  · rfl
  · simp
  · exact s.modBay_rack b rfl

@[simp] theorem State.resetEqualizeAt_rack : (s.resetEqualizeAt b).rack = s.rack := by
  unfold State.resetEqualizeAt
  split <;> simp

@[simp] theorem State.leaveStage_rack (st : Stage) : (s.leaveStage b st).rack = s.rack := by
  unfold State.leaveStage
  split <;> simp

@[simp] theorem State.quarantinePack_rack (t : Nat) (k : FaultKind) : (s.quarantinePack t k).rack = s.rack := by
  unfold State.quarantinePack
  split
  · split <;> simp
  · rfl

@[simp] theorem State.quarantineFor_rack (ks : List FaultKind) : (s.quarantineFor b ks).rack = s.rack := by
  unfold State.quarantineFor
  split <;> simp

@[simp] theorem State.joinFault_rack (k : FaultKind) : (s.joinFault b k).rack = s.rack := by
  unfold State.joinFault
  split
  · rfl
  · split <;> simp

@[simp] theorem State.cancelPart_rack : (s.cancelPart b).rack = s.rack := by
  simp only [State.cancelPart, State.dropComplete_rack, State.setIssues_rack]
  exact State.foldl_rack (fun u t => u.setMark_rack t none) _ s

@[simp] theorem State.acceptKnown_rack (t : Nat) : (s.acceptKnown b t).rack = s.rack := by
  unfold State.acceptKnown
  split
  · rfl
  · simp only [State.savePack_rack, State.modPack_rack]
    split <;> simp

@[simp] theorem State.confirmPack_rack (m t : Nat) : (s.confirmPack m t).rack = s.rack := by
  unfold State.confirmPack
  split <;> simp

@[simp] theorem State.confirmPacks_rack (m : Nat) (ts : List Nat) : (s.confirmPacks m ts).rack = s.rack :=
  State.foldl_rack (fun u t => u.confirmPack_rack m t) ts s

@[simp] theorem State.confirmIssue_rack (i : Issue) : (s.confirmIssue i).rack = s.rack := by
  simp [State.confirmIssue]

@[simp] theorem State.takeRemoval_rack : (s.takeRemoval b).rack = s.rack := by
  simp only [State.takeRemoval, State.dropComplete_rack, State.setIssues_rack]
  split
  · simp only [State.removalOf]
    split
    · exact State.foldl_rack (fun u t => u.setPlace_rack t _) _ s
    · simp
  · rfl

@[simp] theorem State.loseIdentity_rack : (s.loseIdentity b).rack = s.rack := by
  unfold State.loseIdentity
  split <;> simp

@[simp] theorem State.leftInFault_rack : (s.leftInFault b).rack = s.rack := by
  unfold State.leftInFault
  split
  · split <;> simp
  · rfl

@[simp] theorem State.reconcile_rack (rep : Report) : (s.reconcile b rep).rack = s.rack := by
  simp only [State.reconcile]
  split
  · rfl
  · split
    · simp
    · rw [State.modBay_rack _ _ rfl, State.settleAt_rack]

@[simp] theorem State.checkRound_rack : s.checkRound.rack = s.rack := by
  unfold State.checkRound
  split <;> rfl

@[simp] theorem State.endSlot_rack : s.endSlot.rack = s.rack := by
  rw [State.endSlot, State.checkRound_rack]
  rfl

@[simp] theorem State.beginRound_rack : s.beginRound.rack = s.rack := by
  rw [State.beginRound, State.checkRound_rack]
  rfl

@[simp] theorem State.enqueue_rack (l : LevelNo) : (s.enqueue l b).rack = s.rack := rfl
@[simp] theorem State.unqueue_rack (l : LevelNo) : (s.unqueue l b).rack = s.rack := rfl
@[simp] theorem State.requeue_rack (l : LevelNo) : (s.requeue l b).rack = s.rack := rfl

@[simp] theorem State.enterRequest_rack (r : Nat) : (s.enterRequest b r).rack = s.rack := by
  have h : (s.modGrant b fun e => { e with request := r, yielded := e.yielded && decide (r ≠ 0) }).rack = s.rack :=
    s.modGrant_rack b rfl
  simp only [State.enterRequest]
  split
  · exact h
  · split <;> exact h

@[simp] theorem State.enterLevel_rack (l : LevelNo) : (s.enterLevel b l).rack = s.rack := by
  have h : (s.modGrant b fun e => { e with level := l }).rack = s.rack := s.modGrant_rack b rfl
  simp only [State.enterLevel]
  split <;> exact h

@[simp] theorem State.dropOverdue_rack : s.dropOverdue.rack = s.rack := by
  simp only [State.dropOverdue]
  split <;> rfl

end

end Sys2Proof.Machine
end

section
/-! SUPPORT. The operations of the running part keep every drive that of its bay's state and grant, and every bay whose
drive lowers power on the prompt list (R49, R161). -/

namespace Sys2Proof.Machine

section
variable (s : State) (b : BayNo)

/-! ## Passes, requests, levels and ready counts -/

/-- A pass tells every bay whose grant it changes. -/
theorem State.mem_regranted (x : BayNo) : x ∈ s.regranted ↔ s.afterPass[x] ≠ (s.grant x).granted := by
  have hall : x ∈ s.handOrder := by
    by_cases h : x ∈ s.order <;> simp [State.handOrder, allBays, h]
  simp [State.regranted, hall]

/-- A pass leaves every drive in order: the bays whose grant changed recompute theirs (R102). -/
theorem State.pass_keepsDrives : s.KeepsDrives [] s.pass := by
  refine State.KeepsDrives.redrives (State.KeepsDrives.of_away (fun x _ => ?_) (fun x hx => ?_) (fun x _ => ?_) ?_)
  · simp [State.bay]
  · have hsame : s.afterPass[x] = (s.grant x).granted := by
      simpa [State.mem_regranted] using hx
    simpa [State.enterPass, State.grant, State.grantAfterPass, Grant.afterPass] using hsame
  · simp [State.line]
  · simp

variable {s b}
variable {D : List BayNo} {t : State}

theorem State.KeepsDrives.pass (h : s.KeepsDrives D t) : s.KeepsDrives D t.pass := h.step t.pass_keepsDrives

theorem State.KeepsDrives.releaseRequest (h : s.KeepsDrives D t) (b : BayNo) :
    s.KeepsDrives D (t.releaseRequest b) :=
  (h.quiet (t.enterRequest_rack b 0)).pass

theorem State.KeepsDrives.handRequest (h : s.KeepsDrives D t) (b : BayNo) (r : Nat) :
    s.KeepsDrives D (t.handRequest b r) := by
  unfold State.handRequest
  split
  · exact h
  · exact (h.quiet (t.enterRequest_rack b r)).pass

theorem State.KeepsDrives.releaseAtRest (h : s.KeepsDrives D t) (b : BayNo) :
    s.KeepsDrives D (t.releaseAtRest b) := by
  unfold State.releaseAtRest
  split
  · exact h.releaseRequest b
  · exact h

theorem State.KeepsDrives.setCarried (h : s.KeepsDrives D t) (b : BayNo) (n : Nat) :
    s.KeepsDrives D (t.setCarried b n) := by
  have hc := h.quiet (t.modGrant_rack b (f := fun e => { e with carried := n }) rfl)
  simp only [State.setCarried]
  split
  · exact hc.pass
  · exact hc

theorem State.KeepsDrives.relevel (h : s.KeepsDrives D t) (b : BayNo) : s.KeepsDrives D (t.relevel b) := by
  unfold State.relevel
  split
  · exact h
  · exact (h.quiet (t.enterLevel_rack b _)).pass

theorem State.KeepsDrives.computeShort (h : s.KeepsDrives D t) (c : ClassNo) :
    s.KeepsDrives D (t.computeShort c) := by
  simp only [State.computeShort]
  split
  · exact h
  · refine State.KeepsDrives.trans ?_ (.foldl (fun u x => (State.KeepsDrives.refl u).relevel x) _ _)
    split <;> exact h.quiet rfl

theorem State.KeepsDrives.computeShorts (h : s.KeepsDrives D t) (cs : List ClassNo) :
    s.KeepsDrives D (cs.foldl State.computeShort t) :=
  h.trans (.foldl (fun u c => (State.KeepsDrives.refl u).computeShort c) cs t)

theorem State.KeepsDrives.handAllReady (h : s.KeepsDrives D t) : s.KeepsDrives D t.handAllReady := by
  refine h.trans (.foldl (fun u c => ?_) allClasses t)
  unfold State.handReady
  split
  · exact .refl u
  · exact (State.KeepsDrives.of_rack (u.setReady_rack c _)).computeShort c

theorem State.KeepsDrives.handUnless (h : s.KeepsDrives D t) (own : Bool) :
    s.KeepsDrives D (State.handUnless own t) := by
  cases own
  · exact h.handAllReady
  · exact h

theorem State.KeepsDrives.closeEvent (h : s.KeepsDrives D t) (cs : List ClassNo) :
    s.KeepsDrives D (t.closeEvent cs) := by
  simp only [State.closeEvent]
  refine (h.quiet ?_).computeShorts _
  exact State.foldl_rack (fun u c => u.setReady_rack c _) _ _

/-! ## Bay states and sessions -/

theorem State.KeepsDrives.toVacant (h : s.KeepsDrives [b] t) : s.KeepsDrives [] (t.toVacant b) :=
  (h.modBay (by simp) _).moveTo .vacant

theorem State.KeepsDrives.toFreshIdentify (h : s.KeepsDrives [b] t) : s.KeepsDrives [] (t.toFreshIdentify b) :=
  (h.modBay (by simp) _).moveTo .identify

theorem State.KeepsDrives.reidentify (h : s.KeepsDrives [b] t) : s.KeepsDrives [] (t.reidentify b) := by
  unfold State.reidentify
  split
  · exact h.toFreshIdentify
  · exact h.toVacant

theorem State.KeepsDrives.toStandby (h : s.KeepsDrives [b] t) (e : Ending) : s.KeepsDrives [] (t.toStandby b e) :=
  (h.modBay (by simp) _).moveTo .standby

theorem State.KeepsDrives.toCooling (h : s.KeepsDrives [b] t) (n : Nat) : s.KeepsDrives [] (t.toCooling b n) :=
  (h.modBay (by simp) _).moveTo .cooling

theorem State.KeepsDrives.dock (h : s.KeepsDrives [b] t) : s.KeepsDrives [] (t.dock b) :=
  (h.modBay (by simp) _).moveTo .identify

theorem State.KeepsDrives.openSession (h : s.KeepsDrives [b] t) (p : ProfileNo) (w : Bool) (e : Ending) :
    s.KeepsDrives [b] (t.openSession b p w e) :=
  (h.modBay (by simp) _).modGrant (by simp) _

theorem State.KeepsDrives.endSession (h : s.KeepsDrives D t) (b : BayNo) : s.KeepsDrives D (t.endSession b) := by
  unfold State.endSession
  split
  · refine State.KeepsDrives.releaseRequest (h.quiet ?_) b
    rw [State.modGrant_rack _ _ rfl, State.modBay_rack _ _ rfl]
  · exact h

/-! ## Faults and session starts -/

theorem State.KeepsDrives.latch (h : s.KeepsDrives [b] t) (k : FaultKind) (ks : List FaultKind) (n : Option Nat)
    (c : Option ClassNo) (own : Bool) : s.KeepsDrives [] (t.latch b k ks n c own) := by
  simp only [State.latch]
  refine State.KeepsDrives.relevel (State.KeepsDrives.handUnless ?_ own) b
  refine State.KeepsDrives.moveTo (State.KeepsDrives.modBay ?_ (by simp) _) .fault
  refine State.KeepsDrives.quiet (State.KeepsDrives.endSession (h.quiet ?_) b) (State.quarantineFor_rack _ b _)
  rw [State.saveChargesAt_rack]
  split <;> simp

theorem State.KeepsDrives.latched (h : s.KeepsDrives [] t) (b : BayNo) (k : FaultKind) (ks : List FaultKind)
    (n : Option Nat) (c : Option ClassNo) (own : Bool) : s.KeepsDrives [] (t.latch b k ks n c own) :=
  h.any.latch k ks n c own

theorem State.KeepsDrives.startByCharge (h : s.KeepsDrives [] t) (b : BayNo) (warm own : Bool) :
    s.KeepsDrives [] (t.startByCharge b warm own) := by
  unfold State.startByCharge State.startSession
  split
  · exact h.latched b _ _ _ _ _
  · have hopen : ∀ cr : ClassRec, s.KeepsDrives [b] (t.openSession b cr.profile warm .none) := fun _ =>
      h.any.openSession _ _ _
    split
    · exact ((((hopen _).quiet (State.enterStage_rack _ b 0 true)).moveTo .charge).releaseAtRest b).relevel b
    · exact (hopen _).moveTo .assess

theorem State.KeepsDrives.returnFromRelease (h : s.KeepsDrives [] t) (b : BayNo) :
    s.KeepsDrives [] (t.returnFromRelease b) := by
  unfold State.returnFromRelease
  split
  · unfold State.returnToMaintain
    split
    · exact h.latched b _ _ _ _ _
    · split
      · exact (((h.any.openSession _ _ _).quiet (State.enterStage_rack _ b _ true)).moveTo .maintain).releaseAtRest b
      · exact h.any.toStandby _
  · exact h.any.toStandby _
  · exact h

theorem State.KeepsDrives.coolEnds (h : s.KeepsDrives [] t) (b : BayNo) : s.KeepsDrives [] (t.coolEnds b) :=
  (h.quiet (t.modBay_rack b rfl)).startByCharge b true false

/-! ## Identification -/

theorem State.KeepsDrives.goOn (h : s.KeepsDrives [] t) (b : BayNo) (tm : Int) : s.KeepsDrives [] (t.goOn b tm) := by
  unfold State.goOn
  split
  · exact h
  · split
    · exact h.any.toCooling _
    · exact h.startByCharge b false false

theorem State.KeepsDrives.actOnVerdict (h : s.KeepsDrives [] t) (b : BayNo) (tm : Int) (v : Verdict) :
    s.KeepsDrives [] (t.actOnVerdict b tm v) := by
  unfold State.actOnVerdict
  split
  · exact (h.quiet (by simp)).goOn b tm
  · exact (h.quiet (by simp)).goOn b tm
  · exact (h.quiet (u := (t.acceptKnown b _).setIdentity b _) (by simp)).any.toStandby _
  · exact (h.quiet (by simp)).goOn b tm
  · exact h.latched b _ _ _ _ _
  · exact h.latched b _ _ _ _ _

theorem State.KeepsDrives.identify (h : s.KeepsDrives [] t) (b : BayNo) (rep : Report) :
    s.KeepsDrives [] (t.identify b rep) := by
  have hmore : (t.modBay b fun y => { y with attempts := min 3 (y.attempts + 1) }).rack = t.rack := t.modBay_rack b rfl
  unfold State.identify
  split
  · exact (h.quiet (by split <;> simp)).actOnVerdict b _ _
  · simp only
    split
    · exact (h.quiet hmore).actOnVerdict b _ _
    · exact h.quiet hmore

/-! ## Evaluation -/

theorem State.KeepsDrives.goOnInCharge (h : s.KeepsDrives [] t) (b : BayNo) :
    s.KeepsDrives [] (t.goOnInCharge b) := by
  unfold State.goOnInCharge
  split
  · exact ((((h.any.quiet (State.modSession_rack _ b _)).moveTo .charge).releaseAtRest b).relevel b).handAllReady
  · exact h.releaseAtRest b

theorem State.KeepsDrives.completeCharge (h : s.KeepsDrives [] t) (b : BayNo) (st : Stage) :
    s.KeepsDrives [] (t.completeCharge b st) := by
  simp only [State.completeCharge]
  split
  · exact ((((h.any.quiet (by simp)).moveTo .maintain).releaseAtRest b).relevel b).handAllReady
  · exact ((((h.any.quiet (by simp)).endSession b).toStandby .complete).relevel b).handAllReady

theorem State.KeepsDrives.takeAction (h : s.KeepsDrives [] t) (b : BayNo) (se : Session) (k : StageNo) (st : Stage)
    (a : Action) : s.KeepsDrives [] (t.takeAction b se k st a) := by
  have hcall : ∀ j r, s.KeepsDrives [] (t.doCall b se k st j r) := fun j r => by
    unfold State.doCall
    split
    · exact h.latched b _ _ _ _ _
    · exact (h.quiet (by simp)).goOnInCharge b
  cases a with
  | goto j =>
    simp only [State.takeAction, State.doGoto]
    split
    · exact (h.quiet (by simp)).releaseAtRest b
    · exact (h.quiet (by simp)).goOnInCharge b
  | callResume j => exact hcall j true
  | callRestart j => exact hcall j false
  | ret =>
    simp only [State.takeAction, State.doReturn]
    split
    · exact h.latched b _ _ _ _ _
    · split <;> exact (h.quiet (by simp)).releaseAtRest b
  | complete =>
    simp only [State.takeAction, State.doComplete]
    split
    · exact (h.quiet (by simp)).releaseAtRest b
    · exact h.completeCharge b st
  | fault n => exact h.latched b _ _ _ _ _

theorem State.KeepsDrives.handOff (h : s.KeepsDrives [] t) (b : BayNo) (tg i r : Nat) :
    s.KeepsDrives [] (t.handOff b tg i r) := by
  have hkept : s.KeepsDrives [] ((t.modBay b fun y => { y with keptTarget := tg, keptIset := i }).redrive b) :=
    (State.KeepsDrives.modBay h.any (by simp) _).redrive
  unfold State.handOff
  split
  · simp only
    split
    · exact hkept
    · exact hkept.handRequest b r
  · exact h

theorem State.KeepsDrives.evaluate (h : s.KeepsDrives [] t) (b : BayNo) (rep : Report) (prev : Nat) (on : Bool) :
    s.KeepsDrives [] (t.evaluate b rep prev on) := by
  unfold State.evaluate
  split
  · split
    · simp only [State.evaluateAt]
      have henter : ∀ se se' st cr fl, s.KeepsDrives [] (t.enterEvaluation b se se' st cr rep prev fl) :=
        fun se se' st cr fl => h.quiet ((State.setChargeAt_rack _ b _).trans (t.modBay_rack b rfl))
      split
      · exact (henter _ _ _ _ _).latched b _ _ _ _ _
      · split
        · exact ((henter _ _ _ _ _).handOff b _ _ _).quiet (State.modSession_rack _ b _)
        · exact ((henter _ _ _ _ _).takeAction b _ _ _ _).handOff b _ _ _
    · exact h
  · exact h

theorem State.KeepsDrives.endAssess (h : s.KeepsDrives [] t) (b : BayNo) (rep : Report) (cr : ClassRec) :
    s.KeepsDrives [] (t.endAssess b rep cr) := by
  simp only [State.endAssess]
  exact (((h.any.quiet (by simp)).moveTo .charge).releaseAtRest b).relevel b

/-! ## A good report -/

theorem State.KeepsDrives.unexpectedRemoval (h : s.KeepsDrives [] t) (b : BayNo) :
    s.KeepsDrives [] (t.unexpectedRemoval b) := by
  unfold State.unexpectedRemoval
  exact ((((h.any.endSession b).quiet (by simp)).toVacant).relevel b).handAllReady

theorem State.KeepsDrives.presence (h : s.KeepsDrives [] t) (b : BayNo) (rep : Report) :
    s.KeepsDrives [] (t.presence b rep) := by
  unfold State.presence
  split
  · unfold State.presentAt
    split
    · exact h.any.dock
    · exact h.quiet (t.stampDock_rack b)
    · exact h
  · unfold State.absentAt
    split
    · exact h
    · refine State.KeepsDrives.toVacant (h.any.quiet ?_)
      split <;> simp
    · exact h.unexpectedRemoval b
    · exact h.unexpectedRemoval b
    · exact h.unexpectedRemoval b
    · exact h.unexpectedRemoval b
    · exact h.unexpectedRemoval b
    · exact (h.any.quiet (t.takeRemoval_rack b)).toVacant
    · exact h.quiet (t.leftInFault_rack b)
    · exact h

theorem State.KeepsDrives.stateWork (h : s.KeepsDrives [] t) (b : BayNo) (rep : Report) (prev : Nat) (on : Bool) :
    s.KeepsDrives [] (t.stateWork b rep prev on) := by
  unfold State.stateWork
  split
  · exact h.identify b rep
  · unfold State.coolingTest
    split
    · exact h
    · split
      · exact h.startByCharge b false false
      · exact h
  · unfold State.restTest
    split
    · split
      · exact h.endAssess b rep _
      · exact h
    · exact h
  · exact h.evaluate b rep prev on
  · exact h.evaluate b rep prev on
  · exact h

theorem State.KeepsDrives.testsAndWork (h : s.KeepsDrives [] t) (b : BayNo) (rep : Report) (prev : Nat)
    (on answered : Bool) : s.KeepsDrives [] (t.testsAndWork b rep prev on answered) := by
  simp only [State.testsAndWork]
  split
  · exact h.quiet (State.foldl_rack (fun u k => u.joinFault_rack b k) _ t)
  · split
    · exact h.stateWork b rep prev on
    · exact h.latched b _ _ _ _ _

theorem State.KeepsDrives.goodReportAt (h : s.KeepsDrives [] t) (b : BayNo) (rep : Report) (on answered : Bool) :
    s.KeepsDrives [] (t.goodReportAt b rep on answered) := by
  have hrec : ((t.modBay b fun y => { y with latest := some ⟨rep, t.now⟩ }).reconcile b rep).rack = t.rack :=
    (State.reconcile_rack _ b rep).trans (t.modBay_rack b rfl)
  simp only [State.goodReportAt]
  refine State.KeepsDrives.handAllReady ?_
  split
  · exact (h.quiet hrec).presence b rep
  · exact ((h.quiet hrec).presence b rep).testsAndWork b rep _ on answered

theorem State.KeepsDrives.deliver (h : s.KeepsDrives [] t) (b : BayNo) (rep : Report) :
    s.KeepsDrives [] (t.deliver b rep) := by
  have hcredit : s.KeepsDrives [] ((t.modLine b fun x =>
      { x with misses := 0, lostExpiry := none, answeredOn := (t.line b).sent.drive.on }).setCarried b
        (t.line b).sent.units) := (h.quiet (t.modLine_rack b rfl)).setCarried b _
  simp only [State.deliver]
  split
  · exact hcredit
  · exact hcredit.goodReportAt b rep _ _

theorem State.KeepsDrives.missSlot (h : s.KeepsDrives [] t) (b : BayNo) : s.KeepsDrives [] (t.missSlot b) := by
  have hcount : ((t.endSlot).modLine b fun x =>
      { x with misses := min 3 (((t.endSlot).line b).misses + 1) }).rack = t.rack :=
    (State.modLine_rack _ b rfl).trans t.endSlot_rack
  simp only [State.missSlot, State.miss]
  split
  · exact h.quiet t.endSlot_rack
  · split
    · unfold State.raiseFault
      split
      · exact h.quiet ((State.joinFault_rack _ b _).trans hcount)
      · exact (h.quiet hcount).latched b _ _ _ _ _
    · exact h.quiet hcount

theorem State.KeepsDrives.receive (h : s.KeepsDrives [] t) (bytes : List Byte) :
    s.KeepsDrives [] (t.receive bytes) := by
  unfold State.receive
  split
  · unfold State.answerSlot
    split
    · exact (h.quiet t.endSlot_rack).deliver _ _
    · exact h.missSlot _
  · exact h

end

end Sys2Proof.Machine
end

section
/-! SUPPORT. Drives and the prompt list at every row (R48, R49, R87, R161): the commands and events of the running part keep
them, a poll takes its bay off the list, and the power rows set every bay to the drive of an empty one. -/

namespace Sys2Proof.Machine

section
variable {s t : State}

/-! ## Commands -/

theorem State.setBays_rack (s : State) {v : Vector Bay 24} (h : ∀ b : BayNo, v[b].driveBasis = (s.bay b).driveBasis) :
    (s.setBays v).rack = s.rack := by
  have hb : (fun b => ((s.setBays v).bay b).driveBasis) = fun b => (s.bay b).driveBasis := funext h
  simp only [State.rack, hb]
  rfl

theorem State.KeepsDrives.capCharges (h : s.KeepsDrives [] t) (c : ClassNo) (n : Nat) :
    s.KeepsDrives [] (t.capCharges c n) := by
  have hpacks : (t.capPacks c n).rack = t.rack := State.foldl_rack (fun u r => by
    unfold State.capCharge
    split <;> simp) _ t
  rw [State.capCharges_eq]
  refine h.quiet (Eq.trans ?_ hpacks)
  have hcap : ∀ y : Bay, (y.capAnonymous c n).driveBasis = y.driveBasis := fun y => by
    unfold Bay.capAnonymous
    split
    · split <;> rfl
    · rfl
  exact State.setBays_rack _ fun b => by simp [hcap]

theorem State.KeepsDrives.recool (h : s.KeepsDrives [] t) (n : Nat) (b : BayNo) : s.KeepsDrives [] (t.recool n b) := by
  simp only [State.recool]
  split
  · exact h.quiet (t.modBay_rack b rfl)
  · split
    · exact h.coolEnds b
    · exact h.quiet (t.modBay_rack b rfl)

theorem State.KeepsDrives.applyClass (h : s.KeepsDrives [] t) (c : ClassNo) (r : ClassRec) :
    s.KeepsDrives [] (t.applyClass c r) := by
  simp only [State.applyClass]
  refine State.KeepsDrives.trans ?_ (.foldl (fun u b => (State.KeepsDrives.refl u).recool r.coolTimeout b) _ _)
  have hset := ((h.quiet (t.setClassRec_rack c r)).capCharges c (fullCharge r.capacity)).computeShort c
  split
  · exact hset
  · exact hset.pass

theorem State.KeepsDrives.applySiteCap (h : s.KeepsDrives [] t) (v : SiteSettings) :
    s.KeepsDrives [] (t.applySiteCap v) := by
  simp only [State.applySiteCap]
  split
  · exact h.quiet (by rfl)
  · exact (h.quiet (by rfl)).pass

theorem State.KeepsDrives.applyLookahead (h : s.KeepsDrives [] t) (v : SiteSettings) :
    s.KeepsDrives [] (t.applyLookahead v) := by
  simp only [State.applyLookahead]
  split
  · exact h.quiet (by rfl)
  · exact (h.quiet (by rfl)).computeShorts allClasses

theorem State.KeepsDrives.applyShed (h : s.KeepsDrives [] t) (cap d : Nat) : s.KeepsDrives [] (t.applyShed cap d) := by
  unfold State.applyShed
  split
  · exact (h.quiet (t.setShed_rack _)).pass
  · split
    · exact (h.quiet (t.setShed_rack _)).pass
    · exact h

/-- A bay taken out of service joins the prompt list, and its drive is that of MASKED (R43, R167). -/
theorem State.KeepsDrives.maskOut (h : s.KeepsDrives [] t) (b : BayNo) : s.KeepsDrives [] (t.maskOut b) := by
  have hmasked : s.KeepsDrives [] ((((t.endSession b).setFault b none).modBay b Bay.emptied).moveTo b .masked) :=
    (State.KeepsDrives.modBay ((h.any.endSession b).quiet (State.setFault_rack _ b none)) (by simp) _).moveTo .masked
  have hadd : ∀ u : State, u.KeepsDrives [] (u.promptAdd b) := fun u => by
    unfold State.promptAdd
    split
    · exact .refl u
    · exact ⟨fun _ _ hs => hs, fun _ _ hs hlow => List.mem_append_left _ (hs hlow), List.prefix_append _ _⟩
  simp only [State.maskOut]
  refine State.KeepsDrives.quiet (State.KeepsDrives.handAllReady (State.KeepsDrives.relevel ?_ b)) (State.checkRound_rack _)
  exact (hmasked.trans (hadd _)).quiet (State.modLine_rack _ b rfl)

theorem State.KeepsDrives.maskIn (h : s.KeepsDrives [] t) (b : BayNo) : s.KeepsDrives [] (t.maskIn b) :=
  (State.KeepsDrives.modBay (h.quiet (t.modLine_rack b rfl)).any (by simp) _).moveTo .vacant

theorem State.KeepsDrives.applyCfg (h : s.KeepsDrives [] t) (b : BayNo) (cfg : BayCfg) :
    s.KeepsDrives [] (t.applyCfg b cfg) := by
  have hmask : s.KeepsDrives [] ((t.setCfg b cfg).applyMasked b (t.bay b).cfg.masked cfg.masked) := by
    unfold State.applyMasked
    split
    · exact (h.quiet (t.setCfg_rack b cfg)).maskOut b
    · split
      · exact (h.quiet (t.setCfg_rack b cfg)).maskIn b
      · exact h.quiet (t.setCfg_rack b cfg)
  unfold State.applyCfg State.applyFeeder
  split
  · exact (hmask.relevel b).pass
  · exact hmask

theorem State.KeepsDrives.stopAt (h : s.KeepsDrives [] t) (b : BayNo) (e : Ending) : s.KeepsDrives [] (t.stopAt b e) :=
  ((((h.quiet (t.saveChargeAt_rack b)).any.endSession b).toStandby e).relevel b).handAllReady

theorem State.KeepsDrives.makeIssue (h : s.KeepsDrives [] t) (m : Nat) (c : Option ClassNo) (ps : List Pick) :
    s.KeepsDrives [] (t.makeIssue m c ps) := by
  have hpick : ∀ (u : State) p, u.KeepsDrives [] (u.releasePick m p) := fun u p => by
    unfold State.releasePick State.toRelease
    refine State.KeepsDrives.moveTo (State.KeepsDrives.endSession (State.KeepsDrives.modBay ?_ (by simp) _) _) .release
    split <;> exact .of_rack (by simp)
  exact (h.trans (.foldl hpick ps t)).quiet rfl

theorem State.KeepsDrives.endIssue (h : s.KeepsDrives [] t) (i : Issue) : s.KeepsDrives [] (t.endIssue i) := by
  have hpart : ∀ (u : State) p, u.KeepsDrives [] (u.endPart p) := fun u p => by
    unfold State.endPart
    split
    · exact (State.KeepsDrives.of_rack (u.setMark_rack _ none)).returnFromRelease _
    · exact (State.KeepsDrives.refl u).returnFromRelease _
    · exact .of_rack (by simp)
    · exact .refl u
    · exact .refl u
  exact (h.quiet (t.setIssues_rack _)).trans (.foldl hpart _ _)

/-- CLEAR resets every grant, and then every bay recomputes its drive (R50, R111). -/
theorem State.KeepsDrives.clearAll (h : s.KeepsDrives [] t) : s.KeepsDrives [] t.clearAll := by
  have hcharges : t.clearEdges.clearCharges.rack = t.rack :=
    (State.foldl_rack (fun u b => u.saveChargeAt_rack b) _ _).trans t.clearEdges_rack
  have halloc : ∀ u : State, u.KeepsDrives allBays u.clearAlloc := fun u =>
    .of_away (fun _ _ => rfl) (fun x hx => absurd (List.mem_finRange x) hx) (fun _ _ => rfl) rfl
  have hlists : ∀ u : State, u.clearLists.rack = u.rack := fun u => by
    simp only [State.clearLists, State.setReservations_rack, State.setIssues_rack]
    exact (State.foldl_rack (fun v g => v.setPlace_rack g .unaccounted) _ _).trans u.clearMarks_rack
  have hbay : ∀ (D : List BayNo) (u : State) b, s.KeepsDrives (b :: D) u → s.KeepsDrives D (u.clearBay b) := by
    intro D u b hu
    unfold State.clearBay
    split
    · have hmove : ∀ f st, s.KeepsDrives D (((u.modBay b fun y => { y with session := none }).modBay b f).moveTo b st) :=
        fun f st => (State.KeepsDrives.modBay (State.KeepsDrives.modBay (State.KeepsDrives.modBay hu (by simp) _)
          (by simp) _) (by simp) _).redrive
      unfold State.reidentify
      split
      · exact hmove _ _
      · exact hmove _ _
    · exact hu.redrive
  have hbays : ∀ (l : List BayNo) (u : State), s.KeepsDrives l u → s.KeepsDrives [] (l.foldl State.clearBay u) := by
    intro l
    induction l with
    | nil => exact fun u hu => hu
    | cons b l ih => exact fun u hu => ih _ (hbay l u b hu)
  simp only [State.clearAll]
  refine State.KeepsDrives.closeEvent (State.KeepsDrives.pass ?_) _
  refine State.KeepsDrives.trans (hbays _ _ ?_) (.foldl (fun u b => (State.KeepsDrives.refl u).relevel b) _ _)
  refine (State.KeepsDrives.trans (h.any.quiet hcharges) (halloc _)).quiet ?_
  rw [State.clearFaults_rack, hlists]

/-- What the owner of any command does keeps the drives and the prompt list. -/
theorem State.TakenTo.keepsDrives (ht : s.TakenTo t) : s.KeepsDrives [] t := by
  have h : s.KeepsDrives [] s := .refl s
  cases ht with
  | still hs =>
    obtain ⟨hb, ha, hl, -⟩ := hs
    exact .of_rack (by simp only [State.rack, State.bay, State.grant, State.line, hb, ha, hl])
  | site v => exact (((h.quiet (s.write_rack _)).applySiteCap v).applyLookahead v).quiet (State.applyScanInterval_rack _ v)
  | feeder f v => exact (h.quiet (by simp)).pass
  | feederKept f v => exact h.quiet (by simp)
  | cls c r => exact h.applyClass c r
  | bayCfg b cfg _ => exact h.applyCfg b cfg
  | mask b cfg _ => exact (h.quiet (s.setCfg_rack b cfg)).maskOut b
  | unmask b cfg _ => exact (h.quiet (s.setCfg_rack b cfg)).maskIn b
  | stop b e _ => exact h.stopAt b e
  | start b _ => exact (h.startByCharge b false false).handAllReady
  | clearFault b _ => exact (h.any.quiet (s.setFault_rack b none)).reidentify
  | issueClass m c ps _ =>
    exact State.KeepsDrives.quiet (((h.makeIssue m _ ps).quiet (State.setReservations_rack _ _)).closeEvent [c])
      (State.drawn_rack _)
  | issueBay m bs _ => exact (h.makeIssue m none _).closeEvent []
  | cancel i => exact (h.endIssue i).closeEvent []
  | reservations l c => exact (h.quiet (s.setReservations_rack l)).computeShort c
  | shed cap d => exact h.applyShed cap d
  | releasePack g f => exact (h.quiet (by simp)).handAllReady
  | clear => exact h.clearAll

/-! ## Events -/

/-- What every row gives of the drives and the prompt list. -/
structure State.DrivesEndure (s t : State) : Prop where
  drives : s.DrivesOk → t.DrivesOk
  listed : s.LowersListed → t.LowersListed
  prompt : (s.scanner.prompt.filter fun b => decide (b ∈ t.scanner.prompt)) <+: t.scanner.prompt

/-- Where drives and places stay in order, the bays that stay on the list are those that stood on it. -/
theorem State.KeepsDrives.endure (h : s.KeepsDrives [] t) : s.DrivesEndure t := by
  refine ⟨fun hs b => h.drive b (by simp) (hs b), fun hs => ?_, ?_⟩
  · rw [State.lowersListed_iff] at hs ⊢
    exact fun b => h.listed b (by simp) (hs b)
  · rw [List.filter_eq_self.2 fun b hb => by simpa using h.prompt.subset hb]
    exact h.prompt

theorem State.DrivesEndure.refl (s : State) : s.DrivesEndure s := (State.KeepsDrives.refl s).endure

/-- What every row gives follows from the rack before it. -/
theorem State.DrivesEndure.of_rack_left {u : State} (h : t.DrivesEndure u) (hs : t.rack = s.rack) :
    s.DrivesEndure u where
  drives k := h.drives fun b => (State.KeepsDrives.of_rack (D := []) hs).drive b (by simp) (k b)
  listed k := h.listed ((State.KeepsDrives.of_rack (D := []) hs).endure.listed k)
  prompt := by rw [← show t.scanner.prompt = s.scanner.prompt from congrArg Rack.prompt hs]; exact h.prompt

theorem State.DrivesEndure.of_rack_right {u : State} (h : s.DrivesEndure t) (hu : u.rack = t.rack) :
    s.DrivesEndure u where
  drives k b := (State.KeepsDrives.of_rack (D := []) hu).drive b (by simp) (h.drives k b)
  listed k := (State.KeepsDrives.of_rack (D := []) hu).endure.listed (h.listed k)
  prompt := by rw [show u.scanner.prompt = t.scanner.prompt from congrArg Rack.prompt hu]; exact h.prompt

theorem State.DrivesEndure.ite (h : s.DrivesEndure t) (p : Prop) [Decidable p] :
    s.DrivesEndure (if p then t else s) := by
  split
  · exact h
  · exact .refl s

/-- A poll sends the bay its drive, so that nothing lowers power against it, and takes the bay off the list (R158, R161). -/
theorem State.sendPoll_drivesEndure (s : State) (b : BayNo) (r : Bool) : s.DrivesEndure (s.sendPoll b r) := by
  have hline : ∀ x, (s.sendPoll b r).line x =
      if x = b then (s.line b).polled (s.bay b).drive (s.unitsNow b) s.now else s.line x :=
    fun x => s.modLine_line b x fun l => l.polled (s.bay b).drive (s.unitsNow b) s.now
  refine ⟨fun hs => hs, fun hs => ?_, ?_⟩
  · rw [State.lowersListed_iff] at hs ⊢
    intro x
    by_cases hx : x = b
    · subst hx
      rw [State.listed, lowersPower_iff, hline, if_pos rfl]
      change (s.bay x).drive.on = true ∧ (s.bay x).drive.on = false ∨
        (s.bay x).drive.on = true ∧ (s.bay x).drive.on = true ∧ (s.grant x).granted < s.unitsNow x ∨
          (s.bay x).drive.latchOpen ≠ (s.bay x).drive.latchOpen → _
      rintro (⟨h1, h2⟩ | ⟨h1, -, h2⟩ | h1)
      · simp [h1] at h2
      · simp [State.unitsNow, h1] at h2
      · exact absurd rfl h1
    · refine (hs x).congr rfl rfl (by rw [hline, if_neg hx]) fun hm => ?_
      exact List.mem_filter.2 ⟨hm, by simpa using hx⟩
  · change (s.scanner.prompt.filter fun x => decide (x ∈ s.scanner.prompt.filter fun x => decide (x ≠ b))) <+:
      s.scanner.prompt.filter fun x => decide (x ≠ b)
    rw [List.filter_congr (q := fun x => decide (x ≠ b)) fun x hx => by simp [hx]]

/-- Every event of the running part keeps the drives, and the prompt list in its order. -/
theorem eventOf_drivesEndure {c : Instr} {f : State → State} (hf : eventOf c = some f)
    (hframe : ∀ k b x, c ≠ .frameComplete k b x) (s : State) : s.DrivesEndure (f s) := by
  have h : s.KeepsDrives [] s := .refl s
  have same : ∀ {t : State}, t.rack = s.rack → s.DrivesEndure t := fun ht => (State.KeepsDrives.of_rack ht).endure
  cases c <;> simp only [eventOf, Option.some.injEq, reduceCtorEq] at hf <;> subst hf
  case startupHoldEnd => exact (h.quiet (by rfl)).pass.endure.ite _
  case depotMinuteAdvance => 
    have hminute : s.KeepsDrives [] { s with minute := s.minute + 1 } := .of_rack rfl
    exact ((hminute.quiet (State.dropOverdue_rack _)).computeShorts allClasses).endure.ite _
  case reservationGraceExpiry => exact ((h.quiet s.dropOverdue_rack).computeShorts allClasses).endure.ite _
  case issueLapse m =>
    refine State.KeepsDrives.endure ?_
    simp only [State.lapse]
    split
    · exact h
    · exact ((h.endIssue _).quiet (State.raise_rack _ _)).closeEvent []
  case turnExpiry b =>
    refine State.DrivesEndure.ite (State.KeepsDrives.endure ?_) _
    unfold State.expireTurn
    split
    · have hzero : s.KeepsDrives [b] (s.modGrant b fun e => { e with granted := 0, turnExpiry := none, yielded := true }) :=
        State.KeepsDrives.modGrant h.any (by simp) _
      exact (hzero.quiet (State.requeue_rack _ b _)).redrive.pass
    · exact h.quiet (s.modGrant_rack b rfl)
  case shedExpiry => exact (h.quiet (s.setShed_rack none)).pass.endure.ite _
  case coolExpiry b => exact (h.coolEnds b).handAllReady.endure.ite _
  case lostStageExpiry b => exact ((h.quiet (s.modLine_rack b rfl)).setCarried b 0).endure.ite _
  case roundStart => exact (same s.beginRound_rack).ite _
  case regularPoll =>
    unfold State.pollRegular
    split
    · next b _ => exact (State.sendPoll_drivesEndure (s.walkPast b) b true).of_rack_left rfl
    · exact .refl s
  case promptPoll =>
    unfold State.pollPrompt
    split
    · exact s.sendPoll_drivesEndure _ false
    · exact .refl s
  case reportReceived bytes => exact (h.receive bytes).endure
  case pollSlotTimeout =>
    unfold State.timeoutSlot
    split
    · exact (h.missSlot _).endure
    · exact .refl s
  case thirdConsecutiveMiss =>
    unfold State.timeoutThird
    split
    · split
      · exact (h.missSlot _).endure
      · exact .refl s
    · exact .refl s
  case frameComplete k b x => exact absurd rfl (hframe k b x)
  case frameDiscardedBusy => exact (same (by rfl)).ite _
  case byteGapTimeout => exact (same (by rfl)).ite _
  case lengthOutOfRange l => exact (same (by rfl)).ite _
  case replySent => exact same (by rfl)
  case startMarkerReceived => exact (same (by rfl)).ite _

/-! ## Power rows and steps -/

/-- A bay that stands at its power-on values has the drive of an empty bay, which was sent to it so (R28, R158). -/
theorem State.drivesEndure_of_boot {cfgs : BayNo → BayCfg} (hb : ∀ b, t.bay b = Bay.boot (cfgs b))
    (hl : ∀ b, t.line b = LineRec.boot) (hg : ∀ b, (t.grant b).granted = 0) (hp : t.scanner.prompt = []) :
    s.DrivesEndure t := by
  refine ⟨fun _ b => ?_, fun _ => (State.lowersListed_iff t).2 fun b hlow => ?_, ?_⟩
  · rw [hb b]
    cases hm : (cfgs b).masked <;> simp [Bay.boot, driveOf, hm, Drive.reset]
  · rw [hb b, hl b, hg b] at hlow
    simp [Bay.boot, LineRec.boot, lowersPower, Drive.reset] at hlow
  · rw [hp]
    simp

theorem State.blank_drivesEndure (u : State) (ht : t.bays = u.blank.bays) (hg : t.alloc.grants = u.blank.alloc.grants)
    (hl : t.scanner.lines = u.blank.scanner.lines) (hp : t.scanner.prompt = []) : s.DrivesEndure t := by
  refine State.drivesEndure_of_boot (cfgs := fun b => Store.delivery.bayCfgs[b]) (fun b => ?_) (fun b => ?_)
    (fun b => ?_) hp
  · simp [State.bay, ht, State.blank, State.bootFrom]
  · simp [State.line, hl, State.blank, State.bootFrom]
  · simp [State.grant, hg, State.blank, State.bootFrom, Grant.boot]

theorem exec_power_drivesEndure {c : Instr} (hp : powerRow c = true) (h : exec c s = .next t) : s.DrivesEndure t := by
  have settled : s.DrivesEndure s.settle := (State.KeepsDrives.of_rack s.settle_rack).endure
  cases c with
  | powerOn =>
    cases h
    unfold State.powerOn
    split
    · exact settled
    · exact State.blank_drivesEndure s rfl rfl rfl rfl
  | powerLoss n =>
    cases h
    unfold State.powerLoss
    split
    · exact State.blank_drivesEndure (s.cutWrites n) rfl rfl rfl rfl
    · exact .refl s
  | resetPinAssert n =>
    cases h
    unfold State.resetAssert
    split
    · exact settled
    · split
      · exact State.blank_drivesEndure (s.cutWrites n) rfl rfl rfl rfl
      · exact (State.KeepsDrives.of_rack (by rfl)).endure
  | resetPinRelease =>
    cases h
    exact (State.KeepsDrives.of_rack (by rfl)).endure
  | restoreEnd =>
    cases h
    by_cases hr : s.restores = true
    · obtain ⟨w, o, sh, ss, ht⟩ := State.endRestore_eq hr
      rw [ht]
      exact State.drivesEndure_of_boot (cfgs := fun b => s.settle.store.bayCfgs[b]) (State.bootFrom_bay _)
        (State.bootFrom_line s.settle.store) (fun b => by
          change ((State.bootFrom s.settle.store).grant b).granted = 0
          rw [State.bootFrom_grant]; rfl) rfl
    · rw [State.endRestore, if_neg hr]
      exact settled
  | _ => cases hp

/-- Every row keeps the drives, and the prompt list in its order. -/
theorem exec_drivesEndure {c : Instr} (h : exec c s = .next t) : s.DrivesEndure t := by
  by_cases hp : powerRow c = true
  · exact exec_power_drivesEndure hp h
  · have hp : powerRow c = false := by simpa using hp
    cases hr : s.running
    · rw [exec_of_not_running hp hr] at h
      cases h
      exact (State.KeepsDrives.of_rack s.settle_rack).endure
    · obtain ⟨u, hu, he⟩ := exec_running (R := State.DrivesEndure) State.DrivesEndure.refl
        (fun _ t k st cs h => h.of_rack_right (t.reply_rack k st cs))
        (fun s r => (State.KeepsDrives.of_rack (s.setReceiver_rack r)).endure)
        (fun s => (State.KeepsDrives.of_rack (by rfl)).endure)
        (fun c f hf s => (ownerOf_takenTo s hf).mono fun _ h => h.keepsDrives.endure)
        (fun c f hf hframe s => eventOf_drivesEndure hf hframe s) hp hr
      obtain rfl : u = t := by rw [h] at hu; cases hu; rfl
      exact he.of_rack_left s.settle_rack

theorem State.tick_rack (s : State) : s.tick.rack = s.rack := by
  unfold State.tick
  split
  · rfl
  · split <;> rfl

/-- Settles O57: every row recomputes the drive of each bay it touches, and only a poll takes a bay off the prompt list. -/
theorem stepKeepsDrives : Obligations.StepKeepsDrives := by
  intro s t h
  have he : s.DrivesEndure t := by
    unfold step at h
    split at h
    · cases h
      exact (State.KeepsDrives.of_rack s.tick_rack).endure
    · exact (exec_drivesEndure h).of_rack_left rfl
  exact ⟨he.drives, he.listed, he.prompt⟩

end

end Sys2Proof.Machine
end

section
/-! SUPPORT. A bay's seat: its sequencer without the drive, its fault record and its request. What each operation does to the
seat of the bay it works on is one equation (R35, R40, R45, R60, R140, R144). -/

namespace Sys2Proof.Machine

/-- A bay's sequencer without its drive, its fault record and its request. -/
@[ext] structure Seat where
  bay : Bay
  fault : Option FaultRec
  request : Nat

/-- The seat of a bay. -/
def State.seat (s : State) (b : BayNo) : Seat := ⟨(s.bay b).outline, s.faultRec b, (s.grant b).request⟩

section
variable {s t : State} {b x : BayNo}

theorem State.seat_of_outline (h : t.outline = s.outline) (x : BayNo) : t.seat x = s.seat x :=
  Seat.ext (State.bay_outline_of_outline h x) (State.faultRec_of_outline h x) (State.request_of_outline h x)

theorem State.seat_of_away (h : t.away b = s.away b) (hx : x ≠ b) : t.seat x = s.seat x :=
  Seat.ext (State.bay_of_away h hx) (State.faultRec_of_away h hx) (congrArg Grant.request (State.grant_of_away h hx) :)

/-- The parts of a seat of its bay. -/
theorem State.state_of_seat {n : Seat} (h : s.seat b = n) : (s.bay b).state = n.bay.state := h ▸ rfl
theorem State.session_of_seat {n : Seat} (h : s.seat b = n) : (s.bay b).session = n.bay.session := h ▸ rfl
theorem State.fault_of_seat {n : Seat} (h : s.seat b = n) : s.faultRec b = n.fault := h ▸ rfl
theorem State.request_of_seat {n : Seat} (h : s.seat b = n) : (s.grant b).request = n.request := h ▸ rfl

/-- A session in a seat. -/
def Seat.withSession (n : Seat) (v : Option Session) : Seat := { n with bay := { n.bay with session := v } }

/-- A state of a seat. -/
def Seat.inState (n : Seat) (st : BayState) : Seat := { n with bay := { n.bay with state := st } }

/-- A request of a seat. -/
def Seat.asking (n : Seat) (r : Nat) : Seat := { n with request := r }

end

/-! ## Operations that leave every seat alone -/

section
variable (s : State) (b x : BayNo)

@[simp] theorem State.redrive_seat (y : BayNo) : (s.redrive y).seat x = s.seat x :=
  State.seat_of_outline (State.outline_congr (s.redrive_passOutline y)) x
@[simp] theorem State.pass_seat : s.pass.seat x = s.seat x := State.seat_of_outline s.pass_outline x
@[simp] theorem State.relevel_seat (y : BayNo) : (s.relevel y).seat x = s.seat x :=
  State.seat_of_outline (s.relevel_outline y) x
@[simp] theorem State.computeShort_seat (c : ClassNo) : (s.computeShort c).seat x = s.seat x :=
  State.seat_of_outline (s.computeShort_outline c) x
@[simp] theorem State.computeAllShort_seat : s.computeAllShort.seat x = s.seat x :=
  State.seat_of_outline s.computeAllShort_outline x
@[simp] theorem State.handAllReady_seat : s.handAllReady.seat x = s.seat x :=
  State.seat_of_outline s.handAllReady_outline x
@[simp] theorem State.handUnless_seat (own : Bool) : (State.handUnless own s).seat x = s.seat x :=
  State.seat_of_outline (s.handUnless_outline own) x
@[simp] theorem State.closeEvent_seat (cs : List ClassNo) : (s.closeEvent cs).seat x = s.seat x :=
  State.seat_of_outline (s.closeEvent_outline cs) x

@[simp] theorem State.setIssues_seat (l : List Issue) : (s.setIssues l).seat x = s.seat x := rfl
@[simp] theorem State.setReservations_seat (l : List Reservation) : (s.setReservations l).seat x = s.seat x := rfl
@[simp] theorem State.raise_seat (c : Cause) : (s.raise c).seat x = s.seat x := rfl
@[simp] theorem State.write_seat (w : StoreWrite) : (s.write w).seat x = s.seat x := rfl
@[simp] theorem State.settle_seat : s.settle.seat x = s.seat x := rfl
@[simp] theorem State.modPack_seat (t : Nat) (f : PackRec → PackRec) : (s.modPack t f).seat x = s.seat x := rfl
@[simp] theorem State.setMark_seat (t : Nat) (m : Option Nat) : (s.setMark t m).seat x = s.seat x := rfl
@[simp] theorem State.addPack_seat (r : PackRec) : (s.addPack r).seat x = s.seat x := rfl
@[simp] theorem State.reply_seat (k : Byte) (st : Status) (cs : List Byte) : (s.reply k st cs).seat x = s.seat x := rfl
@[simp] theorem State.drawn_seat : s.drawn.seat x = s.seat x := rfl
@[simp] theorem State.modLine_seat (f : LineRec → LineRec) : (s.modLine b f).seat x = s.seat x := rfl

theorem State.foldl_seat {α : Type} {f : State → α → State} (h : ∀ (u : State) a, (f u a).seat x = u.seat x)
    (l : List α) : (l.foldl f s).seat x = s.seat x := by
  induction l generalizing s with
  | nil => rfl
  | cons a l ih => rw [List.foldl_cons, ih, h]

@[simp] theorem State.savePack_seat (t : Nat) : (s.savePack t).seat x = s.seat x := by
  unfold State.savePack
  split <;> rfl

@[simp] theorem State.saveCharge_seat (t : Nat) : (s.saveCharge t).seat x = s.seat x := by
  unfold State.saveCharge
  split <;> rfl

@[simp] theorem State.saveChargeAt_seat : (s.saveChargeAt b).seat x = s.seat x := by
  unfold State.saveChargeAt
  split <;> simp

@[simp] theorem State.saveChargesAt_seat : (s.saveChargesAt b).seat x = s.seat x :=
  s.foldl_seat x (fun u t => u.saveCharge_seat x t) _

@[simp] theorem State.setPlace_seat (t : Nat) (p : Place) : (s.setPlace t p).seat x = s.seat x := by
  simp [State.setPlace]

@[simp] theorem State.loseAt_seat : (s.loseAt b).seat x = s.seat x :=
  s.foldl_seat x (fun u (r : PackRec) => u.setPlace_seat x r.tag .unaccounted) _

@[simp] theorem State.settleAt_seat (t : Option Nat) (c : Cause) : (s.settleAt b t c).seat x = s.seat x :=
  s.foldl_seat x (fun u (r : PackRec) => by rw [State.raise_seat, State.setPlace_seat]) _

@[simp] theorem State.resetEqualizeAt_seat : (s.resetEqualizeAt b).seat x = s.seat x := by
  unfold State.resetEqualizeAt
  split <;> simp

@[simp] theorem State.leaveStage_seat (st : Stage) : (s.leaveStage b st).seat x = s.seat x := by
  unfold State.leaveStage
  split <;> simp

@[simp] theorem State.quarantineFor_seat (ks : List FaultKind) : (s.quarantineFor b ks).seat x = s.seat x := by
  unfold State.quarantineFor State.quarantinePack
  split
  · split
    · split <;> simp
    · rfl
  · rfl

@[simp] theorem State.cancelPart_seat : (s.cancelPart b).seat x = s.seat x :=
  s.foldl_seat x (fun u t => u.setMark_seat x t none) _

@[simp] theorem State.loseIdentity_seat : (s.loseIdentity b).seat x = s.seat x := by
  unfold State.loseIdentity
  split <;> simp

@[simp] theorem State.takeRemoval_seat : (s.takeRemoval b).seat x = s.seat x := by
  have confirm : ∀ (u : State) m t, (u.confirmPack m t).seat x = u.seat x := fun u m t => by
    unfold State.confirmPack
    split
    · rfl
    · rw [State.saveCharge_seat]
      exact State.savePack_seat _ x t
  simp only [State.takeRemoval]
  split
  · simp only [State.removalOf]
    split
    · exact s.foldl_seat x (fun u t => u.setPlace_seat x t _) _
    · exact s.foldl_seat x (fun u t => confirm u _ t) _
  · rfl

@[simp] theorem State.checkRound_seat : s.checkRound.seat x = s.seat x := by
  unfold State.checkRound
  split <;> rfl

@[simp] theorem State.endSlot_seat : s.endSlot.seat x = s.seat x := State.checkRound_seat _ x

@[simp] theorem State.promptAdd_seat : (s.promptAdd b).seat x = s.seat x := by
  unfold State.promptAdd
  split <;> rfl

@[simp] theorem State.setCarried_seat (n : Nat) : (s.setCarried b n).seat x = s.seat x := by
  have hcarry : (s.modGrant b fun e => { e with carried := n }).seat x = s.seat x := by
    simp only [State.seat, State.modGrant_grant, State.modGrant_bay, State.modGrant_faultRec]
    split
    · next h => rw [h]
    · rfl
  simp only [State.setCarried]
  split
  · rw [State.pass_seat, hcarry]
  · exact hcarry

/-! ## What an operation does to the seat of its bay -/

/-- An update of the bay's sequencer that does not read the drive. -/
theorem State.modBay_seat {f : Bay → Bay} (hf : ∀ y, (f y).outline = (f y.outline).outline) :
    (s.modBay b f).seat b = { s.seat b with bay := (f (s.seat b).bay).outline } := by
  simp only [State.seat, State.modBay_bay, if_true, State.modBay_grant, State.modBay_faultRec]
  rw [hf]

@[simp] theorem State.modSession_seat (f : Session → Session) :
    (s.modSession b f).seat b = (s.seat b).withSession ((s.seat b).bay.session.map f) :=
  s.modBay_seat b fun _ => rfl

theorem State.enterStage_seat (k : StageNo) (m : Bool) : (s.enterStage b k m).seat b =
    (s.seat b).withSession ((s.seat b).bay.session.map fun se => se.entered k s.now (s.baseAt b k) m) :=
  s.modSession_seat b _

@[simp] theorem State.setFault_seat (r : Option FaultRec) : (s.setFault b r).seat b = { s.seat b with fault := r } := by
  simp [State.seat]

theorem State.setIdentity_seat (i : Identity) :
    (s.setIdentity b i).seat b = { s.seat b with bay := { (s.seat b).bay with identity := i } } :=
  s.modBay_seat b fun _ => rfl

@[simp] theorem State.acceptKnown_seat (t : Nat) : (s.acceptKnown b t).seat x = s.seat x := by
  unfold State.acceptKnown
  split
  · rfl
  · simp only [State.savePack_seat, State.modPack_seat]
    split <;> rfl

/-- Setting a request, with its queue and the pass that follows. -/
theorem State.releaseRequest_seat : (s.releaseRequest b).seat b = (s.seat b).asking 0 :=
  Seat.ext (s.releaseRequest_bay_outline b b) (State.faultRec_of_outline (s.releaseRequest_outline b) b :)
    (by
      change ((s.releaseRequest b).grant b).request = 0
      rw [State.request_of_outline (s.releaseRequest_outline b), State.modGrant_grant, if_pos rfl])

theorem State.handRequest_seat (r : Nat) : (s.handRequest b r).seat b = (s.seat b).asking r := by
  unfold State.handRequest
  split
  · next h => exact Seat.ext rfl rfl h
  · rw [State.pass_seat, State.seat_of_outline (s.enterRequest_outline b r) b]
    simp [State.seat, Seat.asking]

theorem State.releaseAtRest_seat :
    (s.releaseAtRest b).seat b = (s.seat b).asking (if s.atRest b then 0 else (s.seat b).request) := by
  unfold State.releaseAtRest
  split
  · exact s.releaseRequest_seat b
  · rfl

theorem State.moveTo_seat (st : BayState) : (s.moveTo b st).seat b = (s.seat b).inState st := by
  rw [State.moveTo, State.redrive_seat]
  exact s.modBay_seat b fun _ => rfl

theorem State.toVacant_seat :
    (s.toVacant b).seat b = { s.seat b with bay := { (s.seat b).bay.emptied with state := .vacant } } := by
  rw [State.toVacant, State.moveTo_seat, State.modBay_seat _ _ fun _ => rfl]
  rfl

theorem State.toFreshIdentify_seat : (s.toFreshIdentify b).seat b =
    { s.seat b with bay := { (s.seat b).bay.emptied with reconcile := .no, state := .identify } } := by
  rw [State.toFreshIdentify, State.moveTo_seat, State.modBay_seat _ _ fun _ => rfl]
  rfl

theorem State.dock_seat : (s.dock b).seat b =
    { s.seat b with bay := { (s.seat b).bay.emptied with dockTime := some s.now, state := .identify } } := by
  rw [State.dock, State.moveTo_seat, State.modBay_seat _ _ fun _ => rfl]
  rfl

theorem State.toStandby_seat (e : Ending) : (s.toStandby b e).seat b = { s.seat b with
    bay := { (s.seat b).bay with outcome := e, coolExpiry := none, preIssue := none, state := .standby } } := by
  rw [State.toStandby, State.moveTo_seat, State.modBay_seat _ _ fun _ => rfl]
  rfl

theorem State.openSession_seat (p : ProfileNo) (w : Bool) (e : Ending) :
    (s.openSession b p w e).seat b = { s.seat b with bay := { (s.seat b).bay with
      session := some (Session.fresh p w e), outcome := .none, coolExpiry := none, preIssue := none } } := by
  simp [State.openSession, State.seat]
  rfl

theorem State.endSession_seat : (s.endSession b).seat b = ((s.seat b).withSession none).asking
    (if (s.seat b).bay.session.isSome then 0 else (s.seat b).request) := by
  unfold State.endSession
  have hsession : (s.seat b).bay.session = (s.bay b).session := rfl
  rw [hsession]
  split
  · rw [State.releaseRequest_seat]
    simp [State.seat, Seat.asking, Seat.withSession]
    rfl
  · next h =>
    refine Seat.ext ?_ rfl rfl
    have hnone : (s.bay b).session = none := by simpa using h
    change (s.bay b).outline = { (s.bay b).outline with session := none }
    rw [← hnone]
    rfl

/-- A latch (R143, R144): the session is gone with its request, and the record is that of the state before. -/
theorem State.latch_seat (k : FaultKind) (ks : List FaultKind) (n : Option Nat) (c : Option ClassNo) (own : Bool) :
    (s.latch b k ks n c own).seat b =
      { bay := { (s.seat b).bay with session := none, identity := .empty, outcome := .none, preIssue := none,
                                     coolExpiry := none, state := .fault }
        fault := some (s.faultRecord b k ks n c)
        request := if (s.bay b).session.isSome then 0 else (s.grant b).request } := by
  have hsaved : (((if (s.bay b).state = .release then (s.setFault b (some (s.faultRecord b k ks n c))).cancelPart b
      else s.setFault b (some (s.faultRecord b k ks n c))).saveChargesAt b).seat b) =
        { s.seat b with fault := some (s.faultRecord b k ks n c) } := by
    rw [State.saveChargesAt_seat]
    split <;> simp
  simp only [State.latch, State.relevel_seat, State.handUnless_seat, State.moveTo_seat]
  rw [State.modBay_seat _ _ fun _ => rfl, State.quarantineFor_seat, State.endSession_seat, hsaved]
  rfl

end

end Sys2Proof.Machine
end

section
/-! SUPPORT. Bay states, records and sessions go together (R35, R37, R45, R140): a bay that stands right stands right after
each operation on it, where the operation is taken in a state in which the rules take it. -/

namespace Sys2Proof.Machine

/-- A bay state in which a session runs (R35). -/
def BayState.holdsSession : BayState → Bool
  | .assess => true
  | .charge => true
  | .maintain => true
  | _ => false

/-- A seat that would be right in bay state `st`. -/
structure Seat.Fits (n : Seat) (st : BayState) : Prop where
  fault : st = .fault ↔ n.fault.isSome = true
  session : n.bay.session.isSome = st.holdsSession
  preIssue : n.bay.preIssue.isSome = true → st = .release
  request : n.request ≠ 0 → st = .charge ∨ st = .maintain

/-- A seat that is right. -/
def Seat.Right (n : Seat) : Prop := n.Fits n.bay.state

/-- A seat whose fault record is empty, and whose request is 0 without a session: what a seat in a state other than FAULT
is. -/
structure Seat.Sound (n : Seat) : Prop where
  fault : n.fault = none
  request : n.bay.session = none → n.request = 0

theorem State.baysOk_iff (s : State) : s.BaysOk ↔ ∀ b, (s.seat b).Right :=
  forall_congr' fun _ => ⟨fun ⟨hf, hs, hp, hr⟩ => ⟨hf, hs, hp, hr⟩, fun ⟨hf, hs, hp, hr⟩ => ⟨hf, hs, hp, hr⟩⟩

section
variable {n : Seat} {st : BayState}

theorem Seat.Right.sound (h : n.Right) (hst : n.bay.state ≠ .fault) : n.Sound where
  fault := by simpa using fun hf => hst (h.fault.2 (Option.isSome_iff_ne_none.2 hf))
  request hs := by
    by_contra hr
    have hheld := h.session
    rcases h.request hr with hc | hc <;> simp [hs, hc, BayState.holdsSession] at hheld

theorem Seat.Right.session_none (h : n.Right) (hst : n.bay.state.holdsSession = false) : n.bay.session = none := by
  have hs := h.session
  rw [hst] at hs
  simpa using hs

theorem Seat.Right.preIssue_none (h : n.Right) (hst : n.bay.state ≠ .release) : n.bay.preIssue = none := by
  simpa using fun hp => hst (h.preIssue (Option.isSome_iff_ne_none.2 hp))

theorem Seat.Right.request_zero (h : n.Right) (hc : n.bay.state ≠ .charge) (hm : n.bay.state ≠ .maintain) :
    n.request = 0 := by
  by_contra hr
  exact (h.request hr).elim hc hm

/-- Whether a seat is right follows from its state, its session, its pre-issue state, its record and its request. -/
theorem Seat.Right.congr {n' : Seat} (h : n.Right) (hst : n'.bay.state = n.bay.state)
    (hs : n'.bay.session.isSome = n.bay.session.isSome) (hp : n'.bay.preIssue = n.bay.preIssue)
    (hf : n'.fault.isSome = n.fault.isSome) (hr : n'.request = n.request) : n'.Right := by
  refine ⟨?_, ?_, ?_, ?_⟩
  · rw [hst, hf]; exact h.fault
  · rw [hst, hs]; exact h.session
  · rw [hst, hp]; exact h.preIssue
  · rw [hst, hr]; exact h.request

/-- A right seat that loses its request is right. -/
theorem Seat.Right.asking_zero (h : n.Right) (p : Prop) [Decidable p] : (n.asking (if p then 0 else n.request)).Right :=
  ⟨h.fault, h.session, h.preIssue, fun hr => h.request fun h0 => hr (by simp [Seat.asking, h0])⟩

/-- A sound seat without a session is right in a state that holds none, but for FAULT. -/
theorem Seat.Sound.right_idle {n' : Seat} (h : n.Sound) (hf : n'.fault = n.fault) (hr : n'.request = n.request)
    (hnone : n.bay.session = none) (hs : n'.bay.session = none) (hst : n'.bay.state.holdsSession = false)
    (hn : n'.bay.state ≠ .fault) (hp : n'.bay.preIssue = none ∨ n'.bay.state = .release) : n'.Right := by
  refine ⟨?_, ?_, fun h' => ?_, fun h' => ?_⟩
  · simp [hf, h.fault, hn]
  · simp [hs, hst]
  · rcases hp with hp | hp
    · simp [hp] at h'
    · exact hp
  · exact absurd (hr.trans (h.request hnone)) h'

/-- A sound seat with a session is right in CHARGE and in MAINTAIN. -/
theorem Seat.Sound.right_powered {n' : Seat} (hf : n'.fault = none) (hs : n'.bay.session.isSome = true)
    (hp : n'.bay.preIssue = none) (hst : n'.bay.state = .charge ∨ n'.bay.state = .maintain) : n'.Right := by
  refine ⟨?_, ?_, fun h' => ?_, fun _ => hst⟩
  · rcases hst with hst | hst <;> simp [hf, hst]
  · rcases hst with hst | hst <;> simp [hs, hst, BayState.holdsSession]
  · simp [hp] at h'

end

/-! ## Operations on a bay -/

section
variable {s : State} {b : BayNo}

/-- A latch leaves a right seat, from any seat whose request is 0 without a session. -/
theorem State.latch_right (h : (s.bay b).session = none → (s.grant b).request = 0) (k : FaultKind)
    (ks : List FaultKind) (m : Option Nat) (c : Option ClassNo) (own : Bool) :
    ((s.latch b k ks m c own).seat b).Right := by
  rw [State.latch_seat]
  refine ⟨by simp, by simp [BayState.holdsSession], fun h' => by simp at h', fun hr => absurd ?_ hr⟩
  dsimp only
  split
  · rfl
  · next hs => exact h (by simpa using hs)

theorem Seat.Sound.latch_right (h : (s.seat b).Sound) (k : FaultKind) (ks : List FaultKind) (m : Option Nat)
    (c : Option ClassNo) (own : Bool) : ((s.latch b k ks m c own).seat b).Right :=
  State.latch_right h.request k ks m c own

/-- A session starts right at a bay without one (R35). -/
theorem State.startSession_right (h : (s.seat b).Sound) (hnone : (s.bay b).session = none)
    (toCharge warm own : Bool) : ((s.startSession b toCharge warm own).seat b).Right := by
  unfold State.startSession
  split
  · exact h.latch_right _ _ _ _ _
  · split
    · rw [State.relevel_seat, State.releaseAtRest_seat]
      refine Seat.Right.asking_zero ?_ _
      rw [State.moveTo_seat, State.enterStage_seat, State.openSession_seat]
      exact Seat.Sound.right_powered h.fault rfl rfl (.inl rfl)
    · rw [State.moveTo_seat, State.openSession_seat]
      refine ⟨?_, rfl, fun h' => by simp [Seat.inState] at h', fun hr => absurd (h.request hnone) hr⟩
      simp [Seat.inState, h.fault]

/-- A bay without a session goes right to STANDBY. -/
theorem Seat.Sound.toStandby_right (h : (s.seat b).Sound) (hnone : (s.seat b).bay.session = none) (e : Ending) :
    ((s.toStandby b e).seat b).Right := by
  rw [State.toStandby_seat]
  exact h.right_idle rfl rfl hnone hnone rfl (by simp) (.inl rfl)

/-- A bay comes back right from RELEASE (R46). -/
theorem State.returnFromRelease_right (h : (s.seat b).Right) : ((s.returnFromRelease b).seat b).Right := by
  have hrelease : (s.bay b).preIssue ≠ none → (s.seat b).bay.state = .release := fun hp =>
    h.preIssue (Option.isSome_iff_ne_none.2 hp)
  have hsound : (s.bay b).preIssue ≠ none → (s.seat b).Sound := fun hp => h.sound (by rw [hrelease hp]; decide)
  have hstandby : ∀ e, (s.bay b).preIssue ≠ none → ((s.toStandby b e).seat b).Right := fun e hp =>
    (hsound hp).toStandby_right (h.session_none (by rw [hrelease hp]; rfl)) e
  unfold State.returnFromRelease
  split
  · next hp =>
    have hp : (s.bay b).preIssue ≠ none := by rw [hp]; simp
    unfold State.returnToMaintain
    split
    · exact (hsound hp).latch_right _ _ _ _ _
    · split
      · rw [State.releaseAtRest_seat]
        refine Seat.Right.asking_zero ?_ _
        rw [State.moveTo_seat, State.enterStage_seat, State.openSession_seat]
        exact Seat.Sound.right_powered (hsound hp).fault rfl rfl (.inr rfl)
      · exact hstandby _ hp
  · next hp => exact hstandby _ (by rw [hp]; simp)
  · exact h

theorem State.coolEnds_right (h : (s.seat b).Right) (hst : (s.seat b).bay.state = .cooling) :
    ((s.coolEnds b).seat b).Right := by
  have hseat : (s.modBay b fun y => { y with coolExpiry := none }).seat b =
      { s.seat b with bay := { (s.seat b).bay with coolExpiry := none } } := s.modBay_seat b fun _ => rfl
  have hsound := h.sound (by rw [hst]; decide)
  refine State.startSession_right ?_ ?_ _ true false
  · rw [hseat]
    exact ⟨hsound.fault, hsound.request⟩
  · rw [State.session_of_seat hseat]
    exact h.session_none (by rw [hst]; rfl)

/-! ## Identification -/

theorem State.goOn_right (h : (s.seat b).Right) (hst : (s.seat b).bay.state = .identify) (tm : Int) :
    ((s.goOn b tm).seat b).Right := by
  have hsound := h.sound (by rw [hst]; decide)
  have hnone : (s.seat b).bay.session = none := h.session_none (by rw [hst]; rfl)
  unfold State.goOn
  split
  · exact h
  · split
    · rw [State.toCooling, State.moveTo_seat, State.modBay_seat _ _ fun _ => rfl]
      exact hsound.right_idle rfl rfl hnone hnone rfl (by simp [Seat.inState])
        (.inl (h.preIssue_none (by rw [hst]; decide)))
    · exact State.startSession_right hsound hnone _ false false

theorem State.actOnVerdict_right (h : (s.seat b).Right) (hst : (s.seat b).bay.state = .identify) (tm : Int)
    (v : Verdict) : ((s.actOnVerdict b tm v).seat b).Right := by
  have hsound : (s.seat b).Sound := h.sound (by rw [hst]; decide)
  have hid : ∀ (u : State) i, u.seat b = s.seat b →
      ((u.setIdentity b i).seat b).Right ∧ ((u.setIdentity b i).seat b).bay.state = .identify := by
    intro u i hu
    rw [State.setIdentity_seat, hu]
    exact ⟨h.congr rfl rfl rfl rfl rfl, hst⟩
  have hgo : ∀ (u : State) i, u.seat b = s.seat b → (((u.setIdentity b i).goOn b tm).seat b).Right := fun u i hu =>
    State.goOn_right (hid u i hu).1 (hid u i hu).2 tm
  unfold State.actOnVerdict
  split
  · exact hgo _ _ (s.acceptKnown_seat b b _)
  · exact hgo _ _ (s.addPack_seat b _)
  · next t _ =>
    obtain ⟨hright, hstate⟩ := hid _ (.registered t) (s.acceptKnown_seat b b t)
    exact (hright.sound (by rw [hstate]; decide)).toStandby_right (hright.session_none (by rw [hstate]; rfl)) _
  · exact hgo _ _ rfl
  · exact hsound.latch_right _ _ _ _ _
  · exact hsound.latch_right _ _ _ _ _

theorem State.identify_right (h : (s.seat b).Right) (hst : (s.seat b).bay.state = .identify) (rep : Report) :
    ((s.identify b rep).seat b).Right := by
  have hmore : (s.modBay b fun y => { y with attempts := min 3 (y.attempts + 1) }).seat b =
      { s.seat b with bay := { (s.seat b).bay with attempts := min 3 ((s.seat b).bay.attempts + 1) } } :=
    s.modBay_seat b fun _ => rfl
  have hright : ((s.modBay b fun y => { y with attempts := min 3 (y.attempts + 1) }).seat b).Right := by
    rw [hmore]
    exact h.congr rfl rfl rfl rfl rfl
  unfold State.identify
  split
  · split
    · exact State.actOnVerdict_right (s := s.raise .regfull) h hst _ _
    · exact State.actOnVerdict_right h hst _ _
  · simp only
    split
    · exact State.actOnVerdict_right hright (by rw [hmore]; exact hst) _ _
    · exact hright

end

end Sys2Proof.Machine
end

section
/-! SUPPORT. What the action of an exit does to the seat of its bay (R39, R60, R65 to R72). -/

namespace Sys2Proof.Machine

section
variable (s : State) (b : BayNo)

/-! ## Leaving a stage, and the base of a charge budget -/

theorem State.leaveStage_bays (st : Stage) : (s.leaveStage b st).bays = s.bays := by
  unfold State.leaveStage State.resetEqualizeAt State.savePack
  split
  · split
    · split <;> rfl
    · rfl
  · rfl

theorem State.leaveStage_profiles (st : Stage) : (s.leaveStage b st).profiles = s.profiles :=
  State.profiles_of_away (s.leaveStage_away b b st)

theorem State.leaveStage_now (st : Stage) : (s.leaveStage b st).now = s.now :=
  State.now_of_away (s.leaveStage_away b b st)

/-- Leaving a stage changes the equalize count of the bay's pack alone (R71). -/
theorem State.leaveStage_pack (st : Stage) (t : Nat) : (s.leaveStage b st).pack t =
    if st.equalizeMark = true ∧ (s.bay b).identity = .registered t then
      (s.pack t).map fun r => { r with equalize := 0 } else s.pack t := by
  have hsave : ∀ (u : State) g, (u.savePack g).pack t = u.pack t := fun u g => by
    unfold State.savePack
    split <;> rfl
  unfold State.leaveStage State.resetEqualizeAt
  cases hm : st.equalizeMark with
  | false => simp
  | true =>
    cases hi : (s.bay b).identity with
    | registered g =>
      simp only [if_true, hsave, true_and, Identity.registered.injEq]
      rw [State.modPack_pack]
      · by_cases h : t = g
        · rw [if_pos h, if_pos h.symm]
        · rw [if_neg h, if_neg (Ne.symm h)]
      · exact fun _ => rfl
    | empty => simp
    | anonymous c q k => simp

theorem State.leaveStage_classAt (st : Stage) : (s.leaveStage b st).classAt b = s.classAt b := by
  have hclass : (s.leaveStage b st).classInUse b = s.classInUse b := by
    unfold State.classInUse
    rw [State.bay, State.leaveStage_bays, ← State.bay]
    split
    · rfl
    · rw [State.leaveStage_pack]
      split
      · rw [Option.map_map]
        rfl
      · rfl
    · rfl
  have hrec : (s.leaveStage b st).classRec = s.classRec := by
    funext c
    rw [State.classRec, State.classes_of_away (s.leaveStage_away b b st), State.classRec]
  rw [State.classAt, hclass, hrec, State.classAt]

/-- The base of a charge budget follows from the session's profile, the class and the store of profiles (R60). -/
theorem State.baseAt_congr {s t : State} {b : BayNo} {se se' : Session} (hs : (s.bay b).session = some se)
    (ht : (t.bay b).session = some se') (hp : se'.profile = se.profile) (hc : t.classAt b = s.classAt b)
    (hpr : t.profiles = s.profiles) (k : StageNo) : t.baseAt b k = s.baseAt b k := by
  unfold State.baseAt
  rw [hs, ht, hc]
  cases s.classAt b with
  | none => rfl
  | some cr => simp only [State.profile, hpr, hp]

/-- A bay that has left its stage keeps its session, the stage base of each position, and the clock. -/
theorem State.leaveStage_baseAt (st : Stage) (k : StageNo) : (s.leaveStage b st).baseAt b k = s.baseAt b k := by
  unfold State.baseAt
  rw [State.leaveStage_classAt, State.bay, State.leaveStage_bays, ← State.bay]
  simp only [State.profile, State.leaveStage_profiles]

/-- A changed session on the same profile has the same stage bases. -/
theorem State.modSession_baseAt {f : Session → Session} (k : StageNo) (hf : ∀ x, (f x).profile = x.profile) :
    (s.modSession b f).baseAt b k = s.baseAt b k := by
  have hc : (s.modSession b f).classAt b = s.classAt b := by
    simp [State.classAt, State.classInUse, State.modSession, State.pack, State.classRec]
    rfl
  cases hse : (s.bay b).session with
  | some se => exact State.baseAt_congr hse (by simp [State.modSession, hse]) (hf se) hc rfl k
  | none =>
    have hnone : ((s.modSession b f).bay b).session = none := by simp [State.modSession, hse]
    unfold State.baseAt
    rw [hse, hnone]

/-! ## Going on in CHARGE -/

variable {s b}

/-- From CHARGE the bay goes on there, but for its request. -/
theorem State.goOnInCharge_seat_of_charge (h : (s.bay b).state = .charge) :
    ∃ r, (s.goOnInCharge b).seat b = (s.seat b).asking r := by
  unfold State.goOnInCharge
  rw [h, if_neg (by decide)]
  exact ⟨_, s.releaseAtRest_seat b⟩

/-- From MAINTAIN it moves to CHARGE with outcome NONE and the session served time 0 (R39). -/
theorem State.goOnInCharge_seat_of_maintain (h : (s.bay b).state = .maintain) :
    ∃ r, (s.goOnInCharge b).seat b = (((s.seat b).withSession ((s.seat b).bay.session.map fun se =>
      { se with outcome := .none, sessionServed := 0 })).inState .charge).asking r := by
  unfold State.goOnInCharge
  rw [if_pos h, State.handAllReady_seat, State.relevel_seat, State.releaseAtRest_seat, State.moveTo_seat,
    State.modSession_seat]
  exact ⟨_, rfl⟩

end

/-! ## The actions -/

section
variable {s : State} {b : BayNo} {se : Session}

/-- A stage left and another entered, with a change of the session record between. -/
theorem State.leave_enter_seat (hse : (s.bay b).session = some se) (st : Stage) {f : Session → Session}
    (hf : ∀ x, (f x).profile = x.profile) (k : StageNo) (m : Bool) :
    (((s.leaveStage b st).modSession b f).enterStage b k m).seat b =
      (s.seat b).withSession (some ((f se).entered k s.now (s.baseAt b k) m)) := by
  have hs : (s.seat b).bay.session = some se := hse
  rw [State.enterStage_seat, State.modSession_seat, State.leaveStage_seat, State.modSession_baseAt _ _ _ hf,
    State.leaveStage_baseAt, State.modSession, State.modBay_now, State.leaveStage_now, hs]
  rfl

theorem State.leave_enter_seat' (hse : (s.bay b).session = some se) (st : Stage) (k : StageNo) (m : Bool) :
    ((s.leaveStage b st).enterStage b k m).seat b =
      (s.seat b).withSession (some (se.entered k s.now (s.baseAt b k) m)) := by
  have hs : (s.seat b).bay.session = some se := hse
  rw [State.enterStage_seat, State.leaveStage_seat, State.leaveStage_baseAt, State.leaveStage_now, hs]
  rfl

/-- GOTO in CHARGE (R65). -/
theorem State.doGoto_seat_of_charge (hse : (s.bay b).session = some se) (hst : (s.bay b).state = .charge) (st : Stage)
    (k : StageNo) : ∃ r, (s.doGoto b st k).seat b =
      ((s.seat b).withSession (some (se.entered k s.now (s.baseAt b k) false))).asking r := by
  have henter := State.leave_enter_seat' hse st k false
  obtain ⟨r, hr⟩ := State.goOnInCharge_seat_of_charge (s := (s.leaveStage b st).enterStage b k false) (b := b)
    (by rw [State.state_of_seat henter]; exact hst)
  simp only [State.doGoto, hst, reduceCtorEq, false_and, if_false]
  exact ⟨r, by rw [hr, henter]⟩

/-- A re-arm in MAINTAIN (R72). -/
theorem State.rearm_seat (hse : (s.bay b).session = some se) (st : Stage) (k : StageNo) :
    ∃ r, ((s.leaveStage b st).rearm b k).seat b =
      ((s.seat b).withSession (some (se.entered k s.now (s.baseAt b k) false))).asking r := by
  rw [State.rearm, State.releaseAtRest_seat, State.leave_enter_seat' hse]
  exact ⟨_, rfl⟩

theorem State.doGoto_seat_rearm (hse : (s.bay b).session = some se) (hst : (s.bay b).state = .maintain) (st : Stage)
    {k : StageNo} (hk : s.maintainStage b = some k) : ∃ r, (s.doGoto b st k).seat b =
      ((s.seat b).withSession (some (se.entered k s.now (s.baseAt b k) false))).asking r := by
  simp only [State.doGoto, hst, hk, and_self, if_true]
  exact State.rearm_seat hse st k

/-- The session of a bay that an action takes back to CHARGE (R39). -/
def Session.back (se : Session) : Session := { se with outcome := .none, sessionServed := 0 }

/-- GOTO in MAINTAIN to another stage than the maintain stage (R39). -/
theorem State.doGoto_seat_back (hse : (s.bay b).session = some se) (hst : (s.bay b).state = .maintain) (st : Stage)
    {k : StageNo} (hk : s.maintainStage b ≠ some k) : ∃ r, (s.doGoto b st k).seat b =
      (((s.seat b).withSession (some (se.entered k s.now (s.baseAt b k) false).back)).inState .charge).asking r := by
  have henter := State.leave_enter_seat' hse st k false
  obtain ⟨r, hr⟩ := State.goOnInCharge_seat_of_maintain (s := (s.leaveStage b st).enterStage b k false) (b := b)
    (by rw [State.state_of_seat henter]; exact hst)
  simp only [State.doGoto, hk, and_false, if_false]
  exact ⟨r, by rw [hr, henter]; rfl⟩

/-- A session called away from a stage (R66). -/
def Session.called (se : Session) (caller : StageNo) (resume : Bool) : Session :=
  { se with frames := se.frame caller resume :: se.frames }

/-- The frame that a CALL pushes is that of the session it is taken in. -/
theorem State.call_enter_seat (hse : (s.bay b).session = some se) (k : StageNo) (st : Stage) (j : StageNo) (r : Bool) :
    (((s.leaveStage b st).modSession b fun x => { x with frames := se.frame k r :: x.frames }).enterStage b j
      true).seat b = (s.seat b).withSession (some ((se.called k r).entered j s.now (s.baseAt b j) true)) :=
  State.leave_enter_seat (f := fun x => { x with frames := se.frame k r :: x.frames }) hse st
    (fun _ => rfl) j true

theorem State.doCall_seat_of_charge (hse : (s.bay b).session = some se) (hst : (s.bay b).state = .charge)
    (hroom : se.frames.length < Config.maxFrames) (k : StageNo) (st : Stage) (j : StageNo) (resume : Bool) :
    ∃ r, (s.doCall b se k st j resume).seat b =
      ((s.seat b).withSession (some ((se.called k resume).entered j s.now (s.baseAt b j) true))).asking r := by
  have henter := State.call_enter_seat hse k st j resume
  rw [State.doCall, if_neg (Nat.not_le.2 hroom)]
  obtain ⟨r, hr⟩ := State.goOnInCharge_seat_of_charge (b := b) ((State.state_of_seat henter).trans hst)
  exact ⟨r, by rw [hr, henter]⟩

theorem State.doCall_seat_back (hse : (s.bay b).session = some se) (hst : (s.bay b).state = .maintain)
    (hroom : se.frames.length < Config.maxFrames) (k : StageNo) (st : Stage) (j : StageNo) (resume : Bool) :
    ∃ r, (s.doCall b se k st j resume).seat b =
      (((s.seat b).withSession (some ((se.called k resume).entered j s.now (s.baseAt b j) true).back)).inState
        .charge).asking r := by
  have henter := State.call_enter_seat hse k st j resume
  rw [State.doCall, if_neg (Nat.not_le.2 hroom)]
  obtain ⟨r, hr⟩ := State.goOnInCharge_seat_of_maintain (b := b) ((State.state_of_seat henter).trans hst)
  exact ⟨r, by rw [hr, henter]; rfl⟩

/-- The session after a RETURN to frame `f` (R67). -/
def Session.returned (se : Session) (f : Frame) (fs : List Frame) (now : Nat) (base : Option Nat) : Session :=
  match f.saved with
  | some v => ({ se with frames := fs } : Session).resumed f.stage now v
  | none => ({ se with frames := fs } : Session).entered f.stage now base true

theorem State.doReturn_seat (hse : (s.bay b).session = some se) (st : Stage) {f : Frame} {fs : List Frame}
    (hf : se.frames = f :: fs) : ∃ r, (s.doReturn b se st).seat b =
      ((s.seat b).withSession (some (se.returned f fs s.now (s.baseAt b f.stage)))).asking r := by
  have hs : (s.seat b).bay.session = some se := hse
  cases hv : f.saved with
  | some v =>
    simp only [State.doReturn, hf, Session.returned, hv]
    rw [State.releaseAtRest_seat, State.modSession_seat, State.modSession_seat, State.leaveStage_seat, hs]
    exact ⟨_, rfl⟩
  | none =>
    simp only [State.doReturn, hf, Session.returned, hv]
    rw [State.releaseAtRest_seat,
      State.leave_enter_seat (f := fun x => { x with frames := fs }) hse st fun _ => rfl]
    exact ⟨_, rfl⟩

/-- The state of COMPLETE before the bay moves on (R68). -/
theorem State.complete_left_seat (hse : (s.bay b).session = some se) (st : Stage) :
    ((((s.leaveStage b st).modSession b fun x => { x with outcome := .complete, frames := [] }).saveChargeAt b).seat b) =
      (s.seat b).withSession (some { se with outcome := .complete, frames := [] }) := by
  have hs : (s.seat b).bay.session = some se := hse
  rw [State.saveChargeAt_seat, State.modSession_seat, State.leaveStage_seat, hs]
  rfl

theorem State.saveChargeAt_now (s : State) (b : BayNo) : (s.saveChargeAt b).now = s.now :=
  State.now_of_away (s.saveChargeAt_away b b)

theorem State.saveChargeAt_baseAt (s : State) (b : BayNo) (k : StageNo) : (s.saveChargeAt b).baseAt b k = s.baseAt b k := by
  obtain ⟨ws, h, -⟩ := s.saveChargeAt_inFlight b
  rw [h]
  rfl

/-- COMPLETE in CHARGE with a maintain stage (R38, R68). -/
theorem State.completeCharge_seat_maintain (hse : (s.bay b).session = some se) (st : Stage) {k : StageNo}
    (hk : s.maintainStage b = some k) : ∃ r, (s.completeCharge b st).seat b =
      (((s.seat b).withSession (some (({ se with outcome := .complete, frames := [], sessionServed := 0 } :
        Session).entered k s.now (s.baseAt b k) false))).inState .maintain).asking r := by
  have hbase : (((((s.leaveStage b st).modSession b fun x => { x with outcome := .complete, frames := [] }).saveChargeAt
      b).modSession b fun x => { x with sessionServed := 0 }).baseAt b k) = s.baseAt b k := by
    rw [State.modSession_baseAt, State.saveChargeAt_baseAt, State.modSession_baseAt, State.leaveStage_baseAt]
    · exact fun _ => rfl
    · exact fun _ => rfl
  have hnow : (((((s.leaveStage b st).modSession b fun x => { x with outcome := .complete, frames := [] }).saveChargeAt
      b).modSession b fun x => { x with sessionServed := 0 }).now) = s.now := by
    rw [State.modSession, State.modBay_now, State.saveChargeAt_now, State.modSession, State.modBay_now,
      State.leaveStage_now]
  simp only [State.completeCharge, hk, State.handAllReady_seat, State.relevel_seat, State.releaseAtRest_seat,
    State.moveTo_seat, State.enterStage_seat, State.modSession_seat, State.complete_left_seat hse, hbase, hnow]
  exact ⟨_, rfl⟩

/-- COMPLETE in CHARGE without one (R38, R68). -/
theorem State.completeCharge_seat_standby (hse : (s.bay b).session = some se) (st : Stage)
    (hk : s.maintainStage b = none) : (s.completeCharge b st).seat b = { s.seat b with
      bay := { (s.seat b).bay with session := none, outcome := .complete, coolExpiry := none, preIssue := none,
                                   state := .standby }
      request := 0 } := by
  simp only [State.completeCharge, hk, State.handAllReady_seat, State.relevel_seat, State.toStandby_seat,
    State.endSession_seat, State.complete_left_seat hse]
  rfl

/-! ## Right seats after an action -/

/-- A bay in CHARGE or MAINTAIN with its session, as an evaluation finds it. -/
structure Seat.Powered (n : Seat) : Prop where
  fault : n.fault = none
  preIssue : n.bay.preIssue = none
  session : n.bay.session.isSome = true
  state : n.bay.state = .charge ∨ n.bay.state = .maintain

theorem Seat.Powered.right {n : Seat} (h : n.Powered) : n.Right :=
  Seat.Sound.right_powered h.fault h.session h.preIssue h.state

theorem Seat.Powered.sound {n : Seat} (h : n.Powered) : n.Sound :=
  ⟨h.fault, fun hs => by have := h.session; simp [hs] at this⟩

theorem Seat.Right.powered {n : Seat} (h : n.Right) (hst : n.bay.state = .charge ∨ n.bay.state = .maintain) :
    n.Powered where
  fault := (h.sound (by rcases hst with hst | hst <;> rw [hst] <;> decide)).fault
  preIssue := h.preIssue_none (by rcases hst with hst | hst <;> rw [hst] <;> decide)
  session := by rw [h.session]; rcases hst with hst | hst <;> rw [hst] <;> rfl
  state := hst

theorem Seat.Powered.again {n : Seat} (h : n.Powered) (se : Session) (r : Nat) :
    ((n.withSession (some se)).asking r).Powered := ⟨h.fault, h.preIssue, rfl, h.state⟩

theorem Seat.Powered.moved {n : Seat} (h : n.Powered) (se : Session) {st : BayState}
    (hst : st = .charge ∨ st = .maintain) (r : Nat) : (((n.withSession (some se)).inState st).asking r).Powered :=
  ⟨h.fault, h.preIssue, rfl, hst⟩

/-- An action leaves the bay powered, or without a session in a right seat. -/
theorem State.takeAction_seat (h : (s.seat b).Powered) (hse : (s.bay b).session = some se) (k : StageNo) (st : Stage)
    (a : Action) : ((s.takeAction b se k st a).seat b).Powered ∨
      ((s.takeAction b se k st a).seat b).Right ∧ ((s.takeAction b se k st a).bay b).session = none := by
  have latched : ∀ k' n, ((s.latch b k' [] n none false).seat b).Right ∧
      ((s.latch b k' [] n none false).bay b).session = none := fun k' n =>
    ⟨h.sound.latch_right _ _ _ _ _, State.session_of_seat (s.latch_seat b k' [] n none false)⟩
  have back : ∀ {v : State} {se' : Session} {st' : BayState}, (st' = .charge ∨ st' = .maintain) →
      (∃ r, v.seat b = (((s.seat b).withSession (some se')).inState st').asking r) → (v.seat b).Powered :=
    fun hst ⟨r, hv⟩ => hv ▸ h.moved _ hst r
  have stay : ∀ {v : State} {se' : Session}, (∃ r, v.seat b = ((s.seat b).withSession (some se')).asking r) →
      (v.seat b).Powered := fun ⟨r, hv⟩ => hv ▸ h.again _ r
  have call : ∀ j r, ((s.doCall b se k st j r).seat b).Powered ∨
      ((s.doCall b se k st j r).seat b).Right ∧ ((s.doCall b se k st j r).bay b).session = none := fun j r => by
    rcases Nat.lt_or_ge se.frames.length Config.maxFrames with hroom | hfull
    · rcases h.state with hst | hst
      · exact .inl (stay (State.doCall_seat_of_charge hse hst hroom k st j r))
      · exact .inl (back (.inl rfl) (State.doCall_seat_back hse hst hroom k st j r))
    · rw [State.doCall, if_pos hfull]
      exact .inr (latched _ _)
  have complete : ((s.completeCharge b st).seat b).Powered ∨
      ((s.completeCharge b st).seat b).Right ∧ ((s.completeCharge b st).bay b).session = none := by
    cases hk : s.maintainStage b with
    | some j => exact .inl (back (.inr rfl) (State.completeCharge_seat_maintain hse st hk))
    | none =>
      have hseat := State.completeCharge_seat_standby hse st hk
      refine .inr ⟨?_, State.session_of_seat hseat⟩
      rw [hseat]
      exact ⟨by simp [h.fault], rfl, fun h' => by simp at h', fun h' => absurd rfl h'⟩
  cases a with
  | goto j =>
    rcases h.state with hst | hst
    · exact .inl (stay (State.doGoto_seat_of_charge hse hst st j))
    · by_cases hk : s.maintainStage b = some j
      · exact .inl (stay (State.doGoto_seat_rearm hse hst st hk))
      · exact .inl (back (.inl rfl) (State.doGoto_seat_back hse hst st hk))
  | callResume j => exact call j true
  | callRestart j => exact call j false
  | ret =>
    cases hf : se.frames with
    | nil =>
      simp only [State.takeAction, State.doReturn, hf]
      exact .inr (latched _ _)
    | cons f fs => exact .inl (stay (State.doReturn_seat hse st hf))
  | complete =>
    simp only [State.takeAction, State.doComplete]
    split
    · exact .inl (stay (State.rearm_seat hse st _))
    · exact complete
  | fault n => exact .inr (latched _ _)

end

end Sys2Proof.Machine
end

section
/-! SUPPORT. Every row keeps bay states, fault records and sessions together (R29, R35, R37, R45, R140): what the work at one
bay leaves of its seat, and that the other bays keep theirs. -/

namespace Sys2Proof.Machine

section
variable {s : State} {b : BayNo}

/-! ## A good report -/

theorem State.setChargeAt_seat (s : State) (b : BayNo) (q : Nat) :
    ∃ i, (s.setChargeAt b q).seat b = { s.seat b with bay := { (s.seat b).bay with identity := i } } := by
  unfold State.setChargeAt
  split
  · exact ⟨_, rfl⟩
  · exact ⟨_, rfl⟩
  · exact ⟨_, s.modBay_seat b fun _ => rfl⟩

theorem State.setKnownAt_seat (s : State) (b : BayNo) :
    ∃ i, (s.setKnownAt b).seat b = { s.seat b with bay := { (s.seat b).bay with identity := i } } := by
  unfold State.setKnownAt
  split
  · exact ⟨_, rfl⟩
  · exact ⟨_, by rw [State.savePack_seat]; rfl⟩
  · exact ⟨_, s.modBay_seat b fun _ => rfl⟩

/-- What the hand-off of an evaluation leaves of a seat with a session: its kept target and setpoint, and a request. -/
theorem State.handOff_seat (h : (s.bay b).session.isSome = true) (t i r : Nat) : ∃ r', (s.handOff b t i r).seat b =
    { s.seat b with bay := { (s.seat b).bay with keptTarget := t, keptIset := i }, request := r' } := by
  simp only [State.handOff, h, if_true]
  split
  · rw [State.redrive_seat, State.modBay_seat _ _ fun _ => rfl]
    exact ⟨_, rfl⟩
  · rw [State.handRequest_seat, State.redrive_seat, State.modBay_seat _ _ fun _ => rfl]
    exact ⟨_, rfl⟩

/-- Entering an evaluation replaces the session record (R62). -/
theorem State.enterEvaluation_seat (s : State) (b : BayNo) (se se' : Session) (st : Stage) (cr : ClassRec) (rep : Report)
    (prev : Nat) (fl : Flags) : ∃ i g, (s.enterEvaluation b se se' st cr rep prev fl).seat b = { s.seat b with
      bay := { (s.seat b).bay with identity := i, session := some { se' with lastFlags := fl }, gapCount := g } } := by
  obtain ⟨i, hi⟩ := State.setChargeAt_seat (s.modBay b fun y =>
    { y with session := some { se' with lastFlags := fl }
             gapCount := if intervalCapped se.restart (s.now - prev) then min 255 (y.gapCount + 1) else y.gapCount
    }) b (addCharge cr.capacity (s.chargeAt b) (se.storedNow (s.now - prev) rep.im st.acceptance))
  refine ⟨i, if intervalCapped se.restart (s.now - prev) then min 255 ((s.seat b).bay.gapCount + 1) else
    (s.seat b).bay.gapCount, hi.trans ?_⟩
  rw [State.modBay_seat _ _ fun _ => rfl]
  rfl

/-- An action does not read the last flags of its session. -/
theorem State.takeAction_lastFlags (s : State) (b : BayNo) (se : Session) (fl : Flags) (k : StageNo) (st : Stage)
    (a : Action) : s.takeAction b { se with lastFlags := fl } k st a = s.takeAction b se k st a := by
  cases a <;> rfl

/-- An action leaves the seat as the hand-off finds it: powered, or right without a session. -/
theorem State.handOff_right (h : (s.seat b).Powered ∨ (s.seat b).Right ∧ (s.bay b).session = none) (t i r : Nat) :
    ((s.handOff b t i r).seat b).Right := by
  rcases h with h | ⟨h, hnone⟩
  · obtain ⟨r', hr⟩ := State.handOff_seat h.session t i r
    rw [hr]
    exact Seat.Powered.right ⟨h.fault, h.preIssue, h.session, h.state⟩
  · rw [State.handOff, hnone]
    exact h

theorem State.evaluate_right (h : (s.seat b).Powered) (rep : Report) (prev : Nat) (on : Bool) :
    ((s.evaluate b rep prev on).seat b).Right := by
  unfold State.evaluate
  split
  · next se cr hse _ =>
    split
    · next k st _ =>
      obtain ⟨i, g, h3⟩ := s.enterEvaluation_seat b se (s.evaluated se st rep prev on) st cr rep prev
        (s.evaluationFlags b (s.evaluated se st rep prev on) st cr rep)
      have hpow : ((s.enterEvaluation b se (s.evaluated se st rep prev on) st cr rep prev
          (s.evaluationFlags b (s.evaluated se st rep prev on) st cr rep)).seat b).Powered := by
        rw [h3]
        exact ⟨h.fault, h.preIssue, rfl, h.state⟩
      simp only [State.evaluateAt]
      split
      · exact hpow.sound.latch_right _ _ _ _ _
      · split
        · obtain ⟨r', hr⟩ := State.handOff_seat hpow.session (packTarget cr st rep.tm) (effectiveSetpoint se.warm st.iset)
            (evaluationRequest se st cr rep)
          rw [State.modSession_seat, hr, h3]
          exact Seat.Powered.right ⟨h.fault, h.preIssue, rfl, h.state⟩
        · rw [← State.takeAction_lastFlags _ _ _ (s.evaluationFlags b (s.evaluated se st rep prev on) st cr rep)]
          exact State.handOff_right (State.takeAction_seat hpow (State.session_of_seat h3) _ _ _) _ _ _
    · exact h.right
  · exact h.right

/-- ASSESS ends right in CHARGE (R36). -/
theorem State.endAssess_right (h : (s.seat b).Right) (hst : (s.seat b).bay.state = .assess) (rep : Report)
    (cr : ClassRec) : ((s.endAssess b rep cr).seat b).Right := by
  have hheld : (s.seat b).bay.session.isSome = true := by rw [h.session, hst]; rfl
  obtain ⟨i, hi⟩ := s.setChargeAt_seat b (estimateCharge cr rep.vm)
  obtain ⟨j, hj⟩ := (s.setChargeAt b (estimateCharge cr rep.vm)).setKnownAt_seat b
  simp only [State.endAssess, State.relevel_seat]
  rw [State.releaseAtRest_seat]
  refine Seat.Right.asking_zero ?_ _
  rw [State.moveTo_seat, State.enterStage_seat, State.modSession_seat, hj, hi]
  refine Seat.Sound.right_powered ?_ ?_ ?_ (.inl rfl)
  · exact (h.sound (by rw [hst]; decide)).fault
  · simpa [Seat.inState, Seat.withSession] using hheld
  · exact h.preIssue_none (by rw [hst]; decide)

theorem State.toVacant_right (h : (s.seat b).Sound) (hnone : (s.seat b).bay.session = none) :
    ((s.toVacant b).seat b).Right := by
  rw [State.toVacant_seat]
  exact h.right_idle rfl rfl hnone hnone rfl (by simp) (.inl rfl)

/-- A seat after the end of its session: sound, and without one. -/
theorem State.endSession_sound (h : (s.seat b).Sound) :
    ((s.endSession b).seat b).Sound ∧ ((s.endSession b).seat b).bay.session = none := by
  rw [State.endSession_seat]
  refine ⟨⟨h.fault, fun _ => ?_⟩, rfl⟩
  simp only [Seat.asking]
  split
  · rfl
  · next hs => exact h.request (by simpa using hs)

theorem State.unexpectedRemoval_right (h : (s.seat b).Sound) : ((s.unexpectedRemoval b).seat b).Right := by
  have hend := State.endSession_sound h
  simp only [State.unexpectedRemoval, State.handAllReady_seat, State.relevel_seat]
  refine State.toVacant_right ?_ ?_
  · rw [State.raise_seat, State.loseIdentity_seat]
    exact hend.1
  · rw [State.raise_seat, State.loseIdentity_seat]
    exact hend.2

theorem State.presence_right (h : (s.seat b).Right) (rep : Report) : ((s.presence b rep).seat b).Right := by
  have idle : ∀ {st}, (s.bay b).state = st → st.holdsSession = false → (s.seat b).bay.session = none := fun hst hh =>
    h.session_none (by rw [show (s.seat b).bay.state = _ from hst]; exact hh)
  have sound : ∀ {st}, (s.bay b).state = st → st ≠ .fault → (s.seat b).Sound := fun hst hn =>
    h.sound (by rw [show (s.seat b).bay.state = _ from hst]; exact hn)
  unfold State.presence
  split
  · unfold State.presentAt
    split
    · next hst =>
      rw [State.dock_seat]
      exact (sound hst (by decide)).right_idle rfl rfl (idle hst rfl) (idle hst rfl) rfl (by simp) (.inl rfl)
    · rw [State.stampDock, State.modBay_seat _ _ fun _ => rfl]
      exact h.congr rfl rfl rfl rfl rfl
    · exact h
  · unfold State.absentAt
    split
    · exact h
    · next hst =>
      have hseat : (if (s.packsAt b).isEmpty then s else (s.loseAt b).raise .taken).seat b = s.seat b := by
        split <;> simp
      refine State.toVacant_right ?_ ?_
      · rw [hseat]
        exact sound hst (by decide)
      · rw [hseat]
        exact idle hst rfl
    · next hst => exact State.unexpectedRemoval_right (sound hst (by decide))
    · next hst => exact State.unexpectedRemoval_right (sound hst (by decide))
    · next hst => exact State.unexpectedRemoval_right (sound hst (by decide))
    · next hst => exact State.unexpectedRemoval_right (sound hst (by decide))
    · next hst => exact State.unexpectedRemoval_right (sound hst (by decide))
    · next hst =>
      refine State.toVacant_right ?_ ?_
      · rw [State.takeRemoval_seat]
        exact sound hst (by decide)
      · rw [State.takeRemoval_seat]
        exact idle hst rfl
    · unfold State.leftInFault
      split
      · next r hr =>
        split
        · rw [State.loseAt_seat, State.setFault_seat]
          exact h.congr rfl rfl rfl (by rw [show (s.seat b).fault = some r from hr]; rfl) rfl
        · exact h
      · exact h
    · exact h

theorem State.joinFault_right (h : (s.seat b).Right) (k : FaultKind) :
    ((s.joinFault b k).seat b).Right := by
  unfold State.joinFault
  split
  · exact h
  · next r hr =>
    split
    · exact h
    · rw [State.quarantineFor_seat, State.setFault_seat]
      exact h.congr rfl rfl rfl (by rw [show (s.seat b).fault = some r from hr]; rfl) rfl

theorem State.stateWork_right (h : (s.seat b).Right) (rep : Report) (prev : Nat) (on : Bool) :
    ((s.stateWork b rep prev on).seat b).Right := by
  unfold State.stateWork
  split
  · next hst => exact State.identify_right h hst rep
  · next hst =>
    have hst : (s.seat b).bay.state = .cooling := hst
    unfold State.coolingTest
    split
    · exact h
    · split
      · exact State.startSession_right (h.sound (by rw [hst]; decide)) (h.session_none (by rw [hst]; rfl)) _ false false
      · exact h
  · next hst =>
    unfold State.restTest
    split
    · split
      · exact State.endAssess_right h hst rep _
      · exact h
    · exact h
  · next hst => exact State.evaluate_right (h.powered (.inl hst)) rep prev on
  · next hst => exact State.evaluate_right (h.powered (.inr hst)) rep prev on
  · exact h

theorem State.testsAndWork_right (h : (s.seat b).Right) (rep : Report) (prev : Nat) (on answered : Bool) :
    ((s.testsAndWork b rep prev on answered).seat b).Right := by
  simp only [State.testsAndWork]
  split
  · have joined : ∀ (ks : List FaultKind) (u : State), (u.seat b).Right →
        ((ks.foldl (fun u k => u.joinFault b k) u).seat b).Right := by
      intro ks
      induction ks with
      | nil => exact fun u hu => hu
      | cons k ks ih => exact fun u hu => ih _ (State.joinFault_right hu k)
    exact joined _ s h
  · next hst =>
    split
    · exact State.stateWork_right h rep prev on
    · exact (h.sound hst).latch_right _ _ _ _ _

theorem State.goodReportAt_right (h : (s.seat b).Right) (rep : Report) (on answered : Bool) :
    ((s.goodReportAt b rep on answered).seat b).Right := by
  have hlatest : ((s.modBay b fun y => { y with latest := some ⟨rep, s.now⟩ }).seat b).Right := by
    rw [State.modBay_seat _ _ fun _ => rfl]
    exact h.congr rfl rfl rfl rfl rfl
  have hrec : (((s.modBay b fun y => { y with latest := some ⟨rep, s.now⟩ }).reconcile b rep).seat b).Right := by
    simp only [State.reconcile]
    split
    · exact hlatest
    · split
      · rw [State.settleAt_seat]
        exact hlatest
      · rw [State.modBay_seat _ _ fun _ => rfl, State.settleAt_seat]
        exact hlatest.congr rfl rfl rfl rfl rfl
  have hpres := State.presence_right hrec rep
  simp only [State.goodReportAt, State.handAllReady_seat]
  split
  · exact hpres
  · exact State.testsAndWork_right hpres rep _ on answered

/-! ## Every bay -/

/-- From `s` to `t` the bays stay right. -/
def State.KeepsBays (s t : State) : Prop := s.BaysOk → t.BaysOk

theorem State.KeepsBays.refl (s : State) : s.KeepsBays s := id

theorem State.KeepsBays.trans {t u : State} (h : s.KeepsBays t) (h' : t.KeepsBays u) : s.KeepsBays u := fun hs => h' (h hs)

theorem State.KeepsBays.of_seats {t : State} (h : ∀ x, t.seat x = s.seat x) : s.KeepsBays t := fun hs => by
  rw [State.baysOk_iff] at hs ⊢
  exact fun x => h x ▸ hs x

theorem State.KeepsBays.quiet {t u : State} (h : s.KeepsBays t) (hu : ∀ x, u.seat x = t.seat x) : s.KeepsBays u :=
  h.trans (.of_seats hu)

/-- What is done at one bay keeps all right where it leaves that bay right. -/
theorem State.KeepsBays.at {t : State} (b : BayNo) (ho : ∀ x, x ≠ b → t.seat x = s.seat x)
    (hb : (s.seat b).Right → (t.seat b).Right) : s.KeepsBays t := fun hs => by
  rw [State.baysOk_iff] at hs ⊢
  intro x
  by_cases hx : x = b
  · subst hx
    exact hb (hs x)
  · rw [ho x hx]
    exact hs x

theorem State.KeepsBays.of_away {t : State} (h : t.away b = s.away b) (hb : (s.seat b).Right → (t.seat b).Right) :
    s.KeepsBays t := .at b (fun _ hx => State.seat_of_away h hx) hb

theorem State.KeepsBays.foldl {α : Type} {f : State → α → State} (h : ∀ (u : State) a, u.KeepsBays (f u a)) (l : List α)
    (s : State) : s.KeepsBays (l.foldl f s) := by
  induction l generalizing s with
  | nil => exact .refl s
  | cons a l ih => exact (h s a).trans (ih _)

end

end Sys2Proof.Machine
end

section
/-! SUPPORT. The commands, the events and the power rows keep bay states, fault records and sessions together, with the
statement about every step (R35, R37, R45, R140). -/

namespace Sys2Proof.Machine

section
variable {s t : State} {b : BayNo}

/-! ## Commands -/

theorem State.seat_of_fields (hb : t.bays = s.bays) (ha : t.alloc.grants = s.alloc.grants) (hf : t.faults = s.faults)
    (x : BayNo) : t.seat x = s.seat x := by
  simp only [State.seat, State.bay, State.grant, State.faultRec, hb, ha, hf]

theorem State.modBay_seat_ne {x : BayNo} (hx : x ≠ b) (f : Bay → Bay) : (s.modBay b f).seat x = s.seat x := by
  simp only [State.seat, State.modBay_bay, if_neg hx, State.modBay_grant, State.modBay_faultRec]

theorem State.setFault_seat_ne {x : BayNo} (hx : x ≠ b) (r : Option FaultRec) : (s.setFault b r).seat x = s.seat x := by
  simp only [State.seat, State.setFault_faultRec, if_neg hx, State.setFault_bay, State.setFault_grant]

theorem State.moveTo_seat_ne {x : BayNo} (hx : x ≠ b) (st : BayState) : (s.moveTo b st).seat x = s.seat x :=
  State.seat_of_away (s.moveTo_away b st) hx

/-- An update of a sequencer that is none of state, session and pre-issue state. -/
theorem State.modBay_keepsBays (s : State) (b : BayNo) {f : Bay → Bay} (hf : ∀ y, (f y).outline = (f y.outline).outline)
    (hst : ∀ y, (f y).state = y.state) (hs : ∀ y, (f y).session = y.session) (hp : ∀ y, (f y).preIssue = y.preIssue) :
    s.KeepsBays (s.modBay b f) := by
  refine .at b (fun x hx => State.modBay_seat_ne hx f) fun h => ?_
  rw [State.modBay_seat _ _ hf]
  exact h.congr (hst _) (congrArg _ (hs _)) (hp _) rfl rfl

theorem State.setCfg_keepsBays (s : State) (b : BayNo) (cfg : BayCfg) : s.KeepsBays (s.setCfg b cfg) :=
  (s.modBay_keepsBays b (f := fun y => { y with cfg := cfg }) (fun _ => rfl) (fun _ => rfl) (fun _ => rfl)
    fun _ => rfl).quiet fun _ => rfl

/-- A request is 0 in a right seat without a session. -/
theorem Seat.Right.request_of_none {n : Seat} (h : n.Right) (hs : n.bay.session = none) : n.request = 0 := by
  refine h.request_zero ?_ ?_ <;>
    · intro hst
      have hheld := h.session
      simp [hs, hst, BayState.holdsSession] at hheld

/-- The seat of a bay out of service (R43, R152). -/
theorem State.maskOut_seat (s : State) (b : BayNo) : (s.maskOut b).seat b =
    { bay := { (s.seat b).bay.emptied with session := none, state := .masked }
      fault := none
      request := if (s.bay b).session.isSome then 0 else (s.grant b).request } := by
  simp only [State.maskOut, State.checkRound_seat, State.handAllReady_seat, State.relevel_seat, State.modLine_seat,
    State.promptAdd_seat, State.moveTo_seat]
  rw [State.modBay_seat _ _ fun _ => rfl, State.setFault_seat, State.endSession_seat]
  rfl

theorem State.maskOut_seat_ne {x : BayNo} (hx : x ≠ b) : (s.maskOut b).seat x = s.seat x := by
  simp only [State.maskOut, State.checkRound_seat, State.handAllReady_seat, State.relevel_seat, State.modLine_seat,
    State.promptAdd_seat, State.moveTo_seat_ne hx, State.modBay_seat_ne hx, State.setFault_seat_ne hx]
  exact State.seat_of_away (s.endSession_away b) hx

theorem State.maskOut_keepsBays (s : State) (b : BayNo) : s.KeepsBays (s.maskOut b) := by
  refine .at b (fun x hx => State.maskOut_seat_ne hx) fun h => ?_
  rw [State.maskOut_seat]
  refine ⟨by simp, rfl, fun h' => by simp [Bay.emptied] at h', fun hr => absurd ?_ hr⟩
  dsimp only
  split
  · rfl
  · next hs => exact h.request_of_none (show (s.bay b).session = none by simpa using hs)

/-- The seat of a bay back in service (R44). -/
theorem State.maskIn_seat (s : State) (b : BayNo) : (s.maskIn b).seat b = { s.seat b with
    bay := { (s.seat b).bay with
      reconcile := if (s.seat b).bay.reconcile = .restore then .restore else .unmask, state := .vacant } } := by
  rw [State.maskIn, State.moveTo_seat, State.modBay_seat _ _ fun _ => rfl, State.modLine_seat]
  rfl

theorem State.maskIn_keepsBays (s : State) (b : BayNo) (hst : (s.bay b).state = .masked) : s.KeepsBays (s.maskIn b) := by
  refine .at b (fun x hx => ?_) fun h => ?_
  · rw [State.maskIn, State.moveTo_seat_ne hx, State.modBay_seat_ne hx, State.modLine_seat]
  · have hst : (s.seat b).bay.state = .masked := hst
    have hnone := h.session_none (by rw [hst]; rfl)
    rw [State.maskIn_seat]
    exact (h.sound (by rw [hst]; decide)).right_idle rfl rfl hnone hnone rfl (by simp)
      (.inl (h.preIssue_none (by rw [hst]; decide)))

theorem State.applyCfg_keepsBays (s : State) (b : BayNo) (cfg : BayCfg) (h : s.refuseCfg b cfg = none) :
    s.KeepsBays (s.applyCfg b cfg) := by
  have hmask : s.KeepsBays ((s.setCfg b cfg).applyMasked b (s.bay b).cfg.masked cfg.masked) := by
    unfold State.applyMasked
    split
    · exact (s.setCfg_keepsBays b cfg).trans (State.maskOut_keepsBays _ b)
    · split
      · next hm =>
        refine (s.setCfg_keepsBays b cfg).trans (State.maskIn_keepsBays _ b ?_)
        have hstate : (s.bay b).state = .masked := by
          by_contra hst
          simp only [State.refuseCfg, hm.1, hm.2] at h
          split at h
          · cases h
          · split at h
            · cases h
            · split at h
              · cases h
              · rw [if_pos ⟨trivial, trivial, hst⟩] at h
                cases h
        simpa [State.setCfg, State.write, State.modBay, State.bay] using hstate
      · exact s.setCfg_keepsBays b cfg
  unfold State.applyCfg State.applyFeeder
  split
  · exact hmask.quiet fun x => by rw [State.pass_seat, State.relevel_seat]
  · exact hmask

theorem stopEnding_ne_fault {st : BayState} {e : Ending} (h : stopEnding st = some e) : st ≠ .fault := by
  cases st <;> simp_all [stopEnding]

theorem State.stopAt_keepsBays (s : State) (b : BayNo) {e : Ending} (h : stopEnding (s.bay b).state = some e) :
    s.KeepsBays (s.stopAt b e) := by
  refine .of_away (b := b) (by simp [State.stopAt]) fun hr => ?_
  have hend := State.endSession_sound (s := s.saveChargeAt b) (b := b) (by
    rw [State.saveChargeAt_seat]
    exact hr.sound (stopEnding_ne_fault h))
  simp only [State.stopAt, State.handAllReady_seat, State.relevel_seat]
  exact hend.1.toStandby_right hend.2 e

theorem State.startByCharge_keepsBays (s : State) (b : BayNo) (warm own : Bool)
    (hst : (s.bay b).state ≠ .fault) (hh : (s.bay b).state.holdsSession = false) :
    s.KeepsBays (s.startByCharge b warm own) :=
  .of_away (b := b) (by simp) fun h => State.startSession_right (h.sound hst) (h.session_none hh) _ warm own

theorem State.recool_keepsBays (s : State) (n : Nat) (b : BayNo) (hst : (s.bay b).state = .cooling) :
    s.KeepsBays (s.recool n b) := by
  refine .of_away (b := b) (by simp) fun h => ?_
  have quiet : ∀ e, ((s.modBay b fun y => { y with coolExpiry := e }).seat b).Right := fun e => by
    rw [State.modBay_seat _ _ fun _ => rfl]
    exact h.congr rfl rfl rfl rfl rfl
  simp only [State.recool]
  split
  · exact quiet none
  · split
    · exact State.coolEnds_right h hst
    · exact quiet _

/-- The COOLING bays of a class, one after another: each leaves the others in COOLING (R33). -/
theorem State.foldl_recool_keepsBays (n : Nat) (l : List BayNo) (s : State) (hl : l.Nodup)
    (hb : ∀ x ∈ l, (s.bay x).state = .cooling) : s.KeepsBays (l.foldl (fun t b => t.recool n b) s) := by
  induction l generalizing s with
  | nil => exact .refl s
  | cons x xs ih =>
    obtain ⟨hx, hxs⟩ := List.nodup_cons.1 hl
    refine (s.recool_keepsBays n x (hb x (List.mem_cons_self ..))).trans (ih _ hxs fun y hy => ?_)
    have hne : y ≠ x := fun h => hx (h ▸ hy)
    rw [State.state_of_seat (State.seat_of_away (s.recool_away x n) hne)]
    exact hb y (List.mem_cons_of_mem _ hy)

/-- New identities in every sequencer. -/
theorem State.setBays_keepsBays (s : State) {v : Vector Bay 24}
    (hv : ∀ b : BayNo, v[b].state = (s.bay b).state ∧ v[b].session = (s.bay b).session ∧
      v[b].preIssue = (s.bay b).preIssue) : s.KeepsBays (s.setBays v) := by
  intro hs
  rw [State.baysOk_iff] at hs ⊢
  intro x
  obtain ⟨hst, hsession, hpre⟩ := hv x
  have hbay : ((s.setBays v).seat x).bay = v[x].outline := rfl
  refine (hs x).congr ?_ ?_ ?_ rfl rfl <;> rw [hbay]
  · exact hst
  · exact congrArg Option.isSome hsession
  · exact hpre

theorem State.capCharges_keepsBays (s : State) (c : ClassNo) (n : Nat) : s.KeepsBays (s.capCharges c n) := by
  have hcharge : ∀ (u : State) (r : PackRec) x, (u.capCharge n r).seat x = u.seat x := fun u r x => by
    unfold State.capCharge
    split
    · rw [State.saveCharge_seat, State.modPack_seat]
    · rfl
  have hpack : ∀ x, (s.capPacks c n).seat x = s.seat x := fun x => by
    rw [State.capPacks]
    exact s.foldl_seat x (fun u r => hcharge u r x) _
  have hcap : ∀ y : Bay, (y.capAnonymous c n).state = y.state ∧ (y.capAnonymous c n).session = y.session ∧
      (y.capAnonymous c n).preIssue = y.preIssue := fun y => by
    unfold Bay.capAnonymous
    split
    · split <;> exact ⟨rfl, rfl, rfl⟩
    · exact ⟨rfl, rfl, rfl⟩
  rw [State.capCharges_eq]
  exact (State.KeepsBays.of_seats hpack).trans (State.setBays_keepsBays (s.capPacks c n) fun b => by
    simpa using hcap ((s.capPacks c n).bay b))

theorem State.applyClass_keepsBays (s : State) (c : ClassNo) (r : ClassRec) : s.KeepsBays (s.applyClass c r) := by
  have hset : s.KeepsBays (((s.setClassRec c r).capCharges c (fullCharge r.capacity)).computeShort c) :=
    ((State.KeepsBays.of_seats fun x => State.seat_of_fields rfl rfl rfl x).trans
      (State.capCharges_keepsBays (s.setClassRec c r) c _)).quiet fun x => State.computeShort_seat _ x c
  have hcool : ∀ u : State, u.KeepsBays ((u.coolingOf c).foldl (fun t b => t.recool r.coolTimeout b) u) := fun u => by
    refine State.foldl_recool_keepsBays _ _ u ((List.nodup_finRange 24).filter _) fun x hx => ?_
    have h := (List.mem_filter.1 hx).2
    simp only [decide_eq_true_eq] at h
    exact h.1
  simp only [State.applyClass]
  refine State.KeepsBays.trans ?_ (hcool _)
  split
  · exact hset
  · exact hset.quiet fun x => State.pass_seat _ x

/-! ## Issues -/

/-- The seat of a bay that enters RELEASE (R45). -/
theorem State.toRelease_seat (s : State) (b : BayNo) : (s.toRelease b).seat b =
    { s.seat b with
      bay := { (s.seat b).bay with
        preIssue := some (if (s.bay b).state = .maintain then .maintain else .standby (s.bay b).outcome)
        outcome := .none, session := none, state := .release }
      request := if (s.bay b).session.isSome then 0 else (s.grant b).request } := by
  simp only [State.toRelease]
  rw [State.moveTo_seat, State.endSession_seat, State.modBay_seat _ _ fun _ => rfl]
  rfl

theorem State.toRelease_away (s : State) (b : BayNo) : (s.toRelease b).away b = s.away b := by
  simp only [State.toRelease]
  rw [State.moveTo_away, State.endSession_away]
  exact s.modBay_away b (fun _ => rfl) fun _ => rfl

/-- A picked pack is marked and its bay released, and nothing shows in another seat. -/
theorem State.releasePick_seat (s : State) (m : Nat) (p : Pick) (x : BayNo) :
    (s.releasePick m p).seat x = (s.toRelease p.bay).seat x := by
  have hmark : ∀ u : State, (∀ x, u.seat x = s.seat x) → ∀ x, (u.toRelease p.bay).seat x = (s.toRelease p.bay).seat x := by
    intro u hu x
    by_cases hx : x = p.bay
    · subst hx
      rw [State.toRelease_seat, State.toRelease_seat, hu, State.state_of_seat (hu _), State.session_of_seat (hu _),
        State.request_of_seat (hu _), show (u.bay p.bay).outcome = (s.bay p.bay).outcome from
          congrArg (fun n : Seat => n.bay.outcome) (hu p.bay)]
      rfl
    · rw [State.seat_of_away (u.toRelease_away p.bay) hx, State.seat_of_away (s.toRelease_away p.bay) hx, hu]
  unfold State.releasePick
  split
  · exact hmark (s.setMark _ _) (fun _ => rfl) x
  · rfl

theorem State.toRelease_right (h : (s.seat b).Right) (hst : (s.seat b).bay.state ≠ .fault) :
    ((s.toRelease b).seat b).Right := by
  rw [State.toRelease_seat]
  refine ⟨by simp [(h.sound hst).fault], rfl, fun _ => rfl, fun hr => absurd ?_ hr⟩
  dsimp only
  split
  · rfl
  · next hs => exact h.request_of_none (show (s.bay b).session = none by simpa using hs)

/-- An issue of packs in bays that are not in FAULT keeps the bays right. -/
theorem State.makeIssue_keepsBays (s : State) (m : Nat) (c : Option ClassNo) (ps : List Pick)
    (h : ∀ p ∈ ps, (s.bay p.bay).state ≠ .fault) : s.KeepsBays (s.makeIssue m c ps) := by
  have hfold : s.KeepsBays (ps.foldl (State.releasePick m) s) := by
    induction ps generalizing s with
    | nil => exact .refl s
    | cons p ps ih =>
      have hne : ∀ x, x ≠ p.bay → (s.releasePick m p).seat x = s.seat x := fun x hx => by
        rw [State.releasePick_seat, State.seat_of_away (s.toRelease_away p.bay) hx]
      have hp : s.KeepsBays (s.releasePick m p) := .at p.bay hne fun hr => by
        rw [State.releasePick_seat]
        exact State.toRelease_right hr (h p (List.mem_cons_self ..))
      refine hp.trans (ih _ fun q hq => ?_)
      by_cases hx : q.bay = p.bay
      · rw [hx, State.state_of_seat (State.releasePick_seat s m p p.bay)]
        rw [State.toRelease_seat]
        simp
      · rw [State.state_of_seat (hne q.bay hx)]
        exact h q (List.mem_cons_of_mem _ hq)
  exact hfold.quiet fun _ => rfl

/-- A selected pack is ready (R120, R121). -/
theorem State.mem_matchedPair (s : State) (w : Nat) (l : List PackRec) {r : PackRec} (h : r ∈ s.matchedPair w l) :
    r ∈ l := by
  induction l with
  | nil => simp [State.matchedPair] at h
  | cons a l ih =>
    simp only [State.matchedPair] at h
    split at h
    · next x hx =>
      rcases List.mem_cons.1 h with rfl | h
      · exact List.mem_cons_self ..
      · obtain rfl : r = x := by simpa using h
        exact List.mem_cons_of_mem _ (List.mem_of_find?_eq_some hx)
    · exact List.mem_cons_of_mem _ (ih h)

theorem State.packReady_of_mem_selection {c : ClassNo} {r : PackRec} (h : r ∈ s.selection c) :
    r ∈ s.readyInRotation c := by
  have hcand : ∀ x ∈ s.candidates c, x ∈ s.readyInRotation c := fun x hx => by
    obtain ⟨n, -, hn⟩ := List.mem_flatMap.1 hx
    exact (List.mem_filter.1 hn).1
  unfold State.selection at h
  split at h
  · simp at h
  · split at h
    · exact hcand r (s.mem_matchedPair _ _ h)
    · exact hcand r (List.mem_of_mem_take h)

/-- The packs of ISSUE CLASS stand in bays in MAINTAIN or STANDBY (R11, R120). -/
theorem State.selection_pick_state {c : ClassNo} {p : Pick} (h : p ∈ (s.selection c).filterMap PackRec.pick?) :
    (s.bay p.bay).state = .maintain ∨ (s.bay p.bay).state = .standby := by
  obtain ⟨r, hr, hp⟩ := List.mem_filterMap.1 h
  have hready := (List.mem_filter.1 (State.packReady_of_mem_selection hr)).2
  unfold PackRec.pick? at hp
  split at hp
  · next b hb =>
    obtain rfl : (⟨b, some r.tag⟩ : Pick) = p := by simpa using hp
    simp only [State.packReady, hb, State.readyPlace, Bool.and_eq_true] at hready
    have hst := hready.2.1.2
    unfold Bay.readyState at hst
    split at hst
    · next hm => exact .inl hm
    · next hm => exact .inr hm
    · cases hst
  · cases hp

theorem State.returnFromRelease_away (s : State) (b : BayNo) : (s.returnFromRelease b).away b = s.away b := by
  unfold State.returnFromRelease
  split
  · unfold State.returnToMaintain
    split
    · simp
    · split <;> simp
  · simp
  · rfl

theorem State.endIssue_keepsBays (s : State) (i : Issue) : s.KeepsBays (s.endIssue i) := by
  have back : ∀ (u : State) b, u.KeepsBays (u.returnFromRelease b) := fun u b =>
    .of_away (u.returnFromRelease_away b) State.returnFromRelease_right
  have hpart : ∀ (u : State) p, u.KeepsBays (u.endPart p) := fun u p => by
    unfold State.endPart
    split
    · exact (State.KeepsBays.of_seats (t := u.setMark _ none) fun _ => rfl).trans (back _ _)
    · exact back _ _
    · exact .of_seats fun x => by rw [State.raise_seat, State.setPlace_seat, State.setMark_seat]
    · exact .refl u
    · exact .refl u
  exact (State.KeepsBays.of_seats (t := s.setIssues (s.disp.issues.filter fun x => decide (x.machine ≠ i.machine))) fun _ => rfl).trans (.foldl hpart _ _)

/-- CLEAR leaves every bay without record, session and request, in a state that has none (R50, R111, R152). -/
theorem State.clearAll_keepsBays (s : State) : s.KeepsBays s.clearAll := by
  obtain ⟨ws, hbase, -⟩ := s.clearedBase_eq
  obtain ⟨v, q, hv, hbay⟩ := State.foldl_clearBay allBays (List.nodup_finRange 24) (s.clearedBase ws)
  have hlevel : ∀ (u : State) x, (allBays.foldl State.relevel u).seat x = u.seat x := fun u x =>
    u.foldl_seat x (fun w a => w.relevel_seat x a) _
  have hseat : ∀ x, s.clearAll.seat x = ((s.clearedBase ws).withBays v q).seat x := fun x => by
    simp only [State.clearAll, hbase, hv, State.closeEvent_seat, State.pass_seat, hlevel]
  refine State.KeepsBays.trans (fun hs b => ?_) (.of_seats hseat)
  obtain ⟨-, hs, hpre, -⟩ := hs b
  obtain ⟨hnone, -, -, hstate, hempty, hsame⟩ := Bay.cleared_shows hs
  have hb : ((s.clearedBase ws).withBays v q).bay b = (s.bay b).cleared.driven ((s.clearedBase ws).grant b).granted := by
    rw [State.withBays_bay, hbay b, if_pos (mem_allBays b)]
    rfl
  have hfault : ((s.clearedBase ws).withBays v q).faultRec b = none := by
    simp [State.withBays, State.clearedBase, State.faultRec]
  have hidle : (s.bay b).cleared.state ≠ .fault ∧ (s.bay b).cleared.state.holdsSession = false ∧
      (s.bay b).cleared.preIssue = none := by
    rw [hstate]
    cases hr : (s.bay b).state.restarts with
    | true =>
      rw [if_pos rfl]
      refine ⟨?_, ?_, (hempty hr).2.1⟩ <;> split <;> simp [BayState.holdsSession]
    | false =>
      rw [if_neg Bool.false_ne_true, hsame hr]
      refine ⟨?_, ?_, ?_⟩
      · rintro h
        simp [h, BayState.restarts] at hr
      · cases h : (s.bay b).state <;> simp [h, BayState.restarts, BayState.holdsSession] at hr ⊢
      · by_contra hp
        have hrel := hpre (Option.isSome_iff_ne_none.2 hp)
        simp [hrel, BayState.restarts] at hr
  obtain ⟨hf, hh, hp⟩ := hidle
  rw [hb, hfault]
  refine ⟨?_, ?_, fun h => ?_, fun h => absurd (State.clearedBase_allocIdle s ws v q b).1 h⟩
  · simp [Bay.driven, hf]
  · change (s.bay b).cleared.session.isSome = (s.bay b).cleared.state.holdsSession
    rw [hnone, hh]
    rfl
  · simp [Bay.driven, hp] at h

/-- What the owner of any command does keeps the bays right. -/
theorem State.TakenTo.keepsBays (ht : s.TakenTo t) : s.KeepsBays t := by
  have same : ∀ {u : State}, (∀ x, u.seat x = s.seat x) → s.KeepsBays u := .of_seats
  cases ht with
  | still hs =>
    obtain ⟨hb, ha, -, hf⟩ := hs
    exact same (State.seat_of_fields hb (by rw [ha]) hf)
  | site v =>
    have hcap : ∀ x, ((s.write (.site v)).applySiteCap v).seat x = s.seat x := fun x => by
      simp only [State.applySiteCap]
      split
      · exact State.seat_of_fields rfl rfl rfl x
      · rw [State.pass_seat]
        exact State.seat_of_fields rfl rfl rfl x
    have hlook : ∀ (u : State) x, ((u.applyLookahead v).applyScanInterval v).seat x = u.seat x := fun u x => by
      refine Eq.trans (State.seat_of_fields (s := u.applyLookahead v) rfl rfl rfl x) ?_
      simp only [State.applyLookahead]
      split
      · exact State.seat_of_fields rfl rfl rfl x
      · rw [State.computeAllShort_seat]
        exact State.seat_of_fields rfl rfl rfl x
    exact same fun x => (hlook _ x).trans (hcap x)
  | feeder f v =>
    refine same fun x => ?_
    rw [State.pass_seat]
    exact State.seat_of_fields rfl rfl rfl x
  | feederKept f v => exact same (State.seat_of_fields rfl rfl rfl)
  | cls c r => exact s.applyClass_keepsBays c r
  | bayCfg b cfg h => exact s.applyCfg_keepsBays b cfg h
  | mask b cfg _ => exact (s.setCfg_keepsBays b cfg).trans (State.maskOut_keepsBays _ b)
  | unmask b cfg h =>
    refine (s.setCfg_keepsBays b cfg).trans (State.maskIn_keepsBays _ b ?_)
    simpa [State.setCfg, State.write, State.modBay, State.bay] using h
  | stop b e h => exact s.stopAt_keepsBays b h
  | start b h =>
    exact (s.startByCharge_keepsBays b false false (by rw [h]; decide) (by rw [h]; rfl)).quiet
      fun x => State.handAllReady_seat _ x
  | clearFault b h =>
    refine .of_away (b := b) (by simp [State.clearFaultAt]) fun hr => ?_
    have hst : (s.seat b).bay.state = .fault := h
    have hnone := hr.session_none (by rw [hst]; rfl)
    have hseat : (s.setFault b none).seat b = { s.seat b with fault := none } := s.setFault_seat b none
    have hsound : ((s.setFault b none).seat b).Sound := by
      rw [hseat]
      exact ⟨rfl, hr.request_of_none⟩
    unfold State.clearFaultAt State.reidentify
    split
    · rw [State.toFreshIdentify_seat]
      exact hsound.right_idle rfl rfl (by rw [hseat]; exact hnone) (by rw [hseat]; exact hnone) rfl (by simp) (.inl rfl)
    · exact State.toVacant_right hsound (by rw [hseat]; exact hnone)
  | issueClass m c ps hps =>
    refine State.KeepsBays.quiet (s.makeIssue_keepsBays m (some c) ps fun p hp => ?_) fun x => ?_
    · rcases State.selection_pick_state (hps ▸ hp) with h | h <;> rw [h] <;> decide
    · rw [State.drawn_seat, State.issueClass, State.closeEvent_seat, State.setReservations_seat]
  | issueBay m bs h =>
    refine State.KeepsBays.quiet (s.makeIssue_keepsBays m none _ fun p hp => ?_) fun x => State.closeEvent_seat _ x []
    obtain ⟨b, hb, rfl⟩ := List.mem_map.1 hp
    have hbay : (s.pickBay b).bay = b := by unfold State.pickBay; split <;> rfl
    have hst := h b hb
    simp only [State.issuable, decide_eq_true_eq] at hst
    rw [hbay]
    rcases hst with hst | hst <;> rw [hst] <;> decide
  | cancel i => exact (s.endIssue_keepsBays i).quiet fun x => State.closeEvent_seat _ x []
  | reservations l c => exact same fun x => by rw [State.computeShort_seat]; rfl
  | shed cap d =>
    refine same fun x => ?_
    unfold State.applyShed
    split
    · rw [State.pass_seat]
      rfl
    · split
      · rw [State.pass_seat]
        rfl
      · rfl
  | releasePack g f => exact same fun x => by rw [State.handAllReady_seat, State.savePack_seat, State.modPack_seat]
  | clear => exact s.clearAll_keepsBays

/-! ## Events -/

theorem State.KeepsBays.ite (h : s.KeepsBays t) (p : Prop) [Decidable p] : s.KeepsBays (if p then t else s) := by
  split
  · exact h
  · exact .refl s

theorem State.deliver_keepsBays (s : State) (b : BayNo) (rep : Report) : s.KeepsBays (s.deliver b rep) := by
  simp only [State.deliver]
  have hcredit : s.KeepsBays ((s.modLine b fun x =>
      { x with misses := 0, lostExpiry := none, answeredOn := (s.line b).sent.drive.on }).setCarried b
        (s.line b).sent.units) := .of_seats fun x => by rw [State.setCarried_seat, State.modLine_seat]
  split
  · exact hcredit
  · refine hcredit.trans (.at b (fun x hx => ?_) fun h => State.goodReportAt_right h rep _ _)
    rw [State.seat_of_away (State.goodReportAt_away _ b rep _ _) hx, State.modBay_seat_ne hx]

theorem State.missSlot_keepsBays (s : State) (b : BayNo) : s.KeepsBays (s.missSlot b) := by
  have hend : s.KeepsBays s.endSlot := .of_seats fun x => s.endSlot_seat x
  unfold State.missSlot
  refine hend.trans ?_
  generalize s.endSlot = u
  unfold State.miss
  dsimp only
  split
  · exact .refl u
  · have hcount : u.KeepsBays (u.modLine b fun x => { x with misses := min 3 ((u.line b).misses + 1) }) :=
      .of_seats fun _ => rfl
    split
    · refine hcount.trans (.of_away (State.raiseFault_away _ b _) fun h => ?_)
      unfold State.raiseFault
      split
      · exact State.joinFault_right h _
      · next hst => exact (h.sound hst).latch_right _ _ _ _ _
    · exact hcount

/-- Every event of the running part keeps the bays right. -/
theorem eventOf_keepsBays {c : Instr} {f : State → State} (hf : eventOf c = some f)
    (hframe : ∀ k b x, c ≠ .frameComplete k b x) (s : State) : s.KeepsBays (f s) := by
  have same : ∀ {u : State}, (∀ x, u.seat x = s.seat x) → s.KeepsBays u := .of_seats
  cases c <;> simp only [eventOf, Option.some.injEq, reduceCtorEq] at hf <;> subst hf
  case startupHoldEnd =>
    dsimp only
    split
    · exact same fun x => State.pass_seat _ x
    · exact .refl s
  case depotMinuteAdvance =>
    refine State.KeepsBays.ite (same fun x => ?_) _
    rw [State.nextMinute, State.computeAllShort_seat]
    simp only [State.dropOverdue]
    split <;> rfl
  case reservationGraceExpiry =>
    refine State.KeepsBays.ite (same fun x => ?_) _
    rw [State.computeAllShort_seat]
    simp only [State.dropOverdue]
    split <;> rfl
  case issueLapse m =>
    simp only [State.lapse]
    split
    · exact .refl s
    · exact (s.endIssue_keepsBays _).quiet fun x => by rw [State.closeEvent_seat, State.raise_seat]
  case turnExpiry b =>
    have hgrant : ∀ (g : Grant → Grant) x, (∀ e, (g e).request = e.request) → (s.modGrant b g).seat x = s.seat x := by
      intro g x hg
      simp only [State.seat, State.modGrant_grant, State.modGrant_bay, State.modGrant_faultRec]
      split
      · next h => rw [h, hg]
      · rfl
    refine State.KeepsBays.ite (same fun x => ?_) _
    unfold State.expireTurn
    split
    · simp only [State.releaseTurn, State.requeue]
      rw [State.pass_seat, State.redrive_seat]
      exact Eq.trans (State.seat_of_fields rfl rfl rfl x)
        (hgrant (fun e => { e with granted := 0, turnExpiry := none, yielded := true }) x fun _ => rfl)
    · exact hgrant Grant.renewed x fun _ => rfl
  case shedExpiry => exact (same fun x => by rw [State.endShed, State.pass_seat]; rfl).ite _
  case coolExpiry b =>
    dsimp only
    split
    · next hdue =>
      have hst : (s.bay b).state = .cooling := by
        simp only [State.coolDue, Bool.and_eq_true, decide_eq_true_eq] at hdue
        exact hdue.1
      exact (State.KeepsBays.of_away (s.coolEnds_away b) fun h => State.coolEnds_right h hst).quiet
        fun x => State.handAllReady_seat _ x
    · exact .refl s
  case lostStageExpiry b => exact (same fun x => by rw [State.loseStage, State.setCarried_seat]; rfl).ite _
  case roundStart => exact (same fun x => by rw [State.beginRound, State.checkRound_seat]; rfl).ite _
  case regularPoll =>
    unfold State.pollRegular
    split
    · exact same fun _ => rfl
    · exact .refl s
  case promptPoll =>
    unfold State.pollPrompt
    split
    · exact same fun _ => rfl
    · exact .refl s
  case reportReceived bytes =>
    simp only [State.receive]
    split
    · unfold State.answerSlot
      split
      · exact (same fun x => s.endSlot_seat x).trans (State.deliver_keepsBays _ _ _)
      · exact s.missSlot_keepsBays _
    · exact .refl s
  case pollSlotTimeout =>
    unfold State.timeoutSlot
    split
    · exact s.missSlot_keepsBays _
    · exact .refl s
  case thirdConsecutiveMiss =>
    unfold State.timeoutThird
    split
    · split
      · exact s.missSlot_keepsBays _
      · exact .refl s
    · exact .refl s
  case frameComplete k b x => exact absurd rfl (hframe k b x)
  case frameDiscardedBusy =>
    dsimp only
    split
    · exact same fun _ => rfl
    · exact .refl s
  case byteGapTimeout =>
    dsimp only
    split
    · exact same fun _ => rfl
    · exact .refl s
  case lengthOutOfRange l =>
    dsimp only
    split
    · exact same fun _ => rfl
    · exact .refl s
  case replySent => exact same fun _ => rfl
  case startMarkerReceived =>
    dsimp only
    split
    · exact same fun _ => rfl
    · exact .refl s

/-! ## Power rows and steps -/

/-- Bays at their power-on values stand right, VACANT or MASKED with no record (R28, R140). -/
theorem State.baysOk_of_boot {cfgs : BayNo → BayCfg} (hb : ∀ b, t.bay b = Bay.boot (cfgs b))
    (hf : ∀ b, t.faultRec b = none) (hg : ∀ b, (t.grant b).request = 0) : t.BaysOk := fun b => by
  rw [hb b, hf b, hg b]
  cases hm : (cfgs b).masked <;> simp [Bay.boot, Bay.inSession, hm]

theorem State.baysOk_of_blank (u : State) (hb : t.bays = u.blank.bays) (ha : t.alloc.grants = u.blank.alloc.grants)
    (hf : t.faults = u.blank.faults) : t.BaysOk := by
  refine State.baysOk_of_boot (cfgs := fun b => Store.delivery.bayCfgs[b]) (fun b => ?_) (fun b => ?_) fun b => ?_
  · simp [State.bay, hb, State.blank, State.bootFrom]
  · simp [State.faultRec, hf, State.blank, State.bootFrom]
  · simp [State.grant, ha, State.blank, State.bootFrom, Grant.boot]

theorem exec_power_keepsBays {c : Instr} (hp : powerRow c = true) (h : exec c s = .next t) : s.KeepsBays t := by
  have settled : s.KeepsBays s.settle := .of_seats fun _ => rfl
  cases c with
  | powerOn =>
    cases h
    unfold State.powerOn
    split
    · exact settled
    · exact fun _ => State.baysOk_of_blank s rfl rfl rfl
  | powerLoss n =>
    cases h
    unfold State.powerLoss
    split
    · exact fun _ => State.baysOk_of_blank (s.cutWrites n) rfl rfl rfl
    · exact .refl s
  | resetPinAssert n =>
    cases h
    unfold State.resetAssert
    split
    · exact settled
    · split
      · exact fun _ => State.baysOk_of_blank (s.cutWrites n) rfl rfl rfl
      · exact .of_seats fun _ => rfl
  | resetPinRelease =>
    cases h
    exact .of_seats fun _ => rfl
  | restoreEnd =>
    cases h
    by_cases hr : s.restores = true
    · obtain ⟨w, o, sh, ss, ht⟩ := State.endRestore_eq hr
      have hrack := State.endRestore_rack hr
      rw [ht] at hrack ⊢
      refine fun _ => State.baysOk_of_boot (cfgs := fun b => s.settle.store.bayCfgs[b]) (State.bootFrom_bay _)
        (fun b => (hrack b).2.2.1) fun b => ?_
      rw [(hrack b).2.2.2.2.2.2.2.2]
    · rw [State.endRestore, if_neg hr]
      exact settled
  | _ => cases hp

/-- Every row keeps the bays right. -/
theorem exec_keepsBays {c : Instr} (h : exec c s = .next t) : s.KeepsBays t := by
  by_cases hp : powerRow c = true
  · exact exec_power_keepsBays hp h
  · have hp : powerRow c = false := by simpa using hp
    cases hr : s.running
    · rw [exec_of_not_running hp hr] at h
      cases h
      exact .of_seats fun _ => rfl
    · obtain ⟨u, hu, he⟩ := exec_running (R := State.KeepsBays) State.KeepsBays.refl
        (fun _ _ _ _ _ h => h.quiet fun _ => rfl) (fun _ _ => .of_seats fun _ => rfl) (fun _ => .of_seats fun _ => rfl)
        (fun c f hf s => (ownerOf_takenTo s hf).mono fun _ h => h.keepsBays)
        (fun c f hf hframe s => eventOf_keepsBays hf hframe s) hp hr
      obtain rfl : u = t := by rw [h] at hu; cases hu; rfl
      exact (State.KeepsBays.of_seats (t := s.settle) fun _ => rfl).trans he

/-- Settles O58: each row takes a bay from one seat that is right to another, and the other bays keep theirs. -/
theorem stepKeepsBayStates : Obligations.StepKeepsBayStates := by
  intro s t hs h
  unfold step at h
  split at h
  · cases h
    unfold State.tick
    split
    · exact hs
    · split <;> exact hs
  · next cs _ => exact exec_keepsBays h hs

end

end Sys2Proof.Machine
end

section
/-! SUPPORT. What an action writes to the pack register, and the statement about the actions of exits (R39, R60, R65 to
R72). -/

namespace Sys2Proof.Machine

section
variable {s : State} {b : BayNo} {se : Session}

/-! ## The ledger after an action -/

theorem State.goOnInCharge_ledger (s : State) (b : BayNo) : (s.goOnInCharge b).ledger = s.ledger := by
  unfold State.goOnInCharge
  split <;> simp

theorem State.rearm_ledger (s : State) (b : BayNo) (k : StageNo) : (s.rearm b k).ledger = s.ledger := by
  simp [State.rearm]

/-- An action that is neither FAULT nor a stack error. -/
def Action.Leaves (a : Action) (se : Session) : Prop :=
  (∀ n, a ≠ .fault n) ∧ (a = .ret → se.frames ≠ []) ∧
    ∀ j, a = .callResume j ∨ a = .callRestart j → se.frames.length < Config.maxFrames

/-- The end of the charge records what leaving the stage records, and the charge of its pack (R68, R21). -/
theorem State.completeCharge_ledger (s : State) (b : BayNo) (st : Stage) :
    ∃ ws, (s.completeCharge b st).ledger =
      { (s.leaveStage b st).ledger with inFlight := (s.leaveStage b st).inFlight ++ ws } := by
  obtain ⟨ws, hws, -⟩ := ((s.leaveStage b st).modSession b fun x =>
    { x with outcome := .complete, frames := [] }).saveChargeAt_inFlight b
  refine ⟨ws, ?_⟩
  simp only [State.completeCharge]
  split <;> simp only [State.handAllReady_ledger, State.relevel_ledger, State.releaseAtRest_ledger, State.moveTo_ledger,
    State.enterStage_ledger, State.modSession_ledger, State.toStandby_ledger, State.endSession_ledger, hws] <;> rfl

/-- Such an action records what leaving the stage records, and at the end of the charge the charge of its pack. -/
theorem State.takeAction_ledger {a : Action} (ha : a.Leaves se) (s : State) (b : BayNo) (k : StageNo) (st : Stage) :
    ∃ ws, (s.takeAction b se k st a).ledger =
      { (s.leaveStage b st).ledger with inFlight := (s.leaveStage b st).inFlight ++ ws } := by
  obtain ⟨hfault, hret, hcall⟩ := ha
  have only : ∀ {v : State}, v.ledger = (s.leaveStage b st).ledger → ∃ ws, v.ledger =
      { (s.leaveStage b st).ledger with inFlight := (s.leaveStage b st).inFlight ++ ws } := fun h =>
    ⟨[], by rw [h, List.append_nil]; rfl⟩
  have called : ∀ j r, se.frames.length < Config.maxFrames →
      (s.doCall b se k st j r).ledger = (s.leaveStage b st).ledger := fun j r hroom => by
    rw [State.doCall, if_neg (Nat.not_le.2 hroom), State.goOnInCharge_ledger, State.enterStage_ledger,
      State.modSession_ledger]
  cases a with
  | goto j =>
    refine only ?_
    simp only [State.takeAction, State.doGoto]
    split
    · exact State.rearm_ledger _ b j
    · rw [State.goOnInCharge_ledger, State.enterStage_ledger]
  | callResume j => exact only (called j true (hcall j (.inl rfl)))
  | callRestart j => exact only (called j false (hcall j (.inr rfl)))
  | ret =>
    refine only ?_
    simp only [State.takeAction, State.doReturn]
    split
    · next h => exact absurd h (hret rfl)
    · split <;> simp
  | complete =>
    simp only [State.takeAction, State.doComplete]
    split
    · exact only (State.rearm_ledger _ b _)
    · exact s.completeCharge_ledger b st
  | fault n => exact absurd rfl (hfault n)

/-- Leaving a marked stage writes the pack's record with its equalize count at 0 (R71). -/
theorem State.leaveStage_writes {st : Stage} {g : Nat} {r : PackRec} (hm : st.equalizeMark = true)
    (hi : (s.bay b).identity = .registered g) (hr : s.pack g = some r) :
    .pack { r with equalize := 0 } ∈ (s.leaveStage b st).inFlight := by
  have hpack : (s.modPack g fun r => { r with equalize := 0 }).pack g = some { r with equalize := 0 } := by
    rw [State.modPack_pack]
    · rw [if_pos rfl, hr]
      rfl
    · exact fun _ => rfl
  simp only [State.leaveStage, hm, if_true, State.resetEqualizeAt, hi, State.savePack, hpack]
  exact List.mem_append_right _ (List.mem_singleton_self _)

/-- The pack records after such an action are those after leaving the stage. -/
theorem State.takeAction_pack {a : Action} (ha : a.Leaves se) (k : StageNo) (st : Stage) (g : Nat) :
    (s.takeAction b se k st a).pack g = (s.leaveStage b st).pack g := by
  obtain ⟨ws, hws⟩ := State.takeAction_ledger ha s b k st
  have hreg : (s.takeAction b se k st a).register = (s.leaveStage b st).register := congrArg Ledger.register hws
  rw [State.pack, hreg, State.pack]

/-- Quarantine leaves the equalize counts as they are. -/
theorem State.quarantineFor_equalize (s : State) (b : BayNo) (ks : List FaultKind) (g : Nat) :
    ((s.quarantineFor b ks).pack g).map (·.equalize) = (s.pack g).map (·.equalize) := by
  have hsave : ∀ (u : State) t, (u.savePack t).pack g = u.pack g := fun u t => by
    unfold State.savePack
    split <;> rfl
  have hpack : ∀ t k, ((s.quarantinePack t k).pack g).map (·.equalize) = (s.pack g).map (·.equalize) := fun t k => by
    unfold State.quarantinePack
    split
    · split
      · rw [hsave, State.modPack_pack]
        · split
          · next h => rw [h, Option.map_map]; rfl
          · rfl
        · exact fun _ => rfl
      · rfl
    · rfl
  unfold State.quarantineFor
  split
  · exact hpack _ _
  · rfl

/-- A latch leaves the equalize counts as they are (R71). -/
theorem State.latch_equalize (hb : (s.bay b).state ≠ .release) (k : FaultKind) (n : Option Nat) (g : Nat) :
    ((s.latch b k [] n none false).pack g).map (·.equalize) = (s.pack g).map (·.equalize) := by
  have hledger : (s.latch b k [] n none false).ledger = ((s.latching b k [] n none).quarantineFor b [k]).ledger := by
    rw [State.latch_eq hb]
    simp
  have hlatching : ((s.latching b k [] n none).pack g) = s.pack g := by
    have h := State.latching_ledger (s := s) (b := b) k [] n none
    generalize s.latching b k [] n none = t at h ⊢
    have hreg : t.register = s.register := congrArg Ledger.register h
    rw [State.pack, hreg, State.pack]
  rw [State.pack_of_ledger hledger, State.quarantineFor_equalize, hlatching]

/-! ## The bay after an action -/

/-- A bay in FAULT without a session, its record with a kind, a number and the stage of the session that it ran. -/
def State.FaultedBy (t : State) (b : BayNo) (se : Session) (k : FaultKind) (n : Option Nat) : Prop :=
  (t.bay b).state = .fault ∧ (t.bay b).session = none ∧
    ∃ r, t.faultRec b = some r ∧ r.first = k ∧ r.number = n ∧ r.stage = se.stage

theorem State.latch_faultedBy (hse : (s.bay b).session = some se) (k : FaultKind) (n : Option Nat) :
    (s.latch b k [] n none false).FaultedBy b se k n := by
  have h := s.latch_seat b k [] n none false
  refine ⟨State.state_of_seat h, State.session_of_seat h, _, State.fault_of_seat h, rfl, rfl, ?_⟩
  simp [State.faultRecord, hse]

/-- The bay's state and session as a seat shows them, whatever its request. -/
theorem State.shows_of_asking {v : State} {n : Seat} (h : ∃ r, v.seat b = n.asking r) :
    (v.bay b).state = n.bay.state ∧ (v.bay b).session = n.bay.session := by
  obtain ⟨r, hr⟩ := h
  exact ⟨congrArg (fun n : Seat => n.bay.state) hr, congrArg (fun n : Seat => n.bay.session) hr⟩

/-- A CALL with two frames on the stack, in CHARGE or in MAINTAIN (R66). -/
theorem State.doCall_faultedBy (hse : (s.bay b).session = some se) (hfull : 2 ≤ se.frames.length) (k : StageNo)
    (st : Stage) (j : StageNo) (r : Bool) : (s.doCall b se k st j r).FaultedBy b se .profile none := by
  rw [State.doCall, if_pos (show Config.maxFrames ≤ se.frames.length from hfull)]
  exact State.latch_faultedBy hse _ _

/-- A RETURN from an empty stack (R67). -/
theorem State.doReturn_of_nil (hf : se.frames = []) (st : Stage) :
    s.doReturn b se st = s.latch b .profile [] none none false := by
  simp only [State.doReturn, hf]

/-- The actions in CHARGE (R65 to R70). -/
theorem exitActions_in_charge (s : State) (b : BayNo) (se : Session) (k : StageNo) (st : Stage)
    (hst : (s.bay b).state = .charge) (hse : (s.bay b).session = some se) :
    let after := fun a => ((s.takeAction b se k st a).bay b)
    let faulted := fun a kind n => (s.takeAction b se k st a).FaultedBy b se kind n
    (∀ j, (after (.goto j)).session = some (se.entered j s.now (s.baseAt b j) false) ∧
      (after (.goto j)).state = .charge) ∧
    (∀ j, se.frames.length < 2 →
      (after (.callResume j)).session = some ((se.called k true).entered j s.now (s.baseAt b j) true) ∧
      (after (.callRestart j)).session = some ((se.called k false).entered j s.now (s.baseAt b j) true)) ∧
    (∀ j, 2 ≤ se.frames.length → faulted (.callResume j) .profile none ∧ faulted (.callRestart j) .profile none) ∧
    (se.frames = [] → faulted .ret .profile none) ∧
    (∀ f fs, se.frames = f :: fs → (after .ret).session = some (se.returned f fs s.now (s.baseAt b f.stage))) ∧
    (∀ j, s.maintainStage b = some j → (after .complete).state = .maintain ∧
      (after .complete).session = some (({ se with outcome := .complete, frames := [], sessionServed := 0 } : Session
        ).entered j s.now (s.baseAt b j) false)) ∧
    (s.maintainStage b = none → (after .complete).state = .standby ∧ (after .complete).outcome = .complete ∧
      (after .complete).session = none) ∧
    ∀ n, faulted (.fault n) .profileStop (some n) := by
  have hcomplete : s.takeAction b se k st .complete = s.completeCharge b st := by
    simp only [State.takeAction, State.doComplete, hst]
  refine ⟨fun j => ?_, fun j hroom => ⟨?_, ?_⟩, fun j hfull => ⟨?_, ?_⟩, fun hf => ?_, fun f fs hf => ?_, fun j hj => ?_,
    fun hnone => ?_, fun n => State.latch_faultedBy hse _ _⟩
  · obtain ⟨hstate, hsession⟩ := State.shows_of_asking (State.doGoto_seat_of_charge hse hst st j)
    exact ⟨hsession, hstate.trans hst⟩
  · exact (State.shows_of_asking (State.doCall_seat_of_charge hse hst hroom k st j true)).2
  · exact (State.shows_of_asking (State.doCall_seat_of_charge hse hst hroom k st j false)).2
  · exact State.doCall_faultedBy hse hfull k st j true
  · exact State.doCall_faultedBy hse hfull k st j false
  · dsimp only
    rw [State.takeAction, State.doReturn_of_nil hf]
    exact State.latch_faultedBy hse _ _
  · exact (State.shows_of_asking (State.doReturn_seat hse st hf)).2
  · dsimp only
    rw [hcomplete]
    exact State.shows_of_asking (State.completeCharge_seat_maintain hse st hj)
  · dsimp only
    rw [hcomplete]
    have h := State.completeCharge_seat_standby hse st hnone
    exact ⟨State.state_of_seat h, congrArg (fun n : Seat => n.bay.outcome) h, State.session_of_seat h⟩

/-- The actions in MAINTAIN (R39, R72). -/
theorem exitActions_in_maintain (s : State) (b : BayNo) (se : Session) (k : StageNo) (st : Stage) (m : StageNo)
    (hst : (s.bay b).state = .maintain) (hse : (s.bay b).session = some se) (hf : se.frames = [])
    (hm : s.maintainStage b = some m) :
    let after := fun a => ((s.takeAction b se k st a).bay b)
    let faulted := fun a kind n => (s.takeAction b se k st a).FaultedBy b se kind n
    (∀ a, a = .complete ∨ a = .goto m → (after a).state = .maintain ∧
      (after a).session = some (se.entered m s.now (s.baseAt b m) false) ∧
      (st.equalizeMark = false → (s.takeAction b se k st a).inFlight = s.inFlight)) ∧
    (∀ j, j ≠ m → (after (.goto j)).state = .charge ∧
      (after (.goto j)).session = some (se.entered j s.now (s.baseAt b j) false).back) ∧
    (∀ j, (after (.callResume j)).state = .charge ∧ (after (.callRestart j)).state = .charge ∧
      (after (.callResume j)).session = some (({ se with frames := [se.frame k true] } : Session).entered j s.now
        (s.baseAt b j) true).back ∧
      (after (.callRestart j)).session = some (({ se with frames := [se.frame k false] } : Session).entered j s.now
        (s.baseAt b j) true).back) ∧
    faulted .ret .profile none ∧ ∀ n, faulted (.fault n) .profileStop (some n) := by
  have hroom : se.frames.length < Config.maxFrames := by rw [hf]; decide
  have hrearm : ∀ a, a = .complete ∨ a = .goto m → s.takeAction b se k st a = (s.leaveStage b st).rearm b m := by
    rintro a (rfl | rfl)
    · simp only [State.takeAction, State.doComplete, hst, hm]
    · simp only [State.takeAction, State.doGoto, hst, hm, and_self, if_true]
  refine ⟨fun a ha => ?_, fun j hj => ?_, fun j => ?_, ?_, fun n => State.latch_faultedBy hse _ _⟩
  · dsimp only
    rw [hrearm a ha]
    obtain ⟨hstate, hsession⟩ := State.shows_of_asking (State.rearm_seat hse st m)
    refine ⟨hstate.trans hst, hsession, fun hmark => ?_⟩
    rw [State.inFlight_of_ledger (State.rearm_ledger _ b m), State.leaveStage, hmark]
    rfl
  · have hother : s.maintainStage b ≠ some j := fun h => hj (Option.some.inj (h.symm.trans hm))
    exact State.shows_of_asking (State.doGoto_seat_back hse hst st hother)
  · obtain ⟨hs, hse1⟩ := State.shows_of_asking (State.doCall_seat_back hse hst hroom k st j true)
    obtain ⟨hs', hse2⟩ := State.shows_of_asking (State.doCall_seat_back hse hst hroom k st j false)
    simp only [Session.called, hf] at hse1 hse2
    exact ⟨hs, hs', hse1, hse2⟩
  · dsimp only
    rw [State.takeAction, State.doReturn_of_nil hf]
    exact State.latch_faultedBy hse _ _

end

/-- Settles O51: the session and the state are read off the seat after each action, the pack off its ledger. -/
theorem exitActionsMoveTheSession : Obligations.ExitActionsMoveTheSession := by
  refine ⟨fun s b se k st hst hse => ?_, fun s b se k st m hst hse hf hm =>
    exitActions_in_maintain s b se k st m hst hse hf hm, fun s b se k st a g r hst hse hi hr => ⟨?_, ?_⟩⟩
  · obtain ⟨hgoto, hcall, hfull, hempty, hret, hmaintain, hend, hstop⟩ := exitActions_in_charge s b se k st hst hse
    refine ⟨hgoto, hcall, hfull, hempty, fun f fs hf => ⟨fun v hv => (hret f fs hf).trans ?_,
      fun hv => (hret f fs hf).trans ?_⟩, hmaintain, hend, hstop⟩ <;>
    · simp [Session.returned, hv, Session.resumed]
  · intro hfault hret hcall
    have ha : a.Leaves se := ⟨hfault, hret, hcall⟩
    refine ⟨fun hm => ⟨?_, ?_⟩, fun hm => ?_⟩
    · rw [State.takeAction_pack ha, State.leaveStage_pack, if_pos ⟨hm, hi⟩, hr]
      rfl
    · obtain ⟨ws, hws⟩ := State.takeAction_ledger ha s b k st
      rw [show (s.takeAction b se k st a).inFlight = _ from congrArg Ledger.inFlight hws]
      exact List.mem_append_left _ (State.leaveStage_writes hm hi hr)
    · rw [State.takeAction_pack ha, State.leaveStage_pack, if_neg (by simp [hm]), hr]
  · have hrel : (s.bay b).state ≠ .release := by rcases hst with h | h <;> rw [h] <;> decide
    rintro (⟨n, rfl⟩ | ⟨rfl, hf⟩)
    · rw [State.takeAction, State.latch_equalize hrel, hr]
      rfl
    · rw [State.takeAction, State.doReturn_of_nil hf, State.latch_equalize hrel, hr]
      rfl

end Sys2Proof.Machine
end

section
/-! SUPPORT. The outline after the updates of one record, the end of a session in it, and the statement about STOP BAY
(R40, R41). -/

namespace Sys2Proof.Machine

section
variable (s : State) (b : BayNo)

/-! ## The outline after an update -/

theorem State.outline_bay (x : BayNo) : s.outline.bay x = (s.bay x).outline := by
  simp [State.outline, State.bay]

theorem State.outline_grant (x : BayNo) : s.outline.grant x = (s.grant x).outline := by
  simp [State.outline, State.grant]

/-- An update of a sequencer that does not read the drive is one of the outline. -/
theorem State.modBay_outline {f : Bay → Bay} (hf : ∀ y, (f y).outline = (f y.outline).outline) :
    (s.modBay b f).outline = s.outline.modBay b fun y => (f y).outline := by
  have hbays : (Vector.ofFn fun x => ((s.modBay b f).bay x).outline) =
      s.outline.bays.set b ((f (s.outline.bay b)).outline) := by
    ext1 i hi
    rw [Vector.getElem_ofFn, Vector.getElem_set, State.outline_bay]
    have hx := s.modBay_bay b ⟨i, hi⟩ f
    rw [hx]
    by_cases h : (⟨i, hi⟩ : BayNo) = b
    · rw [if_pos h, if_pos (congrArg Fin.val h).symm, hf]
    · rw [if_neg h, if_neg fun h' => h (Fin.ext h'.symm)]
      exact (s.outline_bay ⟨i, hi⟩).symm
  unfold State.outline
  rw [hbays]
  simp only [State.modBay_grant]
  rfl

/-- An update of an entry that does not read what a pass sets, or the level, is one of the outline. -/
theorem State.modGrant_outline {f : Grant → Grant} (hf : ∀ e, (f e).outline = (f e.outline).outline) :
    (s.modGrant b f).outline = s.outline.modGrant b fun e => (f e).outline := by
  have hgrants : (Vector.ofFn fun x => ((s.modGrant b f).grant x).outline) =
      s.outline.alloc.grants.set b ((f (s.outline.grant b)).outline) := by
    ext1 i hi
    rw [Vector.getElem_ofFn, Vector.getElem_set, State.outline_grant]
    have hx := s.modGrant_grant b ⟨i, hi⟩ f
    rw [hx]
    by_cases h : (⟨i, hi⟩ : BayNo) = b
    · rw [if_pos h, if_pos (congrArg Fin.val h).symm, hf]
    · rw [if_neg h, if_neg fun h' => h (Fin.ext h'.symm)]
      exact (s.outline_grant ⟨i, hi⟩).symm
  unfold State.outline
  rw [hgrants]
  rfl

theorem State.reply_outline (k : Byte) (st : Status) (cs : List Byte) : (s.reply k st cs).outline = s.outline.reply k st cs :=
  rfl

theorem State.redrive_outline : (s.redrive b).outline = s.outline := State.outline_congr (s.redrive_passOutline b)

theorem State.moveTo_outline (st : BayState) :
    (s.moveTo b st).outline = (s.modBay b fun y => { y with state := st }).outline := State.redrive_outline _ b

theorem State.toStandby_outline (e : Ending) : (s.toStandby b e).outline =
    (s.modBay b fun y => { y with state := .standby, outcome := e, coolExpiry := none, preIssue := none }).outline := by
  rw [State.toStandby, State.moveTo_outline, State.modBay_modBay]

/-- An update of an entry that shows nothing. -/
theorem State.modGrant_modGrant (f g : Grant → Grant) : (s.modGrant b f).modGrant b g = s.modGrant b fun e => g (f e) := by
  simp [State.modGrant]

/-- The end of a session takes the session, and from the grant entry what it gave (R40, R107). -/
theorem State.endSession_outline : (s.endSession b).outline = (s.withoutSession b).outline := by
  unfold State.endSession State.withoutSession
  split
  · rw [State.releaseRequest_outline, State.modGrant_modGrant, State.modGrant_outline _ _ fun _ => rfl,
      State.modGrant_outline _ _ fun _ => rfl]
    rfl
  · rfl

end

/-! ## STOP BAY -/

section
variable (s : State) (b : BayNo)

/-- The writes of a bay's charge (R21). -/
def State.chargeOfBay (s : State) (b : BayNo) : List StoreWrite :=
  match (s.bay b).identity with
  | .registered g => ((s.pack g).map fun r => StoreWrite.charge g r.charge).toList
  | _ => []

theorem State.saveChargeAt_eq : s.saveChargeAt b = { s with inFlight := s.inFlight ++ s.chargeOfBay b } := by
  unfold State.saveChargeAt State.chargeOfBay
  cases (s.bay b).identity with
  | registered g =>
    dsimp only
    unfold State.saveCharge
    cases s.pack g <;> simp [State.write]
  | empty => simp
  | anonymous c q k => simp

theorem State.stopAt_outline (e : Ending) : (s.stopAt b e).outline =
    ((({ s with inFlight := s.inFlight ++ s.chargeOfBay b } : State).withoutSession b).modBay b fun y =>
      { y with state := .standby, outcome := e, coolExpiry := none, preIssue := none }).outline := by
  rw [State.stopAt, State.handAllReady_outline, State.relevel_outline, State.toStandby_outline,
    State.modBay_outline _ _ fun _ => rfl, State.endSession_outline, State.saveChargeAt_eq,
    State.modBay_outline _ _ fun _ => rfl]

theorem State.stopAt_seat (e : Ending) : (s.stopAt b e).seat b = { s.seat b with
    bay := { (s.seat b).bay with session := none, outcome := e, coolExpiry := none, preIssue := none, state := .standby }
    request := if (s.bay b).session.isSome then 0 else (s.grant b).request } := by
  simp only [State.stopAt, State.handAllReady_seat, State.relevel_seat, State.toStandby_seat, State.endSession_seat,
    State.saveChargeAt_seat]
  rfl

end

theorem State.stopAt_inFlight (s : State) (b : BayNo) (e : Ending) :
    (s.stopAt b e).inFlight = s.inFlight ++ s.chargeOfBay b := by
  refine State.inFlight_of_ledger (s := { s with inFlight := s.inFlight ++ s.chargeOfBay b }) ?_
  rw [State.stopAt, State.handAllReady_ledger, State.relevel_ledger, State.toStandby_ledger, State.endSession_ledger,
    State.saveChargeAt_eq]

/-- Where STOP BAY is taken, the outcome it leaves (R41). -/
theorem Bay.stopEnding_of {y : Bay} (h : y.state = .cooling ∨ y.inSession = true) :
    stopEnding y.state = some (if y.state = .maintain then .complete else .stopped) := by
  rcases h with h | h
  · simp [h, stopEnding]
  · unfold Bay.inSession at h
    cases hs : y.state <;> simp [hs, stopEnding] at h ⊢

theorem takeStopBay_taken {s : State} {b : BayNo} {e : Ending} (h : stopEnding (s.bay b).state = some e) :
    takeStopBay b.val s = .taken (s.stopAt b e) [6] := by
  have hbyte : (s.stopAt b e).stateByte b = 6 := by
    rw [State.stateByte, State.state_of_seat (s.stopAt_seat b e)]
    rfl
  simp only [takeStopBay, index?_val, h, takenAt, hbyte]

/-- Settles O31: the bay stands in STANDBY with the writes of its charge, and the rest of the outline stays. -/
theorem stopBayGoesToStandby : Obligations.StopBayGoesToStandby := by
  intro s b h hok hst e
  have htaken := takeStopBay_taken (s := s.settle) (e := e) (Bay.stopEnding_of hst)
  have hout := s.settle.stopAt_outline b e
  have hfl : (s.settle.stopAt b e).inFlight = s.chargeOfBay b := (s.settle.stopAt_inFlight b e).trans (List.nil_append _)
  have hreq : ((s.settle.stopAt b e).grant b).request = 0 := by
    rw [State.request_of_seat (State.stopAt_seat _ b e)]
    dsimp only
    split
    · rfl
    · next hs =>
      exact (s.baysOk_iff.1 hok b).request_of_none (show (s.bay b).session = none by simpa using hs)
  generalize s.settle.stopAt b e = t at htaken hout hfl hreq
  refine ⟨_, congrArg Host.Outcome.next (State.command_of_taken h htaken), hreq, hfl, ?_⟩
  have hreply : (t.reply 0x12 .ok [6]).inFlight = s.chargeOfBay b := hfl
  rw [hreply, State.reply_outline, hout, State.reply_outline]
  rfl

end Sys2Proof.Machine
end

section
/-! SUPPORT. A bay out of service and back, in its seat, its drive, its line record and elsewhere, with the statement
about MASK BAY and UNMASK BAY (R43, R44, R152, R167). -/

namespace Sys2Proof.Machine

section
variable {s t : State} {b : BayNo}

/-! ## Out of service -/

theorem State.modLine_away_congr (h : t.away b = s.away b) (f : LineRec → LineRec) :
    (t.modLine b f).away b = (s.modLine b f).away b := by
  have hline : ∀ u : State, (u.modLine b f).away b =
      { u.away b with lines := (u.away b).lines.set b (f (u.away b).lines[b]) } := fun _ => rfl
  rw [hline, h, hline]

theorem State.checkRound_away (s : State) (b : BayNo) : s.checkRound.away b = s.away b := by
  unfold State.checkRound
  split <;> rfl

/-- The line record of a bay that goes out of service (R167). -/
def LineRec.finalPolled (l : LineRec) : LineRec := { l with finalPending := true }

/-- The sequencer and the record of a bay that goes out of service. -/
def State.maskedBay (s : State) (b : BayNo) : State :=
  (((s.endSession b).setFault b none).modBay b Bay.emptied).moveTo b .masked

theorem State.maskOut_eq (s : State) (b : BayNo) : s.maskOut b =
    ((((((s.maskedBay b).promptAdd b).modLine b LineRec.finalPolled).relevel b).handAllReady).checkRound) := rfl

/-- Outside its bay, a bay out of service has changed its own line record. -/
theorem State.maskOut_away (s : State) (b : BayNo) : (s.maskOut b).away b = (s.modLine b LineRec.finalPolled).away b := by
  rw [State.maskOut_eq, State.checkRound_away, State.handAllReady_away, State.relevel_away]
  refine State.modLine_away_congr ?_ LineRec.finalPolled
  have hprompt : ∀ u : State, (u.promptAdd b).away b = u.away b := fun u => by
    unfold State.promptAdd
    split <;> rfl
  rw [hprompt, State.maskedBay, State.moveTo_away,
    State.modBay_away (f := Bay.emptied) (hc := fun _ => rfl) (hl := fun _ => rfl), State.setFault_away, State.endSession_away]

theorem State.maskOut_ledger (s : State) (b : BayNo) : (s.maskOut b).ledger = s.ledger := by
  have hprompt : ∀ u : State, (u.promptAdd b).ledger = u.ledger := fun u => by
    unfold State.promptAdd
    split <;> rfl
  simp [State.maskOut, hprompt]

theorem State.promptAdd_bay (s : State) (b x : BayNo) : (s.promptAdd b).bay x = s.bay x := by
  unfold State.promptAdd
  split <;> rfl

theorem State.maskOut_rests (s : State) (b : BayNo) : (s.maskOut b).Rests b := by
  have hmoved : (s.maskedBay b).Rests b := by
    rw [State.maskedBay]
    exact State.moveTo_rests _ b (by simp) (by simp)
  rw [State.maskOut_eq]
  generalize s.maskedBay b = u at hmoved ⊢
  have hline : ((u.promptAdd b).modLine b LineRec.finalPolled).Rests b := hmoved.of_bay (u.promptAdd_bay b b)
  generalize (u.promptAdd b).modLine b LineRec.finalPolled = v at hline ⊢
  exact ((hline.relevel b).handAllReady).of_bay (State.checkRound_bay _ b)

/-- A bay out of service is on the prompt list (R167). -/
theorem State.mem_prompt_maskOut (s : State) (b : BayNo) : b ∈ (s.maskOut b).scanner.prompt := by
  rw [State.maskOut_eq]
  generalize s.maskedBay b = u
  have hprompt : b ∈ (u.promptAdd b).scanner.prompt := by
    rw [State.promptAdd_prompt]
    split <;> simp_all
  have hkeep := ((State.KeepsDrives.refl (D := []) ((u.promptAdd b).modLine b LineRec.finalPolled)).relevel
    b).handAllReady
  have hround : ∀ w : State, w.checkRound.scanner.prompt = w.scanner.prompt := fun w => by
    unfold State.checkRound
    split <;> rfl
  rw [hround]
  exact hkeep.prompt.subset hprompt

/-- What MASK BAY and SET BAY leave of a bay that goes out of service with configuration `cfg` (R43, R152, R167). -/
structure State.MaskedOut (s : State) (b : BayNo) (cfg : BayCfg) (t : State) : Prop where
  state : (t.bay b).state = .masked
  session : (t.bay b).session = none
  identity : (t.bay b).identity = .empty
  config : (t.bay b).cfg = cfg
  inFlight : t.inFlight = [.bayCfg b cfg]
  drive : (t.bay b).drive = ⟨false, 0, 0, true, .off⟩
  request : (t.grant b).request = 0
  fault : t.faultRec b = none
  prompt : b ∈ t.scanner.prompt
  finalPending : (t.line b).finalPending = true
  register : t.register = s.register
  issues : t.disp.issues = s.disp.issues
  reservations : t.disp.reservations = s.disp.reservations
  away : ∀ x, x ≠ b → (t.bay x).outline = (s.bay x).outline ∧ t.faultRec x = s.faultRec x ∧ t.line x = s.line x ∧
    (t.grant x).outline = (s.grant x).outline

theorem State.maskOut_maskedOut (hok : s.BaysOk) (cfg : BayCfg) :
    s.MaskedOut b cfg ((s.settle.setCfg b cfg).maskOut b) := by
  have hseat := (s.settle.setCfg b cfg).maskOut_seat b
  have hcfg : (s.settle.setCfg b cfg).seat b = { s.seat b with bay := { (s.seat b).bay with cfg := cfg } } :=
    State.modBay_seat s.settle b (f := fun y => { y with cfg := cfg }) fun _ => rfl
  have hother : ∀ x, x ≠ b → ((s.settle.setCfg b cfg).bay x) = s.bay x := fun x hx => by
    exact (s.settle.modBay_bay b x fun y => { y with cfg := cfg }).trans (if_neg hx)
  have haway := (s.settle.setCfg b cfg).maskOut_away b
  have hledger := (s.settle.setCfg b cfg).maskOut_ledger b
  have hrests := (s.settle.setCfg b cfg).maskOut_rests b
  have hprompt := (s.settle.setCfg b cfg).mem_prompt_maskOut b
  have hsession : ((s.settle.setCfg b cfg).bay b).session = (s.bay b).session := State.session_of_seat hcfg
  have hrequest : ((s.settle.setCfg b cfg).grant b).request = (s.grant b).request := State.request_of_seat hcfg
  generalize (s.settle.setCfg b cfg).maskOut b = t at hseat haway hledger hrests hprompt ⊢
  have hlines : t.scanner.lines = _ := State.lines_of_away haway
  have hstate : (t.bay b).state = .masked := State.state_of_seat hseat
  refine ⟨hstate, State.session_of_seat hseat, congrArg (fun n : Seat => n.bay.identity) hseat, ?_,
    State.inFlight_of_ledger hledger, ?_, ?_, State.fault_of_seat hseat, hprompt, ?_,
    (State.register_of_ledger hledger :), (State.issues_of_ledger hledger :), (State.reservations_of_away haway :), fun x hx => ⟨?_, ?_, ?_, ?_⟩⟩
  · refine (congrArg (fun n : Seat => n.bay.cfg) hseat).trans ?_
    rw [hcfg]
    rfl
  · rw [hrests.drive (y := t.bay b) rfl, driveOf]
    simp [hstate]
  · rw [State.request_of_seat hseat, hsession, hrequest]
    dsimp only
    split
    · rfl
    · next hs => exact (s.baysOk_iff.1 hok b).request_of_none (show (s.bay b).session = none by simpa using hs)
  · rw [State.line, hlines]
    simp [State.modLine, LineRec.finalPolled]
  · exact (State.bay_of_away haway hx).trans (congrArg Bay.outline (hother x hx))
  · exact (State.faultRec_of_away haway hx :)
  · rw [State.line, hlines]
    exact ((s.settle.setCfg b cfg).modLine_line b x LineRec.finalPolled).trans (if_neg hx)
  · exact (State.grant_of_away haway hx :)

/-! ## Back in service -/

theorem State.reply_passOutline (s : State) (k : Byte) (st : Status) (cs : List Byte) :
    (s.reply k st cs).passOutline = s.passOutline.reply k st cs := rfl

/-- The line record of a bay back in service (R44, R167). -/
def LineRec.cleared (l : LineRec) : LineRec := { l with misses := 0, finalPending := false }

/-- The sequencer of a bay back in service under a configuration (R44). -/
def Bay.unmasked (y : Bay) (cfg : BayCfg) : Bay :=
  { y with state := .vacant, cfg := cfg, reconcile := if y.reconcile = .restore then .restore else .unmask }

/-- A bay back in service under a new configuration, but for its drive. -/
def State.unmaskedAs (s : State) (b : BayNo) (cfg : BayCfg) : State :=
  (({ s with inFlight := s.inFlight ++ [.bayCfg b cfg] } : State).modLine b LineRec.cleared).modBay b fun y =>
    y.unmasked cfg

theorem State.maskIn_eq (s : State) (b : BayNo) (cfg : BayCfg) :
    (s.setCfg b cfg).maskIn b = (s.unmaskedAs b cfg).redrive b := by
  have hbase : (((s.setCfg b cfg).modLine b LineRec.cleared).modBay b fun y =>
      { y with reconcile := if y.reconcile = .restore then .restore else .unmask }).modBay b
        (fun y => { y with state := .vacant }) = s.unmaskedAs b cfg := by
    rw [State.modBay_modBay]
    simp [State.setCfg, State.unmaskedAs, State.modBay, State.modLine, State.write, Bay.unmasked]
    rfl
  rw [← hbase]
  rfl

theorem takeMaskBay_taken {s : State} {b : BayNo} (hrel : (s.bay b).state ≠ .release) (hm : (s.bay b).state ≠ .masked) :
    takeMaskBay b.val s = .taken ((s.setCfg b { (s.bay b).cfg with masked := true }).maskOut b) [9] := by
  have hbyte : ((s.setCfg b { (s.bay b).cfg with masked := true }).maskOut b).stateByte b = 9 := by
    rw [State.stateByte, State.state_of_seat (State.maskOut_seat _ b)]
    rfl
  simp only [takeMaskBay, index?_val, hrel, hm, or_self, if_false, takenAt, hbyte]

theorem State.unmaskedAs_bay (s : State) (b : BayNo) (cfg : BayCfg) :
    (s.unmaskedAs b cfg).bay b = (s.bay b).unmasked cfg := by
  simp [State.unmaskedAs, State.bay, State.modLine, State.modBay]

theorem takeUnmaskBay_taken {s : State} {b : BayNo} (hm : (s.bay b).state = .masked) : takeUnmaskBay b.val s =
    .taken ((s.unmaskedAs b { (s.bay b).cfg with masked := false }).redrive b) [0] := by
  have hbyte : ((s.unmaskedAs b { (s.bay b).cfg with masked := false }).redrive b).stateByte b = 0 := by
    rw [State.stateByte, State.redrive_bay, if_pos rfl, State.unmaskedAs_bay]
    rfl
  simp only [takeUnmaskBay, index?_val, hm, ne_eq, not_true_eq_false, if_false, takenAt, State.maskIn_eq, hbyte]

end

/-- Settles O30: MASK BAY leaves its bay as `State.MaskedOut` says, and UNMASK BAY the state it names, but for the drive. -/
theorem maskAndUnmaskBay : Obligations.MaskAndUnmaskBay := by
  intro s b h
  refine ⟨fun hok hrel hm => ?_, fun hm => ?_⟩
  · have htaken := takeMaskBay_taken (s := s.settle) hrel hm
    have hout := State.maskOut_maskedOut (s := s) (b := b) hok { (s.bay b).cfg with masked := true }
    change takeMaskBay b.val s.settle =
      .taken ((s.settle.setCfg b { (s.bay b).cfg with masked := true }).maskOut b) [9] at htaken
    generalize (s.settle.setCfg b { (s.bay b).cfg with masked := true }).maskOut b = t at htaken hout
    exact ⟨_, congrArg Host.Outcome.next (State.command_of_taken h htaken), hout.state, hout.session, hout.identity,
      hout.config, hout.drive, hout.request, hout.fault, hout.prompt, hout.finalPending, rfl, hout.inFlight,
      hout.register, hout.issues, hout.reservations, hout.away⟩
  · have htaken := takeUnmaskBay_taken (s := s.settle) hm
    have hsame : s.settle.unmaskedAs b { (s.settle.bay b).cfg with masked := false } =
        (({ s.settle with inFlight := [.bayCfg b { (s.bay b).cfg with masked := false }] } : State).modLine b
          LineRec.cleared).modBay b fun y => y.unmasked { y.cfg with masked := false } :=
      State.modBay_congr _ b rfl
    have hbay := s.settle.unmaskedAs_bay b { (s.settle.bay b).cfg with masked := false }
    generalize s.settle.unmaskedAs b { (s.settle.bay b).cfg with masked := false } = u at htaken hsame hbay
    refine ⟨_, congrArg Host.Outcome.next (State.command_of_taken h htaken), ?_, ?_⟩
    · have hrec : ((u.redrive b).bay b).reconcile = (u.bay b).reconcile := by rw [State.redrive_bay, if_pos rfl]
      change ((u.redrive b).bay b).reconcile ≠ .no
      rw [hrec, hbay, Bay.unmasked]
      dsimp only
      split <;> simp
    · rw [State.reply_passOutline, State.redrive_passOutline, hsame, State.reply_passOutline]
      rfl

end Sys2Proof.Machine
end

section
/-! SUPPORT. What an issue leaves: marked packs, bays in RELEASE, and the rest as it was, with the statements about a taken
ISSUE CLASS and a taken ISSUE BAY (R45, R117, R122, R123). -/

namespace Sys2Proof.Machine

/-! ## What no operation of a bay changes -/

/-- The parts of a state that stay, whatever bays an event works on: the configuration, line records, reservations, reply
and clocks. -/
structure Surround where
  classes : Vector (Option ClassRec) 8
  profiles : Vector Profile 8
  cfgs : BayNo → BayCfg
  siteCap : Nat
  scheme : Scheme
  feederCaps : Vector Nat 4
  lookahead : Nat
  window : Nat
  scanInterval : Nat
  mask : Vector Bool 8
  lines : Vector LineRec 24
  reservations : List Reservation
  reply : Option Reply
  now : Nat
  minute : Nat

/-- The surround of a state. -/
def State.surround (s : State) : Surround where
  classes := s.register.classes
  profiles := s.profiles
  cfgs b := (s.bay b).cfg
  siteCap := s.alloc.siteCap
  scheme := s.alloc.scheme
  feederCaps := s.alloc.feederCaps
  lookahead := s.disp.lookahead
  window := s.disp.window
  scanInterval := s.scanner.scanInterval
  mask := s.link.mask
  lines := s.scanner.lines
  reservations := s.disp.reservations
  reply := s.link.reply
  now := s.now
  minute := s.minute

theorem State.surround_of_away {s t : State} {b : BayNo} (h : t.away b = s.away b) : t.surround = s.surround := by
  have hcfg : (fun x => (t.bay x).cfg) = fun x => (s.bay x).cfg := funext (State.cfg_of_away h)
  simp only [State.surround, hcfg, Surround.mk.injEq, true_and]
  exact ⟨congrArg Away.classes h, congrArg Away.profiles h, congrArg Away.siteCap h, congrArg Away.scheme h,
    congrArg Away.feederCaps h, congrArg Away.lookahead h, congrArg Away.window h, congrArg Away.scanInterval h,
    congrArg Away.mask h, congrArg Away.lines h, State.reservations_of_away h, State.reply_of_away h, State.now_of_away h,
    State.minute_of_away h⟩

theorem State.sameConfig_of_surround {s t : State} {rs : List Reservation} {rep : Option Reply}
    (h : t.surround = { s.surround with reservations := rs, reply := rep }) : s.SameConfig t :=
  ⟨congrArg Surround.classes h, congrArg Surround.profiles h, fun b => congrArg (fun u : Surround => u.cfgs b) h,
    congrArg Surround.siteCap h, congrArg Surround.scheme h, congrArg Surround.feederCaps h,
    congrArg Surround.lookahead h, congrArg Surround.window h, congrArg Surround.scanInterval h, congrArg Surround.mask h⟩

theorem State.surround_of_outline {s t : State} (h : t.outline = s.outline) : t.surround = s.surround :=
  State.surround_of_away (State.away_of_outline h 0)

section
variable {s t u : State}

/-! ## One release -/

theorem State.setMark_pack (s : State) (g : Nat) (m : Option Nat) (x : Nat) :
    (s.setMark g m).pack x = if x = g then (s.pack x).map fun r => { r with mark := m } else s.pack x := by
  rw [State.setMark, State.modPack_pack]
  exact fun _ => rfl

theorem State.toRelease_ledger (s : State) (b : BayNo) : (s.toRelease b).ledger = s.ledger := by
  simp [State.toRelease]

theorem State.moveTo_driveOk (s : State) (b : BayNo) (st : BayState) : (s.moveTo b st).driveOk b := by
  have hgrant : ∀ u : State, (u.redrive b).grant b = u.grant b := fun u => by
    rw [State.grant, State.redrive_alloc, State.grant]
  rw [State.driveOk, State.moveTo, hgrant, State.redrive_bay, if_pos rfl]
  rfl

theorem State.toRelease_driveOk (s : State) (b : BayNo) : (s.toRelease b).driveOk b := by
  rw [State.toRelease]
  exact State.moveTo_driveOk _ b .release

/-- The state in which a pick's pack is marked. -/
def State.marked (s : State) (m : Nat) (p : Pick) : State :=
  match p.tag with
  | some t => s.setMark t (some m)
  | none => s

theorem State.releasePick_eq (s : State) (m : Nat) (p : Pick) :
    s.releasePick m p = (s.marked m p).toRelease p.bay := rfl

theorem State.marked_away (s : State) (m : Nat) (p : Pick) (b : BayNo) : (s.marked m p).away b = s.away b := by
  unfold State.marked
  split
  · exact State.setMark_away s b _ _
  · rfl

theorem State.releasePick_away (s : State) (m : Nat) (p : Pick) :
    (s.releasePick m p).away p.bay = s.away p.bay := by
  rw [State.releasePick_eq, State.toRelease_away, State.marked_away]

/-- The ledger of a state without its pack records. -/
structure Docket where
  rotation : Vector (List Nat) 8
  inFlight : List StoreWrite
  issues : List Issue
  edges : Edges

/-- The docket of a state. -/
def State.docket (s : State) : Docket := ⟨s.register.rotation, s.inFlight, s.disp.issues, s.link.edges⟩

theorem State.docket_of_ledger (h : t.ledger = s.ledger) : t.docket = s.docket :=
  congrArg (fun l : Ledger => (⟨l.register.rotation, l.inFlight, l.issues, l.edges⟩ : Docket)) h

theorem State.marked_docket (s : State) (m : Nat) (p : Pick) : (s.marked m p).docket = s.docket := by
  unfold State.marked
  split <;> rfl

theorem State.marked_pack (s : State) (m : Nat) (p : Pick) (g : Nat) : (s.marked m p).pack g =
    if p.tag = some g then (s.pack g).map fun r => { r with mark := some m } else s.pack g := by
  unfold State.marked
  split
  · next t ht =>
    rw [State.setMark_pack, ht]
    simp only [Option.some.injEq, eq_comm]
  · next hn => rw [hn, if_neg (by simp)]

theorem State.releasePick_keepsDrives (s : State) (m : Nat) (p : Pick) : s.KeepsDrives [] (s.releasePick m p) := by
  rw [State.releasePick_eq, State.toRelease]
  refine State.KeepsDrives.moveTo (State.KeepsDrives.endSession (State.KeepsDrives.modBay ?_ (by simp) _) _) .release
  refine .of_rack ?_
  unfold State.marked
  split <;> simp

/-! ## The releases of an issue -/

/-- What the release of the picks `l` for machine `m` makes of `s`. -/
structure State.Released (s : State) (m : Nat) (l : List Pick) (u : State) : Prop where
  bays : ∀ p ∈ l, (u.bay p.bay).state = .release ∧ (u.bay p.bay).session = none ∧ u.driveOk p.bay ∧
    (u.grant p.bay).request = 0
  preIssue : (l.map Pick.bay).Nodup → ∀ p ∈ l, (u.bay p.bay).preIssue =
    some (if (s.bay p.bay).state = .maintain then .maintain else .standby (s.bay p.bay).outcome)
  identity : ∀ x, (u.bay x).identity = (s.bay x).identity
  fault : ∀ x, u.faultRec x = s.faultRec x
  pack : ∀ g, u.pack g = if ∃ p ∈ l, p.tag = some g then (s.pack g).map fun r => { r with mark := some m } else s.pack g
  away : ∀ x, (∀ p ∈ l, p.bay ≠ x) → (u.bay x).outline = (s.bay x).outline ∧
    (u.grant x).outline = (s.grant x).outline
  docket : u.docket = s.docket
  surround : u.surround = s.surround
  drives : s.KeepsDrives [] u
  idle : (∀ x, (s.bay x).session = none → (s.grant x).request = 0) →
    ∀ x, (u.bay x).session = none → (u.grant x).request = 0

theorem State.releasePick_released (s : State) (m : Nat) (p : Pick)
    (hidle : ∀ x, (s.bay x).session = none → (s.grant x).request = 0) : s.Released m [p] (s.releasePick m p) := by
  have hseat := s.releasePick_seat m p p.bay
  rw [State.toRelease_seat] at hseat
  have haway := s.releasePick_away m p
  have hne : ∀ x, x ≠ p.bay → (s.releasePick m p).seat x = s.seat x := fun x hx => State.seat_of_away haway hx
  have hrequest : ((s.releasePick m p).grant p.bay).request = 0 := by
    rw [State.request_of_seat hseat]
    dsimp only
    split
    · rfl
    · next hs => exact hidle _ (by simpa using hs)
  refine
    { bays := fun q hq => ?_, preIssue := fun _ q hq => ?_, identity := fun x => ?_, fault := fun x => ?_,
      pack := fun g => ?_, away := fun x hx => ?_, docket := ?_, surround := State.surround_of_away haway,
      drives := s.releasePick_keepsDrives m p, idle := fun _ x hx => ?_ }
  · obtain rfl : q = p := by simpa using hq
    refine ⟨State.state_of_seat hseat, State.session_of_seat hseat, ?_, hrequest⟩
    rw [State.releasePick_eq]
    exact State.toRelease_driveOk _ _
  · obtain rfl : q = p := by simpa using hq
    exact congrArg (fun n : Seat => n.bay.preIssue) hseat
  · by_cases hx : x = p.bay
    · subst hx
      exact congrArg (fun n : Seat => n.bay.identity) hseat
    · exact congrArg (fun n : Seat => n.bay.identity) (hne x hx)
  · by_cases hx : x = p.bay
    · subst hx
      exact State.fault_of_seat hseat
    · exact State.fault_of_seat (hne x hx)
  · rw [State.releasePick_eq, State.pack_of_ledger (State.toRelease_ledger _ _), State.marked_pack]
    simp
  · have hx : x ≠ p.bay := fun h => hx p (by simp) h.symm
    exact ⟨State.bay_of_away haway hx, State.grant_of_away haway hx⟩
  · rw [State.releasePick_eq, State.docket_of_ledger (State.toRelease_ledger _ _), State.marked_docket]
  · by_cases hb : x = p.bay
    · subst hb
      exact hrequest
    · rw [State.request_of_seat (hne x hb)]
      rw [State.session_of_seat (hne x hb)] at hx
      exact hidle x hx

/-- The releases of one list after those of another. -/
theorem State.Released.append {m : Nat} {l l' : List Pick} (h : s.Released m l t) (h' : t.Released m l' u) :
    s.Released m (l ++ l') u where
  bays p hp := by
    by_cases hb : ∃ q ∈ l', q.bay = p.bay
    · obtain ⟨q, hq, hqb⟩ := hb
      rw [← hqb]
      exact h'.bays q hq
    · have haway : ∀ q ∈ l', q.bay ≠ p.bay := fun q hq hqb => hb ⟨q, hq, hqb⟩
      have hp : p ∈ l := (List.mem_append.1 hp).resolve_right fun hp' => haway p hp' rfl
      obtain ⟨hst, hse, hd, hr⟩ := h.bays p hp
      obtain ⟨hbay, hgrant⟩ := h'.away p.bay haway
      exact ⟨(congrArg Bay.state hbay :).trans hst, (congrArg Bay.session hbay :).trans hse,
        h'.drives.drive _ (by simp) hd, (congrArg Grant.request hgrant :).trans hr⟩
  preIssue hnodup p hp := by
    rw [List.map_append, List.nodup_append] at hnodup
    obtain ⟨hl, hl', hdisj⟩ := hnodup
    rcases List.mem_append.1 hp with hp | hp
    · have haway : ∀ q ∈ l', q.bay ≠ p.bay := fun q hq hqb =>
        hdisj _ (List.mem_map_of_mem hp) _ (List.mem_map_of_mem hq) hqb.symm
      rw [← h.preIssue hl p hp]
      exact (congrArg Bay.preIssue (h'.away p.bay haway).1 :)
    · have haway : ∀ q ∈ l, q.bay ≠ p.bay := fun q hq hqb =>
        hdisj _ (List.mem_map_of_mem hq) _ (List.mem_map_of_mem hp) hqb
      have hbay := (h.away p.bay haway).1
      rw [h'.preIssue hl' p hp, show (t.bay p.bay).state = (s.bay p.bay).state from (congrArg Bay.state hbay :),
        show (t.bay p.bay).outcome = (s.bay p.bay).outcome from (congrArg Bay.outcome hbay :)]
  identity x := (h'.identity x).trans (h.identity x)
  fault x := (h'.fault x).trans (h.fault x)
  pack g := by
    rw [h'.pack, h.pack]
    by_cases h1 : ∃ p ∈ l, p.tag = some g
    · obtain ⟨p, hp, hg⟩ := h1
      rw [if_pos (⟨p, hp, hg⟩ : ∃ p ∈ l, p.tag = some g),
        if_pos (⟨p, List.mem_append_left _ hp, hg⟩ : ∃ p ∈ l ++ l', p.tag = some g)]
      split
      · rw [Option.map_map]
        rfl
      · rfl
    · have hsame : (∃ p ∈ l ++ l', p.tag = some g) ↔ ∃ p ∈ l', p.tag = some g :=
        ⟨fun ⟨p, hp, hg⟩ => ⟨p, (List.mem_append.1 hp).resolve_left fun hp' => h1 ⟨p, hp', hg⟩, hg⟩,
          fun ⟨p, hp, hg⟩ => ⟨p, List.mem_append_right _ hp, hg⟩⟩
      rw [if_neg h1]
      simp only [hsame]
  away x hx := by
    obtain ⟨hb, hg⟩ := h.away x fun p hp => hx p (List.mem_append_left _ hp)
    obtain ⟨hb', hg'⟩ := h'.away x fun p hp => hx p (List.mem_append_right _ hp)
    exact ⟨hb'.trans hb, hg'.trans hg⟩
  docket := h'.docket.trans h.docket
  surround := h'.surround.trans h.surround
  drives := h.drives.trans h'.drives
  idle hidle := h'.idle (h.idle hidle)

theorem State.foldl_releasePick (m : Nat) (l : List Pick) (s : State)
    (hidle : ∀ x, (s.bay x).session = none → (s.grant x).request = 0) :
    s.Released m l (l.foldl (State.releasePick m) s) := by
  induction l generalizing s with
  | nil =>
    exact
      { bays := fun _ h => absurd h (by simp), preIssue := fun _ _ h => absurd h (by simp), identity := fun _ => rfl,
        fault := fun _ => rfl, pack := fun _ => by simp, away := fun _ _ => ⟨rfl, rfl⟩, docket := rfl, surround := rfl,
        drives := .refl s, idle := fun h => h }
  | cons p l ih =>
    have hp := s.releasePick_released m p hidle
    exact hp.append (ih _ (hp.idle hidle))

/-- A state with the new entry, other reservations, a reply and another draw of free bytes. -/
def State.issuedAs (u : State) (i : Issue) (rs : List Reservation) (rep : Option Reply) (d : Nat) : State :=
  { u with
    disp := { u.disp with issues := u.disp.issues ++ [i], reservations := rs }
    link := { u.link with reply := rep, receiver := .hunt }
    freeDraw := d }

/-- What an issue leaves, whatever work of the allocator and the dispatcher on shortages follows. -/
theorem State.Released.issuedTo {m : Nat} {l : List Pick} (h : s.settle.Released m l u) {c : Option ClassNo} {v : State}
    {rs : List Reservation} {rep : Option Reply} {d : Nat}
    (hv : v.outline = (u.issuedAs (u.newIssue m c l) rs rep d).outline) (hd : u.KeepsDrives [] v) :
    v.IssuedTo s m c l ∧ v.disp.reservations = rs := by
  have hbay : ∀ x, (v.bay x).outline = (u.bay x).outline := fun x => (State.bay_outline_of_outline hv x :)
  have hgrant : ∀ x, (v.grant x).outline = (u.grant x).outline :=
    fun x => (State.grant_outline_of_outline hv x :)
  have hfault : ∀ x, v.faultRec x = u.faultRec x := fun x => (State.faultRec_of_outline hv x :)
  have hsurround : v.surround = { s.surround with reservations := rs, reply := rep } :=
    (State.surround_of_outline hv).trans
      (congrArg (fun w : Surround => { w with reservations := rs, reply := rep }) h.surround)
  have hledger := State.ledger_of_outline hv
  have hpack : ∀ g, v.pack g = u.pack g := fun g => (State.pack_of_ledger hledger g :)
  have hdocket : v.docket = { s.settle.docket with issues := s.disp.issues ++ [s.newIssue m c l] } := by
    have hnew : u.newIssue m c l = s.newIssue m c l := by
      have hnow : u.now = s.now := congrArg Surround.now h.surround
      have hwindow : u.disp.window = s.disp.window := congrArg Surround.window h.surround
      simp only [State.newIssue, hnow, hwindow]
    refine (State.docket_of_ledger hledger).trans ?_
    rw [← hnew]
    exact congrArg (fun w : Docket => { w with issues := w.issues ++ [u.newIssue m c l] }) h.docket
  refine ⟨⟨congrArg Docket.issues hdocket, fun p hp => ?_, fun p hp g r hg hr => ?_, fun g hg => ?_,
    congrArg Docket.rotation hdocket, congrArg Docket.inFlight hdocket, State.sameConfig_of_surround hsurround,
    congrArg Surround.lines hsurround, congrArg Surround.now hsurround, congrArg Surround.minute hsurround,
    congrArg Docket.edges hdocket, fun x hx => ?_⟩, congrArg Surround.reservations hsurround⟩
  · obtain ⟨hst, hse, hdrive, hreq⟩ := h.bays p hp
    have hst' : (v.bay p.bay).state = .release := (congrArg Bay.state (hbay p.bay) :).trans hst
    have hdrive' : v.driveOk p.bay := hd.drive _ (by simp) hdrive
    refine ⟨hst', (congrArg Bay.session (hbay p.bay) :).trans hse, ?_, (congrArg Grant.request (hgrant p.bay) :).trans hreq,
      (congrArg Bay.identity (hbay p.bay) :).trans (h.identity p.bay), (hfault p.bay).trans (h.fault p.bay),
      fun hn => (congrArg Bay.preIssue (hbay p.bay) :).trans (h.preIssue hn p hp)⟩
    rw [hdrive', driveOf, hst']
  · rw [hpack, h.pack, if_pos ⟨p, hp, hg⟩]
    exact congrArg (Option.map fun r : PackRec => { r with mark := some m }) hr
  · rw [hpack, h.pack, if_neg fun ⟨p, hp, hg'⟩ => hg p hp hg']
    rfl
  · obtain ⟨hb, hg⟩ := h.away x hx
    exact ⟨(hbay x).trans hb, (hgrant x).trans hg, (hfault x).trans (h.fault x)⟩

/-- Right bays without a session request nothing (R37). -/
theorem State.idle_of_baysOk (h : s.BaysOk) (x : BayNo) (hx : (s.bay x).session = none) : (s.grant x).request = 0 :=
  (s.baysOk_iff.1 h x).request_of_none hx

/-- ISSUE BAY as it is taken (R123). -/
theorem takeIssueBay_taken {m : Nat} {b : BayNo} {o : Option BayNo} (h1 : 1 ≤ m) (h2 : m ≤ 999)
    (hno : s.hasIssue m = false) (hroom : s.disp.issues.length < 8) (ho : o ≠ some b)
    (hready : ∀ x ∈ b :: o.toList, ((s.bay x).state = .maintain ∨ (s.bay x).state = .standby) ∧ s.quarantinedAt x = false) :
    takeIssueBay m b.val (o.map (·.val)) s =
      .taken ((s.makeIssue m none ((b :: o.toList).map s.pickBay)).closeEvent [])
        (s.issueReply m ((b :: o.toList).map s.pickBay)) := by
  have hbays : readIssueBays b.val (o.map (·.val)) = some (b :: o.toList) := by
    cases o with
    | none => simp [readIssueBays]
    | some b' =>
      have hne : b' ≠ b := fun h => ho (by rw [h])
      simp [readIssueBays, hne]
  have hfull : s.issuesFull = false := by
    simp only [State.issuesFull, decide_eq_false_iff_not, Nat.not_le]
    exact hroom
  have hall : ((b :: o.toList).all s.issuable) = true :=
    List.all_eq_true.2 fun x hx => decide_eq_true (hready x hx).1
  have hany : ((b :: o.toList).any s.quarantinedAt) = false :=
    List.any_eq_false.2 fun x hx => by rw [(hready x hx).2]; exact Bool.false_ne_true
  have hvalid : validMachine m = true := by simp [validMachine, between, h1, h2]
  unfold takeIssueBay
  rw [hbays, hvalid]
  simp only [hno, hfull, hall, hany, Bool.false_eq_true, Bool.true_eq_false, if_false]

/-- ISSUE CLASS as it is taken (R119 to R122). -/
theorem takeIssueClass_taken {m : Nat} {c : ClassNo} (h1 : 1 ≤ m) (h2 : m ≤ 999) (hno : s.hasIssue m = false)
    (hroom : s.disp.issues.length < 8) (hsel : s.selection c ≠ []) :
    takeIssueClass m c.val s = .taken (s.issueClass m c ((s.selection c).filterMap PackRec.pick?)).drawn
      (s.issueReply m ((s.selection c).filterMap PackRec.pick?) ++
        s.consumedBytes (4 + 4 * ((s.selection c).filterMap PackRec.pick?).length)
          (consumeFirst (s.consumable c) s.disp.reservations).2) := by
  have hfull : s.issuesFull = false := by
    simp only [State.issuesFull, decide_eq_false_iff_not, Nat.not_le]
    exact hroom
  have hvalid : validMachine m = true := by simp [validMachine, between, h1, h2]
  unfold takeIssueClass
  rw [index?_val, hvalid]
  simp only [hno, hfull, Bool.false_eq_true, if_false]

theorem State.settle_matchedPair (s : State) (w : Nat) (l : List PackRec) :
    s.settle.matchedPair w l = s.matchedPair w l := by
  induction l with
  | nil => rfl
  | cons a l ih =>
    simp only [State.matchedPair]
    rw [ih]
    rfl

theorem State.settle_selection (s : State) (c : ClassNo) : s.settle.selection c = s.selection c := by
  simp only [State.selection, State.settle_matchedPair]
  rfl

theorem State.drawn_outline (s : State) : s.drawn.outline = s.outline.drawn := by
  unfold State.drawn State.outline
  rfl

theorem State.consumedBytes_length (s : State) (o : Nat) (v : Option Reservation) :
    (s.consumedBytes o v).length = 4 := by
  cases v <;> rfl

/-- The end of an event leaves the shortage of a class it names current (R117). -/
theorem State.closeEvent_short (s : State) {c : ClassNo} {cs : List ClassNo} (hc : c ∈ cs) :
    (s.closeEvent cs).disp.short[c] = (s.closeEvent cs).isShort c := by
  simp only [State.closeEvent]
  rw [State.computeShorts_short, State.computeShorts_isShort, if_pos]
  exact List.mem_filter.2 ⟨mem_allClasses c, by simp [hc]⟩

theorem State.pickBytes_length (s : State) (p : Pick) : (s.pickBytes p).length = 4 := rfl

theorem State.flatMap_pickBytes_length (s : State) (l : List Pick) : (l.flatMap s.pickBytes).length = 4 * l.length := by
  induction l with
  | nil => rfl
  | cons p l ih => rw [List.flatMap_cons, List.length_append, ih, State.pickBytes_length, List.length_cons]; omega

end

/-- Settles O36: the releases in the order of the picks, with the dispatcher's event closed after them. -/
theorem issueBayReleasesItsBays : Obligations.IssueBayReleasesItsBays := by
  intro s m b o h hok _ h1 h2 hno hroom ho hready ps
  have htaken := takeIssueBay_taken (s := s.settle) h1 h2 hno hroom ho hready
  have hrel := State.foldl_releasePick m ps s.settle (State.idle_of_baysOk (s := s.settle) hok)
  change takeIssueBay m b.val _ s.settle = .taken ((s.settle.makeIssue m none ps).closeEvent []) (s.issueReply m ps) at htaken
  have hmake : s.settle.makeIssue m none ps = (ps.foldl (State.releasePick m) s.settle).setIssues
      ((ps.foldl (State.releasePick m) s.settle).disp.issues ++
        [(ps.foldl (State.releasePick m) s.settle).newIssue m none ps]) := rfl
  rw [hmake] at htaken
  generalize ps.foldl (State.releasePick m) s.settle = u at htaken hrel
  have hres : u.disp.reservations = s.disp.reservations := congrArg Surround.reservations hrel.surround
  obtain ⟨hissued, hreservations⟩ := hrel.issuedTo (c := none)
    (v := ((u.setIssues (u.disp.issues ++ [u.newIssue m none ps])).closeEvent []).reply 0x19 .ok (s.issueReply m ps))
    (rs := u.disp.reservations) (rep := some ⟨0x99, .ok, s.issueReply m ps⟩) (d := u.freeDraw)
    (by rw [State.reply_outline, State.closeEvent_outline, ← State.reply_outline]; rfl)
    (((State.KeepsDrives.of_rack (s := u) (by rfl)).closeEvent []).quiet (State.reply_rack _ _ _ _))
  exact ⟨_, congrArg Host.Outcome.next (State.command_of_taken h htaken), hissued, hreservations.trans hres,
    _, rfl, State.flatMap_pickBytes_length s ps⟩

/-- Settles O35: the releases of the selected packs, then the reservation consumed and the class's shortage computed. -/
theorem issueClassReleasesItsPacks : Obligations.IssueClassReleasesItsPacks := by
  intro s m c h hok _ h1 h2 hno hroom hsel
  have hsettle : s.settle.selection c = s.selection c := s.settle_selection c
  have htaken := takeIssueClass_taken (s := s.settle) (c := c) h1 h2 hno hroom (hsettle.trans_ne hsel)
  rw [hsettle] at htaken
  generalize (s.selection c).filterMap PackRec.pick? = ps at htaken ⊢
  have hkeeps := takeIssueClass_keeps (s := s.settle) m c.val
  have hrel := State.foldl_releasePick m ps s.settle (State.idle_of_baysOk (s := s.settle) hok)
  obtain ⟨cs, hcs, hlen⟩ : ∃ cs, s.settle.issueReply m ps ++ s.settle.consumedBytes (4 + 4 * ps.length)
      (consumeFirst (s.settle.consumable c) s.settle.disp.reservations).2 = u2 m ++ [u1 ps.length] ++ cs ∧
      cs.length = 4 * ps.length + 4 :=
    ⟨_, List.append_assoc _ _ _, by
      rw [List.length_append, State.flatMap_pickBytes_length, State.consumedBytes_length]⟩
  rw [hcs] at htaken
  have hconsumable : ∀ u : State, u.minute = s.minute → u.disp.lookahead = s.disp.lookahead →
      u.consumable c = fun v => decide (v.cls = c ∧ v.due ≤ s.minute + s.disp.lookahead) := fun u hm hl => by
    funext v
    simp only [State.consumable, State.counts, hm, hl, Bool.decide_and]
  rw [htaken] at hkeeps
  have hissue : s.settle.issueClass m c ps = (((ps.foldl (State.releasePick m) s.settle).setIssues
      ((ps.foldl (State.releasePick m) s.settle).disp.issues ++
        [(ps.foldl (State.releasePick m) s.settle).newIssue m (some c) ps])).setReservations
      (consumeFirst ((ps.foldl (State.releasePick m) s.settle).consumable c)
        (ps.foldl (State.releasePick m) s.settle).disp.reservations).1).closeEvent [c] := rfl
  rw [hissue] at htaken hkeeps
  generalize ps.foldl (State.releasePick m) s.settle = u at htaken hrel hkeeps
  have hres : (consumeFirst (u.consumable c) u.disp.reservations).1 =
      (consumeFirst (fun v => decide (v.cls = c ∧ v.due ≤ s.minute + s.disp.lookahead)) s.disp.reservations).1 := by
    rw [hconsumable u (congrArg Surround.minute hrel.surround) (congrArg Surround.lookahead hrel.surround),
      show u.disp.reservations = s.disp.reservations from congrArg Surround.reservations hrel.surround]
  rw [hres] at htaken hkeeps
  generalize (consumeFirst (fun v => decide (v.cls = c ∧ v.due ≤ s.minute + s.disp.lookahead)) s.disp.reservations).1 = rs
    at htaken hkeeps ⊢
  generalize hw : ((u.setIssues (u.disp.issues ++ [u.newIssue m (some c) ps])).setReservations rs).closeEvent [c] = w
    at htaken hkeeps
  have hout : (w.drawn.reply 0x18 .ok (u2 m ++ [u1 ps.length] ++ cs)).outline = (u.issuedAs (u.newIssue m (some c) ps) rs
      (some ⟨0x98, .ok, u2 m ++ [u1 ps.length] ++ cs⟩) (u.freeDraw + 1)).outline := by
    rw [State.reply_outline, State.drawn_outline, ← hw, State.closeEvent_outline, ← State.drawn_outline,
      ← State.reply_outline]
    rfl
  have hdrives : u.KeepsDrives [] (w.drawn.reply 0x18 .ok (u2 m ++ [u1 ps.length] ++ cs)) := by
    have hlists : ((u.setIssues (u.disp.issues ++ [u.newIssue m (some c) ps])).setReservations rs).rack = u.rack := by
      rw [State.setReservations_rack, State.setIssues_rack]
    have hclosed := (State.KeepsDrives.of_rack (D := []) hlists).closeEvent [c]
    rw [hw] at hclosed
    refine hclosed.quiet ?_
    rw [State.reply_rack, State.drawn_rack]
  have hshort : w.disp.short[c] = w.isShort c := hw ▸ State.closeEvent_short _ (by simp)
  obtain ⟨hissued, hreservations⟩ := hrel.issuedTo hout hdrives
  have hshorts : s.ShortagesOk → w.drawn.ShortagesOk := fun hs => hkeeps.shortages hs
  exact ⟨_, congrArg Host.Outcome.next (State.command_of_taken h htaken), hissued, hreservations, hshort, hshorts, cs,
    rfl, hlen⟩

end Sys2Proof.Machine
end

section
/-! SUPPORT. What the parts of an entry leave as they end: the packs, the bays that return from RELEASE, and the rest as it
was, with the statement about the end of an entry by lapse or cancel (R46, R129, R130, R142). -/

namespace Sys2Proof.Machine

/-! ## The packs -/

/-- A record with no mark. -/
def PackRec.unmarked (r : PackRec) : PackRec := { r with mark := none }

/-- The pack of a tag, where it is registered, has no mark. -/
def State.Unmarked (s : State) (g : Nat) : Prop := ∀ r, s.pack g = some r → r.mark = none

/-- The pack of a tag, where it is registered, is nowhere known. -/
def State.Unaccounted (s : State) (g : Nat) : Prop := ∀ r, s.pack g = some r → r.place = .unaccounted

/-- From `s` to `t` marks only go, packs stay UNACCOUNTED and in their class, and outside the tags `l` a record loses at
most its mark. -/
structure State.PacksEase (l : List Nat) (s t : State) : Prop where
  unmarked : ∀ g, s.Unmarked g → t.Unmarked g
  unaccounted : ∀ g, s.Unaccounted g → t.Unaccounted g
  cls : ∀ g, (t.pack g).map (·.cls) = (s.pack g).map (·.cls)
  kept : ∀ g, g ∉ l → (t.pack g).map PackRec.unmarked = (s.pack g).map PackRec.unmarked

section
variable {s t u : State} {b : BayNo} {l : List Nat}

theorem State.PacksEase.of_pack (h : ∀ g, t.pack g = s.pack g) : State.PacksEase l s t where
  unmarked g hs r hr := hs r ((h g).symm.trans hr)
  unaccounted g hs r hr := hs r ((h g).symm.trans hr)
  cls g := by rw [h]
  kept g _ := by rw [h]

theorem State.PacksEase.of_ledger (h : t.ledger = s.ledger) : State.PacksEase l s t :=
  .of_pack fun g => State.pack_of_ledger h g

theorem State.PacksEase.trans {l' : List Nat} (h : State.PacksEase l s t) (h' : State.PacksEase l' t u) :
    State.PacksEase (l ++ l') s u where
  unmarked g hs := h'.unmarked g (h.unmarked g hs)
  unaccounted g hs := h'.unaccounted g (h.unaccounted g hs)
  cls g := (h'.cls g).trans (h.cls g)
  kept g hg := (h'.kept g fun hl => hg (List.mem_append_right _ hl)).trans
    (h.kept g fun hl => hg (List.mem_append_left _ hl))

theorem State.PacksEase.mono {l' : List Nat} (h : State.PacksEase l s t) (hl : ∀ g ∈ l, g ∈ l') :
    State.PacksEase l' s t :=
  ⟨h.unmarked, h.unaccounted, h.cls, fun g hg => h.kept g fun hm => hg (hl g hm)⟩

/-- After a step that loses marks alone. -/
theorem State.PacksEase.then {u : State} (h : State.PacksEase l s t) (h' : State.PacksEase [] t u) :
    State.PacksEase l s u := (h.trans h').mono (by simp)

theorem State.setMark_packsEase (s : State) (t : Nat) : State.PacksEase [] s (s.setMark t none) where
  unmarked g hs r hr := by
    rw [State.setMark_pack] at hr
    split at hr
    · obtain ⟨r', -, rfl⟩ := Option.map_eq_some_iff.1 hr
      rfl
    · exact hs r hr
  unaccounted g hs r hr := by
    rw [State.setMark_pack] at hr
    split at hr
    · obtain ⟨r', hr', rfl⟩ := Option.map_eq_some_iff.1 hr
      exact hs r' hr'
    · exact hs r hr
  cls g := by
    rw [State.setMark_pack]
    split
    · rw [Option.map_map]
      rfl
    · rfl
  kept g _ := by
    rw [State.setMark_pack]
    split
    · rw [Option.map_map]
      rfl
    · rfl

theorem State.setPlace_pack (s : State) (t : Nat) (p : Place) (g : Nat) :
    (s.setPlace t p).pack g = if g = t then (s.pack g).map fun r => { r with place := p } else s.pack g := by
  have hsave : ∀ u : State, (u.savePack t).pack g = u.pack g := fun u => by
    unfold State.savePack
    split <;> rfl
  rw [State.setPlace, hsave, State.modPack_pack]
  exact fun _ => rfl

theorem State.setPlace_packsEase (s : State) (t : Nat) : State.PacksEase [t] s (s.setPlace t .unaccounted) where
  unmarked g hs r hr := by
    rw [State.setPlace_pack] at hr
    split at hr
    · obtain ⟨r', hr', rfl⟩ := Option.map_eq_some_iff.1 hr
      exact hs r' hr'
    · exact hs r hr
  unaccounted g hs r hr := by
    rw [State.setPlace_pack] at hr
    split at hr
    · obtain ⟨r', -, rfl⟩ := Option.map_eq_some_iff.1 hr
      rfl
    · exact hs r hr
  cls g := by
    rw [State.setPlace_pack]
    split
    · rw [Option.map_map]
      rfl
    · rfl
  kept g hg := by rw [State.setPlace_pack, if_neg (by simpa using hg)]

/-! ## A return from RELEASE, outside its bay -/

/-- The issues of `t` name no machine that those of `s` do not. -/
def State.IssuesShrink (s t : State) : Prop := ∀ m, (∀ x ∈ s.disp.issues, x.machine ≠ m) → ∀ x ∈ t.disp.issues, x.machine ≠ m

/-- From `s` to `t` nothing outside the bays changes but packs, marks, writes and issues that go. -/
structure State.Eases (l : List Nat) (s t : State) : Prop where
  packs : State.PacksEase l s t
  rotation : t.register.rotation = s.register.rotation
  surround : t.surround = s.surround
  lapsed : t.link.edges.lapsed = s.link.edges.lapsed
  lost : s.link.edges.unaccounted = true → t.link.edges.unaccounted = true
  issues : s.IssuesShrink t
  drives : s.KeepsDrives [] t

theorem State.Eases.refl (s : State) : State.Eases l s s where
  packs := .of_pack fun _ => rfl
  rotation := rfl
  surround := rfl
  lapsed := rfl
  lost h := h
  issues _ h := h
  drives := .refl s

theorem State.Eases.trans {l' : List Nat} (h : State.Eases l s t) (h' : State.Eases l' t u) :
    State.Eases (l ++ l') s u where
  packs := h.packs.trans h'.packs
  rotation := h'.rotation.trans h.rotation
  surround := h'.surround.trans h.surround
  lapsed := h'.lapsed.trans h.lapsed
  lost hl := h'.lost (h.lost hl)
  issues m hm := h'.issues m (h.issues m hm)
  drives := h.drives.trans h'.drives

theorem State.Eases.mono {l' : List Nat} (h : State.Eases l s t) (hl : ∀ g ∈ l, g ∈ l') : State.Eases l' s t :=
  { h with packs := h.packs.mono hl }

theorem State.Eases.of_ledger (hl : t.ledger = s.ledger) (hs : t.surround = s.surround) (hd : s.KeepsDrives [] t) :
    State.Eases l s t where
  packs := .of_ledger hl
  rotation := congrArg Register.rotation (State.register_of_ledger hl)
  surround := hs
  lapsed := by rw [State.edges_of_ledger hl]
  lost h := by rw [State.edges_of_ledger hl]; exact h
  issues m hm := by rw [State.issues_of_ledger hl]; exact hm
  drives := hd

/-- The cancelled OPEN parts of a bay lose marks and their places in the list (R131). -/
theorem State.cancelPart_packsEase (s : State) (b : BayNo) : State.PacksEase [] s (s.cancelPart b) := by
  have hfold : ∀ (l : List Nat) (u : State), State.PacksEase [] u (l.foldl (fun s t => s.setMark t none) u) := by
    intro l
    induction l with
    | nil => exact fun u => .of_pack fun _ => rfl
    | cons g l ih => exact fun u => ((u.setMark_packsEase g).trans (ih _)).mono (by simp)
  exact (hfold _ s).then (.of_pack fun _ => rfl)

theorem State.cancelPart_issues (s : State) (b : BayNo) : s.IssuesShrink (s.cancelPart b) := by
  intro m hm x hx
  have hx : x ∈ s.disp.issues.map (Issue.without (Part.openIn b)) := (List.mem_filter.1 hx).1
  obtain ⟨y, hy, rfl⟩ := List.mem_map.1 hx
  exact hm y hy

theorem State.cancelPart_rotation (s : State) (b : BayNo) :
    (s.cancelPart b).register.rotation = s.register.rotation ∧ (s.cancelPart b).link = s.link := by
  have hfold : ∀ (l : List Nat) (u : State), (l.foldl (fun s t => s.setMark t none) u).register.rotation =
      u.register.rotation ∧ (l.foldl (fun s t => s.setMark t none) u).link = u.link := by
    intro l
    induction l with
    | nil => exact fun u => ⟨rfl, rfl⟩
    | cons g l ih => exact fun u => ih _
  exact hfold _ s

/-- A bay with the record of PROFILE entered, and the OPEN part of a RELEASE bay cancelled (R143, R144). -/
def State.profileFaulted (s : State) (b : BayNo) : State :=
  if (s.bay b).state = .release then (s.setFault b (some (s.faultRecord b .profile [] none none))).cancelPart b
  else s.setFault b (some (s.faultRecord b .profile [] none none))

theorem State.latch_profile_ledger (s : State) (b : BayNo) :
    (s.latch b .profile [] none none true).ledger = ((s.profileFaulted b).saveChargesAt b).ledger := by
  simp only [State.latch]
  rw [State.relevel_ledger, State.handUnless_ledger, State.moveTo_ledger, State.modBay_ledger,
    State.quarantineFor_of_none _ _ (by simp [FaultKind.quarantines]), State.endSession_ledger]
  rfl

/-- A latch of PROFILE for the dispatcher, in any state of its bay. -/
theorem State.latch_profile_eases (s : State) (b : BayNo) : State.Eases [] s (s.latch b .profile [] none none true) := by
  have hs := State.surround_of_away (s.latch_away b .profile [] none none true)
  have hd := (State.KeepsDrives.refl s).latched b .profile [] none none true
  have hledger := s.latch_profile_ledger b
  rw [State.saveChargesAt_eq] at hledger
  generalize s.latch b .profile [] none none true = t at hs hd hledger ⊢
  have hpacks : State.PacksEase [] s (s.profileFaulted b) := by
    unfold State.profileFaulted
    split
    · have hfault : State.PacksEase [] s (s.setFault b (some (s.faultRecord b .profile [] none none))) :=
        .of_pack fun _ => rfl
      exact hfault.then (State.cancelPart_packsEase _ b)
    · exact .of_pack fun _ => rfl
  have hrot : (s.profileFaulted b).register.rotation = s.register.rotation ∧ (s.profileFaulted b).link = s.link := by
    unfold State.profileFaulted
    split
    · exact State.cancelPart_rotation (s.setFault b _) b
    · exact ⟨rfl, rfl⟩
  have hissues : s.IssuesShrink (s.profileFaulted b) := by
    unfold State.profileFaulted
    split
    · exact State.cancelPart_issues (s.setFault b _) b
    · exact fun _ h => h
  have hreg : t.register = (s.profileFaulted b).register := congrArg Ledger.register hledger
  have hedges : t.link.edges = (s.profileFaulted b).link.edges := congrArg Ledger.edges hledger
  have hlist : t.disp.issues = (s.profileFaulted b).disp.issues := congrArg Ledger.issues hledger
  exact
    { packs := hpacks.then (.of_pack fun g => by rw [State.pack, hreg, State.pack]), rotation := by rw [hreg, hrot.1],
      surround := hs, lapsed := by rw [hedges, hrot.2], lost := fun h => by rw [hedges, hrot.2]; exact h,
      issues := fun m hm x hx => hissues m hm x (hlist ▸ hx), drives := hd }

theorem State.returnFromRelease_eases (s : State) (b : BayNo) : State.Eases [] s (s.returnFromRelease b) := by
  have hs := State.surround_of_away (s.returnFromRelease_away b)
  have hd := (State.KeepsDrives.refl s).returnFromRelease b
  unfold State.returnFromRelease at hs hd ⊢
  split at hs <;> rename_i hp <;> simp only [hp] at hd ⊢
  · unfold State.returnToMaintain at hs hd ⊢
    split at hs <;> rename_i hc <;> simp only [hc] at hd ⊢
    · exact s.latch_profile_eases b
    · split at hs <;> rename_i hk <;> simp only [hk] at hd ⊢
      · exact .of_ledger (by simp) hs hd
      · exact .of_ledger (by simp) hs hd
  · exact .of_ledger (by simp) hs hd
  · exact .refl s

/-! ## The bay that returns -/

/-- What the return of a bay leaves of it (R46, R142). -/
structure State.Returned (s : State) (b : BayNo) (t : State) : Prop where
  standby : ∀ e, (s.bay b).preIssue = some (.standby e) →
    (t.bay b).state = .standby ∧ (t.bay b).outcome = e ∧ t.driveOk b
  stage : ∀ cr k, (s.bay b).preIssue = some .maintain → s.classAt b = some cr →
    (s.profile cr.profile).valid = true → (s.profile cr.profile).header.maintain = some k →
    (t.bay b).state = .maintain ∧ t.driveOk b ∧
    (t.bay b).session.map (fun se => (se.stage, se.outcome, se.warm, se.sessionServed)) =
      some (some k, .complete, false, 0)
  ending : ∀ cr, (s.bay b).preIssue = some .maintain → s.classAt b = some cr →
    (s.profile cr.profile).valid = true → (s.profile cr.profile).header.maintain = none →
    (t.bay b).state = .standby ∧ (t.bay b).outcome = .complete ∧ t.driveOk b
  fault : (s.bay b).preIssue = some .maintain →
    (∀ cr, s.classAt b = some cr → (s.profile cr.profile).valid = false) →
    (t.bay b).state = .fault ∧ (t.bay b).session = none ∧ ∃ f, t.faultRec b = some f ∧ f.first = .profile
  cleared : (t.bay b).preIssue = none

theorem State.toStandby_driveOk (s : State) (b : BayNo) (e : Ending) : (s.toStandby b e).driveOk b := by
  rw [State.toStandby]
  exact State.moveTo_driveOk _ b .standby

theorem State.toStandby_shows (s : State) (b : BayNo) (e : Ending) : ((s.toStandby b e).bay b).state = .standby ∧
    ((s.toStandby b e).bay b).outcome = e ∧ (s.toStandby b e).driveOk b ∧ ((s.toStandby b e).bay b).preIssue = none :=
  have h := s.toStandby_seat b e
  ⟨State.state_of_seat h, congrArg (fun n : Seat => n.bay.outcome) h, s.toStandby_driveOk b e,
    congrArg (fun n : Seat => n.bay.preIssue) h⟩

/-- A return to MAINTAIN at a maintain stage (R46). -/
theorem State.returnAtStage_shows (s : State) (b : BayNo) (p : ProfileNo) (k : StageNo) :
    let t := (((s.openSession b p false .complete).enterStage b k true).moveTo b .maintain).releaseAtRest b
    (t.bay b).state = .maintain ∧ t.driveOk b ∧
      (t.bay b).session.map (fun se => (se.stage, se.outcome, se.warm, se.sessionServed)) =
        some (some k, .complete, false, 0) ∧ (t.bay b).preIssue = none := by
  intro t
  have hseat : t.seat b = _ := State.releaseAtRest_seat _ b
  rw [State.moveTo_seat, State.enterStage_seat, State.openSession_seat] at hseat
  have hd : t.driveOk b := ((State.KeepsDrives.refl (D := []) _).releaseAtRest b).drive b (by simp) (State.moveTo_driveOk _ b .maintain)
  refine ⟨congrArg (fun n : Seat => n.bay.state) hseat, hd, ?_, congrArg (fun n : Seat => n.bay.preIssue) hseat⟩
  rw [show (t.bay b).session = _ from congrArg (fun n : Seat => n.bay.session) hseat]
  rfl

theorem State.returnFromRelease_returned (s : State) (b : BayNo) : s.Returned b (s.returnFromRelease b) := by
  cases hp : (s.bay b).preIssue with
  | none =>
    have ht : s.returnFromRelease b = s := by simp only [State.returnFromRelease, hp]
    rw [ht]
    constructor <;> simp [hp]
  | some pre =>
    cases pre with
    | standby e =>
      have ht : s.returnFromRelease b = s.toStandby b e := by simp only [State.returnFromRelease, hp]
      obtain ⟨hst, ho, hd, hpre⟩ := s.toStandby_shows b e
      rw [ht]
      constructor <;> simp_all
    | maintain =>
      have ht : s.returnFromRelease b = s.returnToMaintain b := by simp only [State.returnFromRelease, hp]
      rw [ht]
      cases hc : s.startClass b with
      | none =>
        rw [State.returnToMaintain_of_none hc]
        have h := s.latch_seat b .profile [] none none true
        generalize s.latch b .profile [] none none true = t at h ⊢
        have hno := State.startClass_eq_none.1 hc
        refine ⟨fun e he => by simp [hp] at he, fun cr k _ hcr hv => by simp [hno cr hcr] at hv,
          fun cr _ hcr hv => by simp [hno cr hcr] at hv, fun _ _ => ?_, congrArg (fun n : Seat => n.bay.preIssue) h⟩
        exact ⟨State.state_of_seat h, State.session_of_seat h, _, State.fault_of_seat h, rfl⟩
      | some cr =>
        obtain ⟨hcr, hv⟩ := State.startClass_eq_some.1 hc
        have same : ∀ cr', s.classAt b = some cr' → cr' = cr := fun cr' h => Option.some.inj (h.symm.trans hcr)
        cases hk : (s.profile cr.profile).header.maintain with
        | none =>
          rw [State.returnToMaintain_to_standby hc hk]
          obtain ⟨hst, ho, hd, hpre⟩ := s.toStandby_shows b .complete
          refine ⟨fun e he => by simp [hp] at he, fun cr' k _ h' _ hk' => ?_, fun _ _ _ _ _ => ⟨hst, ho, hd⟩,
            fun _ hno => by simp [hno cr hcr] at hv, hpre⟩
          rw [same cr' h', hk] at hk'
          cases hk'
        | some k =>
          rw [State.returnToMaintain_to_stage hc hk]
          obtain ⟨hst, hd, hse, hpre⟩ := s.returnAtStage_shows b cr.profile k
          refine ⟨fun e he => by simp [hp] at he, fun cr' k' _ h' _ hk' => ?_, fun cr' _ h' _ hk' => ?_,
            fun _ hno => by simp [hno cr hcr] at hv, hpre⟩
          · rw [same cr' h', hk] at hk'
            cases hk'
            exact ⟨hst, hd, hse⟩
          · rw [same cr' h', hk] at hk'
            cases hk'

theorem State.outcome_of_seat {n : Seat} (h : t.seat b = n) : (t.bay b).outcome = n.bay.outcome :=
  congrArg (fun n : Seat => n.bay.outcome) h

theorem State.preIssue_of_seat {n : Seat} (h : t.seat b = n) : (t.bay b).preIssue = n.bay.preIssue :=
  congrArg (fun n : Seat => n.bay.preIssue) h

/-- A returned bay stays as it returned while its seat and its drive stay. -/
theorem State.Returned.later (h : s.Returned b t) (hseat : u.seat b = t.seat b) (hd : t.KeepsDrives [] u) :
    s.Returned b u := by
  have hst : (u.bay b).state = (t.bay b).state := State.state_of_seat hseat
  have hse : (u.bay b).session = (t.bay b).session := State.session_of_seat hseat
  have ho : (u.bay b).outcome = (t.bay b).outcome := State.outcome_of_seat hseat
  have hdrive : t.driveOk b → u.driveOk b := hd.drive b (by simp)
  refine ⟨fun e he => ?_, fun cr k hp hc hv hk => ?_, fun cr hp hc hv hk => ?_, fun hp hn => ?_,
    (State.preIssue_of_seat hseat).trans h.cleared⟩
  · obtain ⟨h1, h2, h3⟩ := h.standby e he
    exact ⟨hst.trans h1, ho.trans h2, hdrive h3⟩
  · obtain ⟨h1, h2, h3⟩ := h.stage cr k hp hc hv hk
    exact ⟨hst.trans h1, hdrive h2, by rw [hse, h3]⟩
  · obtain ⟨h1, h2, h3⟩ := h.ending cr hp hc hv hk
    exact ⟨hst.trans h1, ho.trans h2, hdrive h3⟩
  · obtain ⟨h1, h2, f, hf, h3⟩ := h.fault hp hn
    exact ⟨hst.trans h1, hse.trans h2, f, (State.fault_of_seat hseat).trans hf, h3⟩

/-- The class and the profiles at a bay, where its seat, the packs' classes and the configuration stay. -/
theorem State.Eases.classAt (h : State.Eases l s t) (hseat : t.seat b = s.seat b) : t.classAt b = s.classAt b := by
  have hid : (t.bay b).identity = (s.bay b).identity := congrArg (fun n : Seat => n.bay.identity) hseat
  have hclasses : t.register.classes = s.register.classes := congrArg Surround.classes h.surround
  have hin : t.classInUse b = s.classInUse b := by
    unfold State.classInUse
    rw [hid]
    split
    · rfl
    · exact h.packs.cls _
    · rfl
  have hrec : t.classRec = s.classRec := by
    funext c
    rw [State.classRec, hclasses, State.classRec]
  rw [State.classAt, hin, hrec, State.classAt]

/-- A return seen from an earlier state. -/
theorem State.Returned.earlier (h : t.Returned b u) (hs : State.Eases l s t) (hseat : t.seat b = s.seat b) :
    s.Returned b u := by
  have hpre : (s.bay b).preIssue = (t.bay b).preIssue := (State.preIssue_of_seat hseat).symm
  have hclass := hs.classAt hseat
  have hprof : ∀ p, t.profile p = s.profile p := fun p => by
    have hp : t.profiles = s.profiles := congrArg Surround.profiles hs.surround
    rw [State.profile, hp, State.profile]
  obtain ⟨h1, h2, h3, h4, h5⟩ := h
  simp only [hclass, hprof, ← hpre] at h1 h2 h3 h4
  exact ⟨h1, h2, h3, h4, h5⟩

/-! ## The parts of an entry, one after another -/

/-- A part that is not OPEN at a bay, or finds the bay with no pre-issue state, leaves its seat. -/
theorem State.endPart_seat (s : State) (p : Part) (h : p.state = .openAt b → (s.bay b).preIssue = none) :
    (s.endPart p).seat b = s.seat b := by
  have hback : ∀ (v : State) x, v.seat b = s.seat b → p.state = .openAt x → (v.returnFromRelease x).seat b = s.seat b := by
    intro v x hv hx
    by_cases hb : b = x
    · subst hb
      have hnone : (v.bay b).preIssue = none := (State.preIssue_of_seat hv).trans (h hx)
      have hsame : v.returnFromRelease b = v := by simp only [State.returnFromRelease, hnone]
      rw [hsame, hv]
    · rw [State.seat_of_away (v.returnFromRelease_away x) hb, hv]
  unfold State.endPart
  split
  · next x t hx _ => exact hback (s.setMark t none) x rfl hx
  · next x hx _ => exact hback s x rfl hx
  · rw [State.raise_seat, State.setPlace_seat, State.setMark_seat]
  · rfl
  · rfl

/-- The grant entry of a bay at which a part is not OPEN. -/
theorem State.endPart_grant (s : State) (p : Part) (h : p.state ≠ .openAt b) :
    ((s.endPart p).grant b).outline = (s.grant b).outline := by
  have hback : ∀ (v : State) x, v.grant b = s.grant b → p.state = .openAt x →
      ((v.returnFromRelease x).grant b).outline = (s.grant b).outline := by
    intro v x hv hx
    have hb : b ≠ x := fun hb => h (hb ▸ hx)
    rw [State.grant_of_away (v.returnFromRelease_away x) hb, hv]
  unfold State.endPart
  split
  · next x t hx _ => exact hback (s.setMark t none) x rfl hx
  · next x hx _ => exact hback s x rfl hx
  · exact State.grant_of_away (b := if b = 0 then 1 else 0)
      (((State.raise_away _ _ _).trans (State.setPlace_away _ _ _ _)).trans (State.setMark_away s _ _ _))
      (by split <;> simp_all)
  · rfl
  · rfl

theorem State.setMark_eases (s : State) (t : Nat) : State.Eases [] s (s.setMark t none) where
  packs := s.setMark_packsEase t
  rotation := rfl
  surround := rfl
  lapsed := rfl
  lost h := h
  issues _ h := h
  drives := .of_rack rfl

theorem State.setPlace_eases (s : State) (t : Nat) :
    State.Eases [t] s ((s.setPlace t .unaccounted).raise .unaccounted) where
  packs := (s.setPlace_packsEase t).then (.of_pack fun _ => rfl)
  rotation := congrArg (fun l : Ledger => l.register.rotation) (s.setPlace_ledger t .unaccounted)
  surround := (State.surround_of_away (State.setPlace_away s 0 t .unaccounted) :)
  lapsed := congrArg (fun l : Ledger => l.edges.lapsed) (s.setPlace_ledger t .unaccounted)
  lost _ := rfl
  issues m h := by
    have hlist : (s.setPlace t .unaccounted).disp.issues = s.disp.issues :=
      congrArg Ledger.issues (s.setPlace_ledger t .unaccounted)
    intro x hx
    exact h x (hlist ▸ hx)
  drives := .of_rack (by simp)

theorem State.endPart_eases (s : State) (p : Part) : State.Eases p.pack.toList s (s.endPart p) := by
  unfold State.endPart
  split
  · exact ((s.setMark_eases _).trans (State.returnFromRelease_eases _ _)).mono (by simp)
  · exact (s.returnFromRelease_eases _).mono (by simp)
  · next t _ ht =>
    rw [ht]
    exact ((s.setMark_eases t).trans (State.setPlace_eases _ t)).mono (by simp)
  · exact .refl s
  · exact .refl s

/-- A part that is not DONE leaves its pack unmarked, and a TAKEN one UNACCOUNTED with attention. -/
theorem State.endPart_pack (s : State) (p : Part) {g : Nat} (hg : p.pack = some g) :
    (p.state ≠ .done → (s.endPart p).Unmarked g) ∧
      (p.state = .taken → (s.endPart p).Unaccounted g ∧ (s.endPart p).link.edges.unaccounted = true) := by
  have hmark : (s.setMark g none).Unmarked g := fun r hr => by
    rw [State.setMark_pack, if_pos rfl] at hr
    obtain ⟨r', -, rfl⟩ := Option.map_eq_some_iff.1 hr
    rfl
  unfold State.endPart
  split
  · next x t hx ht =>
    obtain rfl : t = g := Option.some.inj (ht.symm.trans hg)
    exact ⟨fun _ => (State.returnFromRelease_eases _ x).packs.unmarked t hmark, fun h => by rw [hx] at h; cases h⟩
  · next _ h => rw [hg] at h; cases h
  · next t _ ht =>
    obtain rfl : t = g := Option.some.inj (ht.symm.trans hg)
    refine ⟨fun _ => (State.setPlace_eases _ t).packs.unmarked t hmark, fun _ => ⟨fun r hr => ?_, rfl⟩⟩
    have hr : ((s.setMark t none).setPlace t .unaccounted).pack t = some r := hr
    rw [State.setPlace_pack, if_pos rfl] at hr
    obtain ⟨r', -, rfl⟩ := Option.map_eq_some_iff.1 hr
    rfl
  · next _ h => rw [hg] at h; cases h
  · next hd => exact ⟨fun h => absurd hd h, fun h => by rw [hd] at h; cases h⟩

/-- What the parts `l` of an entry make of `s`. -/
structure State.PartsEnded (s : State) (l : List Part) (u : State) : Prop where
  eases : State.Eases (l.filterMap (·.pack)) s u
  returned : ∀ b, (∃ p ∈ l, p.state = .openAt b) → s.Returned b u
  away : ∀ b, (∀ p ∈ l, p.state ≠ .openAt b) → u.seat b = s.seat b ∧ (u.grant b).outline = (s.grant b).outline
  idle : ∀ b, (s.bay b).preIssue = none → u.seat b = s.seat b
  unmarked : ∀ p ∈ l, ∀ g, p.pack = some g → p.state ≠ .done → u.Unmarked g
  taken : ∀ p ∈ l, ∀ g, p.pack = some g → p.state = .taken → u.Unaccounted g ∧ u.link.edges.unaccounted = true

theorem State.endPart_returned (s : State) {p : Part} (h : p.state = .openAt b) : s.Returned b (s.endPart p) := by
  unfold State.endPart
  split
  · next x t hx _ =>
    obtain rfl : x = b := PartState.openAt.inj (hx.symm.trans h)
    exact (State.returnFromRelease_returned (s.setMark t none) x).earlier (s.setMark_eases t) rfl
  · next x hx _ =>
    obtain rfl : x = b := PartState.openAt.inj (hx.symm.trans h)
    exact s.returnFromRelease_returned x
  · next hx _ => rw [h] at hx; cases hx
  · next hx _ => rw [h] at hx; cases hx
  · next hx => rw [h] at hx; cases hx

theorem State.foldl_endPart (l : List Part) (s : State) : s.PartsEnded l (l.foldl State.endPart s) := by
  induction l generalizing s with
  | nil =>
    exact
      { eases := .refl s, returned := fun _ ⟨_, h, _⟩ => absurd h (by simp), away := fun _ _ => ⟨rfl, rfl⟩,
        idle := fun _ _ => rfl, unmarked := fun _ h => absurd h (by simp), taken := fun _ h => absurd h (by simp) }
  | cons p l ih =>
    have hp := s.endPart_eases p
    have hl := ih (s.endPart p)
    have hnext : ∀ b, p.state ≠ .openAt b → (s.endPart p).seat b = s.seat b := fun b h =>
      s.endPart_seat p fun h' => absurd h' h
    refine
      { eases := (hp.trans hl.eases).mono fun g hg => ?_, returned := fun b hb => ?_, away := fun b hb => ?_,
        idle := fun b hb => ?_, unmarked := fun q hq g hg hd => ?_, taken := fun q hq g hg ht => ?_ }
    · rcases List.mem_append.1 hg with hg | hg
      · exact List.mem_filterMap.2 ⟨p, List.mem_cons_self .., by simpa using hg⟩
      · obtain ⟨q, hq, hqg⟩ := List.mem_filterMap.1 hg
        exact List.mem_filterMap.2 ⟨q, List.mem_cons_of_mem _ hq, hqg⟩
    · by_cases h : p.state = .openAt b
      · have hret := s.endPart_returned h
        exact hret.later (hl.idle b hret.cleared) hl.eases.drives
      · obtain ⟨q, hq, hqb⟩ := hb
        have hq : q ∈ l := (List.mem_cons.1 hq).resolve_left fun hqp => h (hqp ▸ hqb)
        exact (hl.returned b ⟨q, hq, hqb⟩).earlier hp (hnext b h)
    · have hpb := hb p (List.mem_cons_self ..)
      obtain ⟨hseat, hgrant⟩ := hl.away b fun q hq => hb q (List.mem_cons_of_mem _ hq)
      exact ⟨hseat.trans (hnext b hpb), hgrant.trans (s.endPart_grant p hpb)⟩
    · have hsame := s.endPart_seat p fun _ => hb
      exact (hl.idle b ((State.preIssue_of_seat hsame).trans hb)).trans hsame
    · rcases List.mem_cons.1 hq with rfl | hq
      · exact hl.eases.packs.unmarked g ((s.endPart_pack q hg).1 hd)
      · exact hl.unmarked q hq g hg hd
    · rcases List.mem_cons.1 hq with rfl | hq
      · obtain ⟨hgone, hflag⟩ := (s.endPart_pack q hg).2 ht
        exact ⟨hl.eases.packs.unaccounted g hgone, hl.eases.lost hflag⟩
      · exact hl.taken q hq g hg ht

/-! ## The end of the entry -/

/-- A state with other edges and another reply. -/
def State.endedAs (u : State) (e : Edges) (rep : Option Reply) (rc : Receiver) : State :=
  { u with link := { u.link with edges := e, reply := rep, receiver := rc } }

/-- What the end of an entry leaves, whatever work of the allocator and the dispatcher on shortages follows. -/
theorem State.PartsEnded.entryEnded {i : Issue} (h : (s.settle.setIssues (s.disp.issues.filter fun x =>
      decide (x.machine ≠ i.machine))).PartsEnded i.parts u) {v : State} {e : Edges} {rep : Option Reply} {rc : Receiver}
    (he : e.unaccounted = u.link.edges.unaccounted) (hv : v.outline = (u.endedAs e rep rc).outline)
    (hd : u.KeepsDrives [] v) : s.EntryEnded i v ∧ v.link.edges = e ∧ v.link.reply = rep := by
  have hbay : ∀ x, (v.bay x).outline = (u.bay x).outline := fun x => (State.bay_outline_of_outline hv x :)
  have hgrant : ∀ x, (v.grant x).outline = (u.grant x).outline := fun x => (State.grant_outline_of_outline hv x :)
  have hfault : ∀ x, v.faultRec x = u.faultRec x := fun x => (State.faultRec_of_outline hv x :)
  have hseat : ∀ x, v.seat x = u.seat x := fun x =>
    Seat.ext (hbay x) (hfault x) (congrArg Grant.request (hgrant x) :)
  have hsurround : v.surround = { s.surround with reply := rep } :=
    (State.surround_of_outline hv).trans (congrArg (fun w : Surround => { w with reply := rep }) h.eases.surround)
  have hledger := State.ledger_of_outline hv
  have hedges : v.link.edges = e := State.edges_of_ledger hledger
  have hpack : ∀ g, v.pack g = u.pack g := fun g => (State.pack_of_ledger hledger g :)
  have hstart : State.Eases [] s (s.settle.setIssues (s.disp.issues.filter fun x => decide (x.machine ≠ i.machine))) :=
    { packs := .of_pack fun _ => rfl, rotation := rfl, surround := rfl, lapsed := rfl, lost := fun h => h,
      issues := fun m hm x hx => hm x (List.mem_filter.1 hx).1, drives := .of_rack rfl }
  have hreturned : ∀ p ∈ i.parts, ∀ b, p.state = .openAt b → s.Returned b v := fun p hp b hb =>
    ((h.returned b ⟨p, hp, hb⟩).earlier hstart rfl).later (hseat b) hd
  refine ⟨⟨fun x hx => ?_, congrArg Surround.reservations hsurround, ?_, State.sameConfig_of_surround hsurround,
    congrArg Surround.lines hsurround, congrArg Surround.now hsurround, congrArg Surround.minute hsurround,
    fun p hp g r hg hn hr => ?_, fun p hp g r hpe hr => ?_, fun p hp b e' hb hpre => ?_,
    fun p hp b cr k hb hpre hc hval hk => ?_, fun p hp b cr hb hpre hc hval hk => ?_, fun p hp b hb hpre hno => ?_,
    fun g hg => ?_, fun b hb => ?_⟩, hedges, congrArg Surround.reply hsurround⟩
  · have hlist : v.disp.issues = u.disp.issues := (State.issues_of_ledger hledger :)
    rw [hlist] at hx
    refine h.eases.issues i.machine (fun y hy => ?_) x hx
    simpa using (List.mem_filter.1 hy).2
  · exact (congrArg Register.rotation (State.register_of_ledger hledger) :).trans h.eases.rotation
  · exact h.unmarked p hp g hg hn r ((hpack g).symm.trans hr)
  · obtain ⟨hgone, hflag⟩ := h.taken p hp g (by rw [hpe]) (by rw [hpe])
    refine ⟨hgone r ((hpack g).symm.trans hr), ?_⟩
    rw [hedges, he, hflag]
  · obtain ⟨hst, ho, hdrive⟩ := (hreturned p hp b hb).standby e' hpre
    exact ⟨hst, ho, by rw [hdrive, driveOf, hst]⟩
  · obtain ⟨hst, hdrive, hse⟩ := (hreturned p hp b hb).stage cr k hpre hc hval hk
    refine ⟨hst, ?_, hse⟩
    rw [hdrive, driveOf, hst]
    simp only [poweredDrive]
    split <;> rfl
  · obtain ⟨hst, ho, hdrive⟩ := (hreturned p hp b hb).ending cr hpre hc hval hk
    exact ⟨hst, ho, by rw [hdrive, driveOf, hst]⟩
  · exact (hreturned p hp b hb).fault hpre hno
  · rw [hpack]
    refine h.eases.packs.kept g fun hm => ?_
    obtain ⟨p, hp, hpg⟩ := List.mem_filterMap.1 hm
    exact hg p hp hpg
  · obtain ⟨hs, hg⟩ := h.away b hb
    exact ⟨(hbay b).trans (congrArg Seat.bay hs), (hgrant b).trans hg, (hfault b).trans (congrArg Seat.fault hs)⟩

theorem State.lapsing_of_due {i : Issue} (h : s.issueOf i.machine = some i) (hl : i.lapse ≤ s.now) :
    s.lapsing i.machine = some i := by
  unfold State.issueOf at h
  unfold State.lapsing
  rw [List.find?_eq_some_iff_append] at h ⊢
  obtain ⟨hm, pre, post, hl', hpre⟩ := h
  refine ⟨by simp [hl], pre, post, hl', fun x hx => ?_⟩
  have hx := hpre x hx
  simp only [Bool.not_eq_true', decide_eq_false_iff_not] at hx ⊢
  exact fun h => hx h.1

end

/-- Settles O18: the parts one after another, with the entry gone, and the dispatcher's event closed after them. -/
theorem lapseAndCancelEndAnEntry : Obligations.LapseAndCancelEndAnEntry := by
  intro s i hrun hi
  have hparts := State.foldl_endPart i.parts
    (s.settle.setIssues (s.disp.issues.filter fun x => decide (x.machine ≠ i.machine)))
  have hend : s.settle.endIssue i = i.parts.foldl State.endPart
    (s.settle.setIssues (s.disp.issues.filter fun x => decide (x.machine ≠ i.machine))) := rfl
  rw [← hend] at hparts
  have hlapsed : (s.settle.endIssue i).link.edges.lapsed = s.link.edges.lapsed := hparts.eases.lapsed
  have hreply : (s.settle.endIssue i).link.reply = s.link.reply := congrArg Surround.reply hparts.eases.surround
  refine ⟨fun hdue => ?_, fun hbusy h1 h2 => ?_⟩
  · have hexec : exec (.issueLapse i.machine) s = .next (((s.settle.endIssue i).raise .lapsed).closeEvent []) := by
      have hlapsing : s.settle.lapsing i.machine = some i := State.lapsing_of_due (s := s.settle) hi hdue
      have hlapse : s.settle.lapse i.machine = ((s.settle.endIssue i).raise .lapsed).closeEvent [] := by
        simp only [State.lapse, hlapsing]
      exact congrArg Host.Outcome.next ((State.event_of_running hrun _).trans hlapse)
    rw [hexec]
    generalize s.settle.endIssue i = u at hparts hlapsed hreply ⊢
    obtain ⟨hentry, hedges, hrep⟩ := hparts.entryEnded (v := (u.raise .lapsed).closeEvent [])
      (e := u.link.edges.raise .lapsed) (rep := u.link.reply) (rc := u.link.receiver) rfl
      (by rw [State.closeEvent_outline]; rfl) ((State.KeepsDrives.of_rack (s := u) (by simp)).closeEvent [])
    exact ⟨_, rfl, hentry, by rw [hedges]; rfl, hrep.trans hreply⟩
  · have htaken : takeCancelIssue i.machine s.settle = .taken ((s.settle.endIssue i).closeEvent [])
        (u2 i.machine ++ [u1 i.parts.length] ++ i.parts.flatMap fun p => u2 (p.pack.getD 0) ++ [u1 p.state.code]) := by
      have hissue : s.settle.issueOf i.machine = some i := hi
      have hvalid : validMachine i.machine = true := by simp [validMachine, between, h1, h2]
      simp only [takeCancelIssue, hvalid, hissue, Bool.true_eq_false, if_false]
      rfl
    have hexec := State.command_of_taken ⟨hrun, hbusy⟩ (k := 0x1C) htaken
    generalize s.settle.endIssue i = u at hparts hlapsed hreply hexec
    generalize (u2 i.machine ++ [u1 i.parts.length] ++ i.parts.flatMap fun p => u2 (p.pack.getD 0) ++ [u1 p.state.code]) = cs
      at hexec
    obtain ⟨hentry, hedges, hrep⟩ := hparts.entryEnded (v := (u.closeEvent []).reply 0x1C .ok cs)
      (e := u.link.edges) (rep := some ⟨0x9C, .ok, cs⟩) (rc := .hunt) rfl
      (by rw [State.reply_outline, State.closeEvent_outline, ← State.reply_outline]; rfl)
      (((State.KeepsDrives.refl u).closeEvent []).quiet (State.reply_rack _ _ _ _))
    exact ⟨_, congrArg Host.Outcome.next hexec, hentry, by rw [hedges, hlapsed], hrep⟩

end Sys2Proof.Machine
end

section
/-! SUPPORT. A session as it starts, in the outline, and a good report that works at its bay, with the statement about the
starts of sessions (R33 to R36, R42, R60, R88, R89). -/

namespace Sys2Proof.Machine

section
variable {s t u : State} {b : BayNo}

/-! ## A session that starts -/

theorem State.modGrant_congr (s : State) (b : BayNo) {f g : Grant → Grant} (h : f (s.grant b) = g (s.grant b)) :
    s.modGrant b f = s.modGrant b g := by
  simp only [State.grant] at h
  simp only [State.modGrant, h]

theorem State.modGrant_id (s : State) (b : BayNo) : (s.modGrant b fun e => e) = s := by
  have hset : s.alloc.grants.set b s.alloc.grants[b] = s.alloc.grants := Vector.set_getElem_self _
  simp only [State.modGrant, hset]

/-- Releasing a request that is 0 shows nothing. -/
theorem State.releaseAtRest_outline_idle (h : (s.grant b).request = 0) : (s.releaseAtRest b).outline = s.outline := by
  unfold State.releaseAtRest
  split
  · rw [State.releaseRequest_outline, State.modGrant_outline _ _ fun _ => rfl,
      State.modGrant_congr (g := fun e => e), State.modGrant_id]
    rw [State.outline_grant]
    simp [Grant.outline, h]
  · rfl

/-- The sequencer of a bay with a session opened (R35). -/
def Bay.opened (y : Bay) (se : Session) : Bay :=
  { y with session := some se, outcome := .none, coolExpiry := none, preIssue := none }

/-- The grant entry of a bay with a session opened on a profile with header `h` (R107). -/
def Grant.opened (e : Grant) (h : Header) : Grant := { e with mode := h.mode, turnLength := some h.turnLength }

/-- A session opened, with a further change of the sequencer. -/
theorem State.openSession_modBay_outline (s : State) (b : BayNo) (p : ProfileNo) (w : Bool) (g : Bay → Bay) :
    ((s.openSession b p w .none).modBay b g).outline =
      ((s.modBay b fun y => g (y.opened (Session.fresh p w .none))).modGrant b fun e =>
        e.opened (s.profile p).header).outline := by
  have hswap : ∀ (v : State) (h : Grant → Grant), (v.modGrant b h).modBay b g = (v.modBay b g).modGrant b h := fun _ _ => rfl
  rw [State.openSession, hswap, State.modBay_modBay, State.modGrant_outline _ _ fun _ => rfl,
    State.modGrant_outline _ _ fun _ => rfl]
  rfl

theorem State.startedAt_eq (s : State) (b : BayNo) (cr : ClassRec) (warm : Bool) : s.startedAt b cr warm =
    (s.modBay b fun y => { y.opened (if s.knownAt b then (Session.fresh cr.profile warm .none).entered 0 s.now
        (((s.profile cr.profile).stage 0).bind fun st => chargeBase cr.capacity st.chargeLimit) true
      else Session.fresh cr.profile warm .none) with state := if s.knownAt b then .charge else .assess }).modGrant b fun e =>
        e.opened (s.profile cr.profile).header := rfl

theorem State.openSession_baseAt {cr : ClassRec} (hc : s.classAt b = some cr) (w : Bool) (k : StageNo) :
    (s.openSession b cr.profile w .none).baseAt b k =
      ((s.profile cr.profile).stage k).bind fun st => chargeBase cr.capacity st.chargeLimit := by
  have hclass : (s.openSession b cr.profile w .none).classAt b = some cr := by
    rw [← hc]
    simp [State.classAt, State.classInUse, State.openSession, State.pack, State.classRec]
    rfl
  have hsession : ((s.openSession b cr.profile w .none).bay b).session = some (Session.fresh cr.profile w .none) := by
    simp [State.openSession, State.bay, State.modBay, State.modGrant]
  unfold State.baseAt
  rw [hsession, hclass]
  rfl

/-- A session started for a class with a valid profile, in the outline (R35, R60). -/
theorem State.startByCharge_outline {cr : ClassRec} (hc : s.startClass b = some cr) (hr : (s.grant b).request = 0)
    (warm own : Bool) : (s.startByCharge b warm own).outline = (s.startedAt b cr warm).outline := by
  rw [State.startByCharge, State.startedAt_eq]
  cases s.knownAt b with
  | true =>
    have hbase := State.openSession_baseAt (State.startClass_eq_some.1 hc).1 warm 0
    rw [State.startSession_to_charge hc, State.relevel_outline, State.releaseAtRest_outline_idle]
    · rw [State.moveTo_outline, State.enterStage, State.modSession, State.modBay_modBay, hbase,
        State.openSession_modBay_outline]
      rfl
    · rw [State.request_of_outline (State.moveTo_outline _ b .charge)]
      simpa [State.openSession, State.enterStage, State.modSession, State.modGrant_grant] using hr
  | false =>
    rw [State.startSession_to_assess hc, State.moveTo_outline, State.openSession_modBay_outline]
    rfl

/-- The cool expiry is no matter to a session that starts. -/
theorem State.startedAt_modBay (s : State) (b : BayNo) (cr : ClassRec) (warm : Bool) :
    (s.modBay b fun y => { y with coolExpiry := none }).startedAt b cr warm = s.startedAt b cr warm := by
  have hk : (s.modBay b fun y => { y with coolExpiry := none }).knownAt b = s.knownAt b := by
    simp [State.knownAt, State.pack]
  rw [State.startedAt_eq, hk, State.modBay_modBay, State.startedAt_eq]
  rfl

theorem State.startedAt_state (s : State) (b : BayNo) (cr : ClassRec) (warm : Bool) :
    ((s.startedAt b cr warm).bay b).state = if s.knownAt b then .charge else .assess := by
  rw [State.startedAt_eq]
  simp

/-- A bay in which PROFILE has latched at the start of a session (R35, R142). -/
def State.StartFailed (t : State) (b : BayNo) (now : Nat) : Prop :=
  (t.bay b).state = .fault ∧ (t.bay b).session = none ∧ (t.grant b).request = 0 ∧
    ∃ r, t.faultRec b = some r ∧ r.first = .profile ∧ r.latchTime = now ∧ r.stage = none

theorem State.StartFailed.of_seat {n : Nat} (h : s.StartFailed b n) (hs : t.seat b = s.seat b) : t.StartFailed b n := by
  obtain ⟨hst, hse, hr, r, hf, hrest⟩ := h
  exact ⟨(State.state_of_seat hs).trans hst, (State.session_of_seat hs).trans hse, (State.request_of_seat hs).trans hr, r,
    (State.fault_of_seat hs).trans hf, hrest⟩

/-- A session does not start without a valid profile (R35, R142). -/
theorem State.startByCharge_failed (hc : s.startClass b = none) (hs : (s.bay b).session = none)
    (hr : (s.grant b).request = 0) (warm own : Bool) : (s.startByCharge b warm own).StartFailed b s.now := by
  rw [State.startByCharge, State.startSession_of_none hc]
  have h := s.latch_seat b .profile [] none none own
  generalize s.latch b .profile [] none none own = t at h ⊢
  refine ⟨State.state_of_seat h, State.session_of_seat h, ?_, _, State.fault_of_seat h, rfl, rfl, ?_⟩
  · rw [State.request_of_seat h, hs]
    exact hr
  · simp [State.faultRecord, hs]

/-- A class with an invalid profile starts no session. -/
theorem State.startClass_of_invalid {cr : ClassRec} (hc : s.classAt b = some cr) (hv : (s.profile cr.profile).valid = false) :
    s.startClass b = none :=
  State.startClass_eq_none.2 fun cr' h => by rw [Option.some.inj (h.symm.trans hc), hv]

theorem takeStartBay_taken (hst : (s.bay b).state = .standby) (hq : s.quarantinedAt b = false) :
    takeStartBay b.val s = takenAt b ((s.startByCharge b false false).handAllReady) := by
  simp only [takeStartBay, index?_val, hst, hq, ne_eq, not_true_eq_false, Bool.false_eq_true, or_self, if_false]

/-- A bay that runs no session as bays that stand right do: no request either. -/
theorem State.idle_at (h : s.BaysOk) (hh : (s.bay b).state.holdsSession = false) :
    (s.bay b).session = none ∧ (s.grant b).request = 0 := by
  have hr := s.baysOk_iff.1 h b
  have hs : (s.bay b).session = none := hr.session_none hh
  exact ⟨hs, hr.request_of_none hs⟩

theorem startBay_starts {cr : ClassRec} (hok : s.BaysOk) (hcr : s.classAt b = some cr) (h : s.accepts)
    (hst : (s.bay b).state = .standby) (hq : s.quarantinedAt b = false) :
    ((s.profile cr.profile).valid = true → ∃ t, exec (.startBay b.val) s = .next t ∧
      t.outline = ((s.settle.startedAt b cr false).reply 0x13 .ok [if s.knownAt b then 4 else 3]).outline) ∧
    ((s.profile cr.profile).valid = false → ∃ t, exec (.startBay b.val) s = .next t ∧ t.StartFailed b s.now ∧
      t.link.reply = some ⟨0x93, .ok, [8]⟩) := by
  obtain ⟨hsession, hrequest⟩ := State.idle_at (s := s) hok (by rw [hst]; rfl)
  have htaken := takeStartBay_taken (s := s.settle) hst hq
  refine ⟨fun hv => ?_, fun hv => ?_⟩
  · have hout := State.startByCharge_outline (s := s.settle) (b := b) (State.startClass_eq_some.2 ⟨hcr, hv⟩) hrequest
      false false
    rw [← State.handAllReady_outline] at hout
    have hbyte : ((s.settle.startByCharge b false false).handAllReady).stateByte b = if s.knownAt b then 4 else 3 := by
      rw [State.stateByte, Bay.state_of_outline (State.bay_outline_of_outline hout b), State.startedAt_state]
      change u1 (if s.knownAt b = true then BayState.charge else .assess).code = _
      split <;> rfl
    rw [takenAt, hbyte] at htaken
    generalize (s.settle.startByCharge b false false).handAllReady = t at htaken hout
    exact ⟨_, congrArg Host.Outcome.next (State.command_of_taken h htaken), State.reply_outline_congr hout _ _ _⟩
  · have hfailed := State.startByCharge_failed (s := s.settle) (State.startClass_of_invalid hcr hv) hsession hrequest false
      false
    have hfailed : ((s.settle.startByCharge b false false).handAllReady).StartFailed b s.now :=
      hfailed.of_seat (State.handAllReady_seat _ b)
    have hbyte : ((s.settle.startByCharge b false false).handAllReady).stateByte b = 8 := by
      rw [State.stateByte, hfailed.1]
      rfl
    rw [takenAt, hbyte] at htaken
    generalize (s.settle.startByCharge b false false).handAllReady = t at htaken hfailed
    exact ⟨_, congrArg Host.Outcome.next (State.command_of_taken h htaken), hfailed, rfl⟩

theorem coolExpiry_starts {cr : ClassRec} (hok : s.BaysOk) (hcr : s.classAt b = some cr) {e : Nat}
    (hrun : s.running = true) (hst : (s.bay b).state = .cooling) (he : (s.bay b).coolExpiry = some e) (hdue : e ≤ s.now) :
    ((s.profile cr.profile).valid = true → ∃ t, exec (.coolExpiry b) s = .next t ∧
      t.outline = (s.settle.startedAt b cr true).outline) ∧
    ((s.profile cr.profile).valid = false → ∃ t, exec (.coolExpiry b) s = .next t ∧ t.StartFailed b s.now) := by
  obtain ⟨hsession, hrequest⟩ := State.idle_at (s := s) hok (by rw [hst]; rfl)
  have hcool : s.settle.coolDue b = true := by
    have hst' : (s.settle.bay b).state = .cooling := hst
    have he' : (s.settle.bay b).coolExpiry = some e := he
    simp only [State.coolDue, hst', he', State.reached]
    simp only [decide_true, Bool.true_and]
    exact decide_eq_true hdue
  have hexec : exec (.coolExpiry b) s = .next ((s.settle.coolEnds b).handAllReady) :=
    congrArg Host.Outcome.next (State.eventIf_of hrun hcool _)
  rw [hexec, State.coolEnds]
  have hclass : (s.settle.modBay b fun y => { y with coolExpiry := none }).classAt b = some cr := by
    rw [← hcr]
    simp [State.classAt, State.classInUse, State.pack, State.classRec]
    rfl
  have hnone : ((s.settle.modBay b fun y => { y with coolExpiry := none }).bay b).session = none := by
    rw [State.modBay_bay, if_pos rfl]
    exact hsession
  have hstarted := s.settle.startedAt_modBay b cr true
  have hreq : ((s.settle.modBay b fun y => { y with coolExpiry := none }).grant b).request = 0 := hrequest
  have hnow : (s.settle.modBay b fun y => { y with coolExpiry := none }).now = s.now := rfl
  have hprofile : (s.settle.modBay b fun y => { y with coolExpiry := none }).profile cr.profile = s.profile cr.profile := rfl
  generalize (s.settle.modBay b fun y => { y with coolExpiry := none }) = u at hclass hnone hstarted hreq hnow hprofile ⊢
  refine ⟨fun hv => ⟨_, rfl, ?_⟩, fun hv => ⟨_, rfl, ?_⟩⟩
  · rw [State.handAllReady_outline, State.startByCharge_outline (State.startClass_eq_some.2 ⟨hclass, by rw [hprofile, hv]⟩)
      hreq, hstarted]
  · have hfailed := State.startByCharge_failed (State.startClass_of_invalid hclass (by rw [hprofile, hv])) hnone hreq true false
    rw [hnow] at hfailed
    exact hfailed.of_seat (State.handAllReady_seat _ b)

end
end Sys2Proof.Machine
end

section
/-! SUPPORT. A good report that raises no fault, at a bay that works on its pack, with the statement about the starts of
sessions (R29, R33 to R36, R88, R89). -/

namespace Sys2Proof.Machine

section
variable {s t u : State} {b : BayNo} {rep : Report}

/-! ## The report at the bay -/

theorem State.reported_classInUse (s : State) (b : BayNo) (rep : Report) :
    (s.reported b rep).classInUse b = s.classInUse b := by
  simp only [State.classInUse, State.reported_identity, State.reported_pack]

theorem State.reported_classRec (s : State) (b : BayNo) (rep : Report) : (s.reported b rep).classRec = s.classRec := by
  funext c
  rw [State.classRec, State.reported_register, State.classRec]

theorem State.reported_classAt (s : State) (b : BayNo) (rep : Report) :
    (s.reported b rep).classAt b = s.classAt b := by
  rw [State.classAt, State.reported_classInUse, State.reported_classRec, State.classAt]

theorem State.reported_profile (s : State) (b : BayNo) (rep : Report) (p : ProfileNo) :
    (s.reported b rep).profile p = s.profile p := by
  have h : (s.reported b rep).profiles = s.profiles := s.credited_profiles b
  rw [State.profile, h, State.profile]

/-- The arrival of the report before, or now. -/
def State.prevArrival (s : State) (b : BayNo) : Nat := ((s.bay b).latest.map (·.arrival)).getD s.now

/-- A bay that works on its pack (R29, step 4). -/
def BayState.works (st : BayState) : Prop := st = .cooling ∨ st = .assess ∨ st = .charge ∨ st = .maintain

/-- A good report that raises no fault, at a bay that works on its pack: the work is done, and changed ready counts are
handed on (R29). -/
theorem State.delivered_of_work {cr : ClassRec} (hst : (s.bay b).state.works) (hr : (s.bay b).reconcile = .no)
    (hp : rep.present = true) (hc : s.Calm b rep) (hcr : s.classAt b = some cr) (hb : cr.Bears rep) :
    s.delivered b rep =
      ((s.reported b rep).stateWork b rep (s.prevArrival b) (s.line b).answeredOn).handAllReady := by
  have hm : (s.bay b).state ≠ .masked := by
    rintro h
    simp [h, BayState.works] at hst
  have hlatest : ((s.credited b).bay b).latest = (s.bay b).latest :=
    (congrArg Bay.latest (s.credited_bay_outline b b) :)
  have hstate := s.reported_state b rep
  have hpresent : (s.reported b rep).presence b rep = s.reported b rep := by
    rw [State.presence, if_pos hp, State.presentAt, hstate]
    rcases hst with h | h | h | h <;> rw [h]
  have hkinds : (s.reported b rep).kindsFound b rep (s.line b).sent.drive.on = [] := by
    have htest : (s.reported b rep).testClass b rep = s.classInUse b := by
      rw [State.testClass, hstate, State.reported_classInUse]
      rcases hst with h | h | h | h <;> rw [h]
    rw [State.kindsFound, htest, State.reported_classRec, ← State.classAt, hcr]
    exact faultKinds_eq_nil (fun r h => Option.some.inj h ▸ hb) hc.1 hc.2
  have hwork : (s.reported b rep).testsAndWork b rep (s.prevArrival b) (s.line b).answeredOn (s.line b).sent.drive.on =
      (s.reported b rep).stateWork b rep (s.prevArrival b) (s.line b).answeredOn := by
    simp only [State.testsAndWork, hkinds, hstate]
    rw [if_neg]
    rintro h
    simp [h, BayState.works] at hst
  have hreported : ((s.credited b).modBay b fun y => { y with latest := some ⟨rep, s.now⟩ }) = s.reported b rep := rfl
  rw [State.delivered, if_neg hm]
  simp only [State.goodReportAt, State.credited_now, hlatest, hreported]
  rw [State.reconcile_of_no ((s.reported_reconcile b rep).trans hr), hpresent, hstate, if_neg]
  · exact congrArg State.handAllReady hwork
  · rintro h
    simp [h, BayState.works] at hst

/-! ## The end of ASSESS -/

theorem State.setKnownAt_of_registered {g : Nat} (h : (s.bay b).identity = .registered g) :
    s.setKnownAt b = (s.modPack g fun r => { r with known := true }).savePack g := by
  simp only [State.setKnownAt, h]

/-- The estimate entered in the register and in the bay (R8, R36, R89). -/
def State.estimated (s : State) (b : BayNo) (q : Nat) : State := (s.setChargeAt b q).setKnownAt b

theorem State.setChargeAt_of_registered {g : Nat} (h : (s.bay b).identity = .registered g) (q : Nat) :
    s.setChargeAt b q = s.modPack g fun r => { r with charge := q } := by
  simp only [State.setChargeAt, h]

/-- The estimate of a registered pack, in its record. -/
theorem State.estimated_of_registered {g : Nat} {r : PackRec} (h : (s.bay b).identity = .registered g)
    (hr : s.pack g = some r) (q : Nat) :
    (s.estimated b q).pack g = some { r with charge := q, known := true } ∧
      .pack { r with charge := q, known := true } ∈ (s.estimated b q).inFlight ∧ (s.estimated b q).bays = s.bays ∧
      (∀ x, ((s.estimated b q).pack x).map (·.cls) = (s.pack x).map (·.cls)) := by
  have hcharge : (s.modPack g fun r => { r with charge := q }).pack g = some { r with charge := q } := by
    rw [State.modPack_pack, if_pos rfl, hr]
    · rfl
    · exact fun _ => rfl
  have hknown : ((s.modPack g fun r => { r with charge := q }).modPack g fun r => { r with known := true }).pack g =
      some { r with charge := q, known := true } := by
    rw [State.modPack_pack, if_pos rfl, hcharge]
    · rfl
    · exact fun _ => rfl
  have he : s.estimated b q = ((s.modPack g fun r => { r with charge := q }).modPack g fun r =>
      { r with known := true }).write (.pack { r with charge := q, known := true }) := by
    rw [State.estimated, State.setChargeAt_of_registered h, State.setKnownAt_of_registered (by exact h), State.savePack,
      hknown]
  rw [he]
  refine ⟨hknown, by simp [State.write], rfl, fun x => ?_⟩
  change ((((s.modPack g fun r => { r with charge := q }).modPack g fun r => { r with known := true }).pack x).map (·.cls)) = _
  rw [State.modPack_pack, State.modPack_pack]
  · split
    · rw [Option.map_map, Option.map_map]
      rfl
    · rfl
  · exact fun _ => rfl
  · exact fun _ => rfl

theorem State.estimated_of_anonymous {c : ClassNo} {n : Nat} {k : Bool} (h : (s.bay b).identity = .anonymous c n k)
    (q : Nat) : s.estimated b q = s.modBay b fun y => { y with identity := .anonymous c q true } := by
  have hcharge : s.setChargeAt b q = s.modBay b fun y => { y with identity := .anonymous c q k } := by
    simp only [State.setChargeAt, h]
  have hid : ((s.modBay b fun y => { y with identity := .anonymous c q k }).bay b).identity = .anonymous c q k := by
    rw [State.modBay_bay, if_pos rfl]
  rw [State.estimated, hcharge, State.setKnownAt]
  simp only [hid]
  rw [State.modBay_modBay]

/-- The estimate is the charge, and known, of a pack under a class; its class stays (R8). -/
theorem State.estimated_shows {cr : ClassRec} (hcr : s.classAt b = some cr) (q : Nat) :
    (s.estimated b q).chargeAt b = q ∧ (s.estimated b q).knownAt b = true ∧ (s.estimated b q).classAt b = some cr := by
  have haway : (s.estimated b q).away b = s.away b := by rw [State.estimated, State.setKnownAt_away, State.setChargeAt_away]
  have hclasses : (s.estimated b q).classRec = s.classRec := by
    funext c
    rw [State.classRec, State.classes_of_away haway, State.classRec]
  cases hi : (s.bay b).identity with
  | empty => simp [State.classAt, State.classInUse, hi] at hcr
  | registered g =>
    obtain ⟨r, hr⟩ : ∃ r, s.pack g = some r := by
      cases hr : s.pack g with
      | some r => exact ⟨r, rfl⟩
      | none => simp [State.classAt, State.classInUse, hi, hr] at hcr
    obtain ⟨hpack, -, hbays, hcls⟩ := State.estimated_of_registered hi hr q
    have hid : ((s.estimated b q).bay b).identity = .registered g := by rw [State.bay, hbays, ← hi, State.bay]
    refine ⟨by simp [State.chargeAt, hid, hpack], by simp [State.knownAt, hid, hpack], ?_⟩
    rw [← hcr]
    simp only [State.classAt, State.classInUse, hid, hi, hcls, hclasses]
  | anonymous c n k =>
    have hid : ((s.estimated b q).bay b).identity = .anonymous c q true := by
      rw [State.estimated_of_anonymous hi, State.modBay_bay, if_pos rfl]
    refine ⟨by simp [State.chargeAt, hid], by simp [State.knownAt, hid], ?_⟩
    rw [← hcr]
    simp only [State.classAt, State.classInUse, hid, hi, hclasses]

theorem State.estimated_seat (s : State) (b : BayNo) (q : Nat) :
    ∃ i, (s.estimated b q).seat b = { s.seat b with bay := { (s.seat b).bay with identity := i } } := by
  obtain ⟨i, hi⟩ := s.setChargeAt_seat b q
  obtain ⟨j, hj⟩ := (s.setChargeAt b q).setKnownAt_seat b
  exact ⟨j, by rw [State.estimated, hj, hi]⟩

/-- Charge and known charge at a bay follow from its identity and the packs. -/
theorem State.chargeAt_congr (hid : (t.bay b).identity = (s.bay b).identity) (hp : ∀ g, t.pack g = s.pack g) :
    t.chargeAt b = s.chargeAt b ∧ t.knownAt b = s.knownAt b := by
  simp only [State.chargeAt, State.knownAt, hid, hp, and_self]

/-- The session at the end of ASSESS, in CHARGE at stage 0 (R36, R60). -/
def Session.assessed (se : Session) (now : Nat) (base : Option Nat) : Session :=
  ({ se with deliveredResidue := 0, storedResidue := 0 } : Session).entered 0 now base true

/-- The end of ASSESS (R36, R88, R89). -/
theorem State.endAssess_shows {cr : ClassRec} {se : Session} (hcr : s.classAt b = some cr) (hse : (s.bay b).session = some se)
    (rep : Report) :
    ((s.endAssess b rep cr).bay b).state = .charge ∧
      ((s.endAssess b rep cr).bay b).session = some (se.assessed s.now (s.baseAt b 0)) ∧
      (s.endAssess b rep cr).chargeAt b = estimateCharge cr rep.vm ∧ (s.endAssess b rep cr).knownAt b = true ∧
      (s.endAssess b rep cr).ledger = (s.estimated b (estimateCharge cr rep.vm)).ledger := by
  obtain ⟨hcharge, hknown, hclass⟩ := State.estimated_shows hcr (estimateCharge cr rep.vm)
  obtain ⟨i, hseat⟩ := s.estimated_seat b (estimateCharge cr rep.vm)
  have haway : (s.estimated b (estimateCharge cr rep.vm)).away b = s.away b := by
    rw [State.estimated, State.setKnownAt_away, State.setChargeAt_away]
  have heq : s.endAssess b rep cr = (((((s.estimated b (estimateCharge cr rep.vm)).modSession b fun x =>
    { x with deliveredResidue := 0, storedResidue := 0 }).enterStage b 0 true).moveTo b .charge).releaseAtRest b).relevel
      b := rfl
  generalize s.estimated b (estimateCharge cr rep.vm) = u at hcharge hknown hclass hseat haway heq ⊢
  have hsession : (u.bay b).session = some se := (State.session_of_seat hseat).trans hse
  have hbase : (u.modSession b fun x => { x with deliveredResidue := 0, storedResidue := 0 }).baseAt b 0 =
      s.baseAt b 0 := by
    rw [State.modSession_baseAt]
    · exact State.baseAt_congr hse hsession rfl (hclass.trans hcr.symm) (State.profiles_of_away haway) 0
    · exact fun _ => rfl
  have hnow : (u.modSession b fun x => { x with deliveredResidue := 0, storedResidue := 0 }).now = s.now :=
    (u.modBay_now b _).trans (State.now_of_away haway)
  have hledger : (s.endAssess b rep cr).ledger = u.ledger := by
    rw [heq]
    simp
  obtain ⟨r, hend⟩ : ∃ r, (s.endAssess b rep cr).seat b = (((u.seat b).withSession
      (((u.seat b).bay.session.map fun x => { x with deliveredResidue := 0, storedResidue := 0 }).map fun x =>
        x.entered 0 s.now (s.baseAt b 0) true)).inState .charge).asking r := by
    rw [heq, State.relevel_seat, State.releaseAtRest_seat, State.moveTo_seat, State.enterStage_seat, State.modSession_seat,
      hbase, hnow]
    exact ⟨_, rfl⟩
  clear heq
  generalize s.endAssess b rep cr = v at hend hledger ⊢
  have hid : (v.bay b).identity = (u.bay b).identity :=
    congrArg (fun n : Seat => n.bay.identity) hend
  obtain ⟨hc, hk⟩ := State.chargeAt_congr hid fun g => State.pack_of_ledger hledger g
  refine ⟨State.state_of_seat hend, ?_, hc.trans hcharge, hk.trans hknown, hledger⟩
  refine (congrArg (fun n : Seat => n.bay.session) hend).trans ?_
  have hs : (u.seat b).bay.session = some se := hsession
  simp only [Seat.asking, Seat.inState, Seat.withSession, hs]
  rfl

/-! ## The reports that end COOLING and ASSESS -/

theorem State.startedAt_bay (s : State) (b : BayNo) (cr : ClassRec) (warm : Bool) :
    ((s.startedAt b cr warm).bay b) = { (s.bay b).opened (if s.knownAt b then
        (Session.fresh cr.profile warm .none).entered 0 s.now
          (((s.profile cr.profile).stage 0).bind fun st => chargeBase cr.capacity st.chargeLimit) true
      else Session.fresh cr.profile warm .none) with state := if s.knownAt b then .charge else .assess } := by
  rw [State.startedAt_eq]
  simp

theorem State.reported_knownAt (s : State) (b : BayNo) (rep : Report) : (s.reported b rep).knownAt b = s.knownAt b :=
  (State.chargeAt_congr (s.reported_identity b rep) (s.reported_pack b rep)).2

theorem State.reported_request_zero (h : (s.grant b).request = 0) (rep : Report) :
    ((s.reported b rep).grant b).request = 0 := (s.reported_request b rep b).trans h

/-- A COOLING bay that has cooled down starts a cold session (R33). -/
theorem State.delivered_cooled {cr : ClassRec} (hok : s.BaysOk) (hst : (s.bay b).state = .cooling)
    (hr : (s.bay b).reconcile = .no) (hp : rep.present = true) (hc : s.Calm b rep) (hcr : s.classAt b = some cr)
    (hb : cr.Bears rep) (hcool : rep.tm ≤ cr.startLimit - 3) (hv : (s.profile cr.profile).valid = true) :
    ((s.delivered b rep).bay b).coolExpiry = none ∧
      ((s.delivered b rep).bay b).state = ((s.startedAt b cr false).bay b).state ∧
      ((s.delivered b rep).bay b).session = ((s.startedAt b cr false).bay b).session := by
  have hwork : (s.reported b rep).stateWork b rep (s.prevArrival b) (s.line b).answeredOn =
      (s.reported b rep).startByCharge b false false := by
    simp only [State.stateWork, State.reported_state, hst, State.coolingTest, State.reported_classAt, hcr]
    exact if_pos hcool
  have hclass : (s.reported b rep).startClass b = some cr :=
    State.startClass_eq_some.2 ⟨(s.reported_classAt b rep).trans hcr, by rw [State.reported_profile, hv]⟩
  obtain ⟨-, hrequest⟩ := State.idle_at (s := s) hok (by rw [hst]; rfl)
  have hout := State.startByCharge_outline hclass (State.reported_request_zero hrequest rep) false false
  rw [← State.handAllReady_outline] at hout
  rw [State.delivered_of_work (.inl hst) hr hp hc hcr hb, hwork]
  have hbay := State.bay_outline_of_outline hout b
  generalize ((s.reported b rep).startByCharge b false false).handAllReady = t at hbay ⊢
  have hnew := State.startedAt_bay (s.reported b rep) b cr false
  rw [State.reported_knownAt, State.reported_now, State.reported_profile] at hnew
  rw [hnew] at hbay
  rw [State.startedAt_bay]
  generalize (Session.entered _ _ _ _ _) = se at hbay ⊢
  exact ⟨(congrArg Bay.coolExpiry hbay :), (congrArg Bay.state hbay :), (congrArg Bay.session hbay :)⟩

/-- A good report whose work changes nothing leaves the bay and the register (R29). -/
theorem State.reported_handed (s : State) (b : BayNo) (rep : Report) :
    (((s.reported b rep).handAllReady).bay b).state = (s.bay b).state ∧
      (((s.reported b rep).handAllReady).bay b).coolExpiry = (s.bay b).coolExpiry ∧
      (((s.reported b rep).handAllReady).bay b).session = (s.bay b).session ∧
      ((s.reported b rep).handAllReady).register = s.register := by
  have hout := State.handAllReady_outline (s.reported b rep)
  have hbay := (State.bay_outline_of_outline hout b).trans (s.reported_outline_self b rep)
  generalize (s.reported b rep).handAllReady = v at hout hbay ⊢
  exact ⟨(congrArg Bay.state hbay :), (congrArg Bay.coolExpiry hbay :), (congrArg Bay.session hbay :),
    (State.register_of_outline hout).trans (s.reported_register b rep)⟩

/-- A COOLING bay above the limit stays (R33). -/
theorem State.delivered_hot {cr : ClassRec} (hok : s.BaysOk) (hst : (s.bay b).state = .cooling)
    (hr : (s.bay b).reconcile = .no) (hp : rep.present = true) (hc : s.Calm b rep) (hcr : s.classAt b = some cr)
    (hb : cr.Bears rep) (hhot : cr.startLimit - 3 < rep.tm) :
    ((s.delivered b rep).bay b).state = .cooling ∧ ((s.delivered b rep).bay b).coolExpiry = (s.bay b).coolExpiry ∧
      ((s.delivered b rep).bay b).session = none := by
  have hwork : (s.reported b rep).stateWork b rep (s.prevArrival b) (s.line b).answeredOn = s.reported b rep := by
    simp only [State.stateWork, State.reported_state, hst, State.coolingTest, State.reported_classAt, hcr]
    exact if_neg (Int.not_le.2 hhot)
  obtain ⟨hsession, -⟩ := State.idle_at (s := s) hok (by rw [hst]; rfl)
  rw [State.delivered_of_work (.inl hst) hr hp hc hcr hb, hwork]
  obtain ⟨h1, h2, h3, -⟩ := s.reported_handed b rep
  exact ⟨h1.trans hst, h2, h3.trans hsession⟩

/-- A report at an ASSESS bay, before its rest time has run and after (R36). -/
theorem State.delivered_assess {cr : ClassRec} {se : Session} {d : Nat} (hst : (s.bay b).state = .assess)
    (hr : (s.bay b).reconcile = .no) (hp : rep.present = true) (hc : s.Calm b rep) (hcr : s.classAt b = some cr)
    (hb : cr.Bears rep) (hse : (s.bay b).session = some se) (hd : (s.bay b).dockTime = some d) :
    (s.now < d + cr.restTime * 60000 → ((s.delivered b rep).bay b).state = .assess ∧
      ((s.delivered b rep).bay b).session = some se ∧ (s.delivered b rep).register = s.register) ∧
    (d + cr.restTime * 60000 ≤ s.now → ((s.delivered b rep).bay b).state = .charge ∧
      ((s.delivered b rep).bay b).session = some (se.assessed s.now (s.baseAt b 0)) ∧
      (s.delivered b rep).chargeAt b = estimateCharge cr rep.vm ∧ (s.delivered b rep).knownAt b = true ∧
      ∀ g r, (s.bay b).identity = .registered g → s.pack g = some r →
        (s.delivered b rep).pack g = some { r with charge := estimateCharge cr rep.vm, known := true } ∧
          .pack { r with charge := estimateCharge cr rep.vm, known := true } ∈ (s.delivered b rep).inFlight) := by
  have hdock : ((s.reported b rep).bay b).dockTime = some d :=
    (congrArg Bay.dockTime (s.reported_outline_self b rep) :).trans hd
  rw [State.delivered_of_work (.inr (.inl hst)) hr hp hc hcr hb]
  have hwork : (s.reported b rep).stateWork b rep (s.prevArrival b) (s.line b).answeredOn =
      if d + cr.restTime * 60000 ≤ s.now then (s.reported b rep).endAssess b rep cr else s.reported b rep := by
    simp only [State.stateWork, State.reported_state, hst, State.restTest, State.reported_classAt, hcr, hdock,
      State.reported_now]
    rfl
  rw [hwork]
  refine ⟨fun hearly => ?_, fun hdue => ?_⟩
  · rw [if_neg (Nat.not_le.2 hearly)]
    obtain ⟨h1, -, h3, h4⟩ := s.reported_handed b rep
    exact ⟨h1.trans hst, h3.trans hse, h4⟩
  · rw [if_pos hdue]
    have hclass := (s.reported_classAt b rep).trans hcr
    have hsession := (s.reported_session b rep).trans hse
    have hbase : (s.reported b rep).baseAt b 0 = s.baseAt b 0 :=
      State.baseAt_congr hse hsession rfl (s.reported_classAt b rep) (s.credited_profiles b) 0
    obtain ⟨hstate, hnew, hcharge, hknown, hledger⟩ := State.endAssess_shows hclass hsession rep
    rw [hbase, State.reported_now] at hnew
    have hpacks := fun g r (hi : (s.bay b).identity = .registered g) (hg : s.pack g = some r) =>
      State.estimated_of_registered (s := s.reported b rep) (b := b) ((s.reported_identity b rep).trans hi)
        ((s.reported_pack b rep g).trans hg) (estimateCharge cr rep.vm)
    generalize (s.reported b rep).endAssess b rep cr = v at hstate hnew hcharge hknown hledger ⊢
    generalize (s.reported b rep).estimated b (estimateCharge cr rep.vm) = w at hledger hpacks
    have hout := v.handAllReady_outline
    have hbay := State.bay_outline_of_outline hout b
    have hsame := State.handAllReady_ledger v
    have hledger := hsame.trans hledger
    generalize v.handAllReady = v' at hbay hsame hledger ⊢
    obtain ⟨hc', hk'⟩ := State.chargeAt_congr (congrArg Bay.identity hbay :) (State.pack_of_ledger hsame)
    refine ⟨(congrArg Bay.state hbay :).trans hstate, (congrArg Bay.session hbay :).trans hnew, hc'.trans hcharge,
      hk'.trans hknown, fun g r hi hg => ?_⟩
    obtain ⟨hpack, hmem, -, -⟩ := hpacks g r hi hg
    rw [State.pack_of_ledger hledger, State.inFlight_of_ledger hledger]
    exact ⟨hpack, hmem⟩

end

/-- Settles O32: the starts by command and by cool expiry in the outline, those by report at the bay. -/
theorem sessionsStartColdAndWarm : Obligations.SessionsStartColdAndWarm := by
  refine ⟨fun s b cr hok hcr => ⟨fun h hst hq => startBay_starts hok hcr h hst hq,
    fun e hrun hst he hdue => coolExpiry_starts hok hcr hrun hst he hdue⟩, ?_⟩
  intro s x bytes rep cr hh hok hr hp hc hcr hb
  rw [State.exec_reportReceived hh]
  exact ⟨fun hst hcool hv => ⟨_, rfl, State.delivered_cooled hok hst hr hp hc hcr hb hcool hv⟩,
    fun hst hhot => ⟨_, rfl, State.delivered_hot hok hst hr hp hc hcr hb hhot⟩,
    fun se d hst hse hd => ⟨_, rfl, State.delivered_assess hst hr hp hc hcr hb hse hd⟩⟩

end Sys2Proof.Machine
end

section
/-! SUPPORT. The evaluation of a session (R62 to R64, R70, R79, R80, R85, R86, R98): its clocks, flags and exits, and the
state with and without an exit, with the statement about evaluations. -/

namespace Sys2Proof.Machine

/-! ## Flags and exits -/

theorem Flags.get_eq_iff (f : Flags) (g : Flag) (v : Bool) : f.get g = v ↔ (g, v) ∈
    [(Flag.vt, f.vt), (.it, f.it), (.pl, f.pl), (.th, f.th), (.ah, f.ah), (.tm, f.tm), (.eq, f.eq), (.gr, f.gr)] := by
  cases g <;> simp [Flags.get, eq_comm]

/-- An exit's test and sense hold (R54). -/
theorem Exit.holds_iff (e : Exit) (f : Flags) : e.holds f = true ↔
    e.test = .always ∨ ∃ g, e.test = .flag g ∧ (g, e.senseSet) ∈
      [(Flag.vt, f.vt), (.it, f.it), (.pl, f.pl), (.th, f.th), (.ah, f.ah), (.tm, f.tm), (.eq, f.eq), (.gr, f.gr)] := by
  unfold Exit.holds
  cases e.test with
  | always => simp only [true_or]
  | flag g => simp only [beq_iff_eq, f.get_eq_iff, reduceCtorEq, false_or, Test.flag.injEq, exists_eq_left']

/-- The exit taken is the first in list order that holds (R64). -/
theorem Stage.exitTaken_iff (st : Stage) (f : Flags) (e : Exit) : st.exitTaken f = some e ↔
    ∃ pre post, st.exits = pre ++ e :: post ∧ e.holds f = true ∧ ∀ x ∈ pre, ¬ x.holds f = true := by
  rw [Stage.exitTaken, List.find?_eq_some_iff_append]
  constructor
  · rintro ⟨hold, pre, post, heq, hpre⟩
    exact ⟨pre, post, heq, hold, fun x hx => by simpa using hpre x hx⟩
  · rintro ⟨pre, post, heq, hold, hpre⟩
    exact ⟨hold, pre, post, heq, fun x hx => by simpa using hpre x hx⟩

section
variable {s : State} {b : BayNo}

/-- EQ is due for a registered FLOODED pack whose count has reached its class's interval (R64). -/
theorem State.equalizeDue_iff (cr : ClassRec) : s.equalizeDue b cr = true ↔ ∃ g r, (s.bay b).identity = .registered g ∧
    s.pack g = some r ∧ cr.chemistry = .flooded ∧ 0 < cr.equalizeInterval ∧ cr.equalizeInterval ≤ r.equalize := by
  unfold State.equalizeDue
  cases (s.bay b).identity with
  | empty => simp
  | anonymous c q k => simp
  | registered g => cases hg : s.pack g <;> simp [hg, flagEQ]

/-- The eight flags of an evaluation (Table 3-5, R64). -/
theorem State.evaluationFlags_iff (s : State) (b : BayNo) (se : Session) (st : Stage) (cr : ClassRec) (rep : Report) :
    let fl := s.evaluationFlags b se st cr rep
    let settled := st.settle * 1000 ≤ se.served
    (fl.vt = true ↔ packTarget cr st rep.tm ≤ rep.vm * 10) ∧ (fl.it = true ↔ settled ∧ rep.im ≤ (st.taper : Int)) ∧
      (fl.pl = true ↔ 0 < st.plateau ∧ settled ∧ st.plateau * 60000 ≤ se.sinceRise) ∧
      (fl.th = true ↔ cr.hotLimit ≤ rep.tm) ∧ (fl.ah = true ↔ 0 < st.chargeLimit ∧ se.chargeLeft = some 0) ∧
      (fl.tm = true ↔ 0 < st.timeLimit ∧ st.timeLimit * 60000 ≤ se.served) ∧
      (fl.eq = true ↔ ∃ g r, (s.bay b).identity = .registered g ∧ s.pack g = some r ∧ cr.chemistry = .flooded ∧
        0 < cr.equalizeInterval ∧ cr.equalizeInterval ≤ r.equalize) ∧
      (fl.gr = true ↔ st.kind ≠ .rest ∧ (s.grant b).granted < (s.grant b).request) := by
  simp only [State.evaluationFlags, computeFlags, flagVT, flagIT, flagPL, flagTH, flagAH, flagTM, flagGR, settled,
    Bool.and_eq_true, decide_eq_true_eq, State.equalizeDue_iff, and_assoc, true_and, and_true]
  exact ⟨Iff.rfl, Iff.rfl⟩

/-- The clocks and the peak of an evaluated session, and what its accounts leave of it (R63). -/
theorem State.evaluated_clocks (s : State) (se : Session) (st : Stage) (rep : Report) (prev : Nat) (on : Bool) :
    let se' := s.evaluated se st rep prev on
    let grown := if on = true ∨ st.kind = .rest then s.now - max prev se.entry else 0
    se'.served = se.served + grown ∧ se'.sessionServed = se.sessionServed + grown ∧ se'.peak = max se.peak rep.vm ∧
      se'.sinceRise = (if se.peak < rep.vm then 0 else se.sinceRise + grown) ∧ se'.stage = se.stage ∧
      se'.entry = se.entry ∧ se'.frames = se.frames ∧ se'.outcome = se.outcome := by
  simp [State.evaluated, Session.accounted, Session.clocked, servedInterval]

/-- The session limit is reached in CHARGE alone (R70). -/
theorem State.limitReached_iff (se : Session) : s.limitReached b se = true ↔
    (s.bay b).state = .charge ∧ (s.profile se.profile).header.sessionLimit * 60000 ≤ se.sessionServed :=
  decide_eq_true_iff

/-! ## The report that runs it -/

/-- A good report that raises no fault, at a bay in CHARGE or MAINTAIN: the evaluation, and changed ready counts handed on
(R29, R37). -/
theorem State.delivered_evaluated {rep : Report} {cr : ClassRec}
    (hst : (s.bay b).state = .charge ∨ (s.bay b).state = .maintain) (hr : (s.bay b).reconcile = .no)
    (hp : rep.present = true) (hc : s.Calm b rep) (hcr : s.classAt b = some cr) (hb : cr.Bears rep) :
    s.delivered b rep =
      ((s.reported b rep).evaluate b rep (s.prevArrival b) (s.line b).answeredOn).handAllReady := by
  rw [State.delivered_of_work (.inr (.inr hst)) hr hp hc hcr hb]
  refine congrArg State.handAllReady ?_
  rw [State.stateWork, State.reported_state]
  rcases hst with h | h <;> rw [h]

/-- The carried units credited, with the record of the line. -/
theorem State.heard_credited (s : State) (b : BayNo) : (s.settle.endSlot.modLine b fun y =>
    { y with misses := 0, lostExpiry := none, answeredOn := (s.line b).sent.drive.on }).setCarried b
      (s.line b).sent.units = s.credited b := by
  have hline : s.settle.endSlot.line b = s.line b := by
    obtain ⟨w, o, he⟩ := s.settle.endSlot_eq
    rw [he]
    rfl
  rw [State.credited, State.modLine_congr (g := LineRec.heard)]
  rw [hline, LineRec.heard]

/-- What handing on ready counts leaves. -/
theorem State.handAllReady_shows (u : State) (b : BayNo) :
    (u.handAllReady.bay b).session = (u.bay b).session ∧ (u.handAllReady.bay b).state = (u.bay b).state ∧
      u.handAllReady.chargeAt b = u.chargeAt b ∧ (u.handAllReady.grant b).request = (u.grant b).request ∧
      u.handAllReady.faultRec b = u.faultRec b ∧ u.handAllReady.register = u.register ∧
      u.handAllReady.inFlight = u.inFlight ∧ u.handAllReady.outline = u.outline := by
  have hout := u.handAllReady_outline
  have hseat := u.handAllReady_seat (x := b)
  have hledger := u.handAllReady_ledger
  generalize u.handAllReady = t at hout hseat hledger ⊢
  have hbay := State.bay_outline_of_outline hout b
  exact ⟨State.session_of_seat hseat, State.state_of_seat hseat,
    (State.chargeAt_congr (congrArg Bay.identity hbay :) (State.pack_of_ledger hledger)).1, State.request_of_seat hseat,
    State.fault_of_seat hseat, State.register_of_ledger hledger, State.inFlight_of_ledger hledger, hout⟩

/-! ## The operations of an evaluation -/

@[simp] theorem State.setChargeAt_alloc (q : Nat) : (s.setChargeAt b q).alloc = s.alloc := by
  unfold State.setChargeAt
  split <;> rfl

@[simp] theorem State.setChargeAt_profiles (q : Nat) : (s.setChargeAt b q).profiles = s.profiles := by
  unfold State.setChargeAt
  split <;> rfl

/-- The charge of a bay after it is set: that of a pack that there is (R8). -/
theorem State.setChargeAt_chargeAt (q : Nat) : (s.setChargeAt b q).chargeAt b =
    match (s.bay b).identity with
    | .empty => 0
    | .registered g => ((s.pack g).map fun _ => q).getD 0
    | .anonymous _ _ _ => q := by
  cases hid : (s.bay b).identity with
  | empty => simp [State.setChargeAt, State.chargeAt, hid]
  | anonymous c n k => simp [State.setChargeAt, State.chargeAt, hid]
  | registered g =>
    have hid' : ((s.modPack g fun r => { r with charge := q }).bay b).identity = .registered g := hid
    simp only [State.setChargeAt, hid, State.chargeAt, hid']
    rw [State.modPack_pack, if_pos rfl, Option.map_map]
    · rfl
    · exact fun _ => rfl

/-- The queue of a level (R98). -/
def State.queueAt (s : State) (l : LevelNo) : List BayNo := s.alloc.queues[l]

theorem State.queueAt_of_alloc {t : State} (h : t.alloc = s.alloc) (l : LevelNo) : t.queueAt l = s.queueAt l := by
  rw [State.queueAt, h, State.queueAt]

@[simp] theorem State.setQueue_queueAt (l m : LevelNo) (q : List BayNo) :
    (s.setQueue l q).queueAt m = if m = l then q else s.queueAt m := s.setQueue_queue l m q

@[simp] theorem State.modGrant_queueAt (f : Grant → Grant) (l : LevelNo) : (s.modGrant b f).queueAt l = s.queueAt l := rfl

@[simp] theorem State.enqueue_queueAt (l m : LevelNo) :
    (s.enqueue l b).queueAt m = if m = l then s.queueAt l ++ [b] else s.queueAt m := s.setQueue_queueAt l m _

@[simp] theorem State.unqueue_queueAt (l m : LevelNo) : (s.unqueue l b).queueAt m =
    if m = l then (s.queueAt l).filter fun x => decide (x ≠ b) else s.queueAt m := s.setQueue_queueAt l m _

/-- A pass keeps the queues (R98, R102). -/
@[simp] theorem State.pass_queueAt (l : LevelNo) : s.pass.queueAt l = s.queueAt l := by
  have h : ∀ u : State, u.passOutline.queueAt l = u.queueAt l := fun u => by
    simp only [State.queueAt, State.passOutline]
  rw [← h s.pass, s.pass_passOutline, h]

/-- The queue of a level after a bay's request goes from `old` to `r` (R98). -/
def queueAfter (q : List BayNo) (b : BayNo) (here : Prop) [Decidable here] (old r : Nat) : List BayNo :=
  if here ∧ old = 0 ∧ r ≠ 0 then q ++ [b]
  else if here ∧ old ≠ 0 ∧ r = 0 then q.filter fun x => decide (x ≠ b)
  else q

theorem queueAfter_same (q : List BayNo) (b : BayNo) (here : Prop) [Decidable here] (r : Nat) :
    queueAfter q b here r r = q := by
  rw [queueAfter, if_neg, if_neg]
  · exact fun h => h.2.1 h.2.2
  · exact fun h => h.2.2 h.2.1

theorem State.enterRequest_queueAt (r : Nat) (l : LevelNo) : (s.enterRequest b r).queueAt l =
    queueAfter (s.queueAt l) b (l = (s.grant b).level) (s.grant b).request r := by
  simp only [State.enterRequest]
  split
  · next h =>
    rw [State.enqueue_queueAt, State.modGrant_queueAt, State.modGrant_queueAt, queueAfter]
    by_cases hl : l = (s.grant b).level
    · rw [if_pos hl, if_pos ⟨hl, h⟩, hl]
    · rw [if_neg hl, if_neg fun h' => hl h'.1, if_neg fun h' => hl h'.1]
  · next h =>
    rw [queueAfter, if_neg fun h' : _ ∧ _ => h h'.2]
    by_cases h' : (s.grant b).request ≠ 0 ∧ r = 0
    · rw [if_pos h']
      rw [State.unqueue_queueAt, State.modGrant_queueAt, State.modGrant_queueAt]
      by_cases hl : l = (s.grant b).level
      · rw [if_pos hl, if_pos ⟨hl, h'⟩, hl]
      · rw [if_neg hl, if_neg fun h'' => hl h''.1]
    · rw [if_neg h', if_neg fun h'' => h' h''.2, State.modGrant_queueAt]

theorem State.handRequest_queueAt (r : Nat) (l : LevelNo) : (s.handRequest b r).queueAt l =
    queueAfter (s.queueAt l) b (l = (s.grant b).level) (s.grant b).request r := by
  unfold State.handRequest
  split
  · next h => rw [h, queueAfter_same]
  · rw [State.pass_queueAt, State.enterRequest_queueAt]

@[simp] theorem State.handRequest_ledger (r : Nat) : (s.handRequest b r).ledger = s.ledger := by
  unfold State.handRequest
  split
  · rfl
  · rw [State.pass_ledger, State.ledger_of_outline (s.enterRequest_outline b r), State.modGrant_ledger]

@[simp] theorem State.handOff_ledger (t i r : Nat) : (s.handOff b t i r).ledger = s.ledger := by
  unfold State.handOff
  split
  · split <;> simp
  · rfl

/-- A hand-off leaves state, session and record of its bay, the register and the writes. -/
theorem State.handOff_shows (t i r : Nat) :
    ((s.handOff b t i r).bay b).session = (s.bay b).session ∧ ((s.handOff b t i r).bay b).state = (s.bay b).state ∧
      (s.handOff b t i r).faultRec b = s.faultRec b ∧ (s.handOff b t i r).register = s.register ∧
      (s.handOff b t i r).inFlight = s.inFlight := by
  have hledger := s.handOff_ledger (b := b) t i r
  have hreg := State.register_of_ledger hledger
  have hfly := State.inFlight_of_ledger hledger
  by_cases h : (s.bay b).session.isSome = true
  · obtain ⟨r', hseat⟩ := State.handOff_seat h t i r
    exact ⟨State.session_of_seat hseat, State.state_of_seat hseat, State.fault_of_seat hseat, hreg, hfly⟩
  · have hid : s.handOff b t i r = s := if_neg h
    rw [hid]
    exact ⟨rfl, rfl, rfl, rfl, rfl⟩

/-- What a hand-off of a running session does in the allocator: nothing at a REST stage (R61, R62, R98). -/
theorem State.handOff_alloc (h : (s.bay b).session.isSome = true) (t i r : Nat) :
    ((s.handOff b t i r).grant b).request = (if s.atRest b then (s.grant b).request else r) ∧
    ∀ l : LevelNo, (s.handOff b t i r).queueAt l = queueAfter (s.queueAt l) b (l = (s.grant b).level)
      (s.grant b).request (if s.atRest b then (s.grant b).request else r) := by
  have halloc : ((s.modBay b fun y => { y with keptTarget := t, keptIset := i }).redrive b).alloc = s.alloc :=
    State.redrive_alloc _ b
  simp only [State.handOff, h, if_true]
  generalize (s.modBay b fun y => { y with keptTarget := t, keptIset := i }).redrive b = u at halloc ⊢
  have hgrant : u.grant b = s.grant b := by rw [State.grant, halloc, State.grant]
  split
  · refine ⟨congrArg Grant.request hgrant, fun l => ?_⟩
    rw [queueAfter_same, State.queueAt_of_alloc halloc]
  · refine ⟨State.request_of_seat (State.handRequest_seat u b r), fun l => ?_⟩
    rw [State.handRequest_queueAt, hgrant, State.queueAt_of_alloc halloc]

/-! ## The evaluation -/

section
variable {se : Session} {k : StageNo} {st : Stage} {cr : ClassRec}

theorem State.evaluate_eq (hse : (s.bay b).session = some se) (hst : s.stageOf se = some (k, st))
    (hcr : s.classAt b = some cr) (rep : Report) (prev : Nat) (on : Bool) :
    s.evaluate b rep prev on = s.evaluateAt b rep prev on se k st cr := by
  simp only [State.evaluate, hse, hcr, hst]

theorem State.stage_of_stageOf (hst : s.stageOf se = some (k, st)) : se.stage = some k := by
  obtain ⟨j, hj, hmap⟩ := Option.bind_eq_some_iff.1 hst
  obtain ⟨x, -, heq⟩ := Option.map_eq_some_iff.1 hmap
  exact hj.trans (congrArg some (Prod.ext_iff.1 heq).1)

/-- The stage of a session follows from its profile, its stage and the store of profiles. -/
theorem State.stageOf_congr {t : State} {se' : Session} (hp : t.profiles = s.profiles) (hprofile : se'.profile = se.profile)
    (hstage : se'.stage = se.stage) : t.stageOf se' = s.stageOf se := by
  rw [State.stageOf, State.stageOf, hstage, State.profile, State.profile, hp, hprofile]

/-- In CHARGE at the session limit TIMEOUT latches at the current stage (R70). -/
theorem State.evaluateAt_timeout (se' : Session) (hstage : se'.stage = some k) (prev : Nat) (rep : Report) (fl : Flags) :
    let t := (s.enterEvaluation b se se' st cr rep prev fl).latch b .timeout [] none none false
    (t.bay b).state = .fault ∧ (t.bay b).session = none ∧
      ∃ r, t.faultRec b = some r ∧ r.first = .timeout ∧ r.stage = some k ∧ r.secondary = [] := by
  obtain ⟨i, g, hseat⟩ := s.enterEvaluation_seat b se se' st cr rep prev fl
  generalize s.enterEvaluation b se se' st cr rep prev fl = u at hseat ⊢
  have h := u.latch_seat b .timeout [] none none false
  refine ⟨State.state_of_seat h, State.session_of_seat h, _, State.fault_of_seat h, rfl, ?_, rfl⟩
  simp [State.faultRecord, State.session_of_seat hseat, hstage]

/-- What entering an evaluation shows: the charge with the stored mAh, stopped at the capacity (R80), the allocator as it
was, and the session at its stage. -/
theorem State.enterEvaluation_shows (hst : s.stageOf se = some (k, st)) {se' : Session} (hprofile : se'.profile = se.profile)
    (hstage : se'.stage = se.stage) (rep : Report) (prev : Nat) (fl : Flags) :
    let u := s.enterEvaluation b se se' st cr rep prev fl
    (u.chargeAt b = match (s.bay b).identity with
      | .empty => 0
      | .registered g => ((s.pack g).map fun r => addCharge cr.capacity r.charge
          (se.storedNow (s.now - prev) rep.im st.acceptance)).getD 0
      | .anonymous _ q _ => addCharge cr.capacity q (se.storedNow (s.now - prev) rep.im st.acceptance)) ∧
    u.alloc = s.alloc ∧ u.atRest b = decide (st.kind = .rest) := by
  intro u
  obtain ⟨i, g, hseat⟩ := s.enterEvaluation_seat b se se' st cr rep prev fl
  have hprofiles : u.profiles = s.profiles := State.setChargeAt_profiles _
  have hstageOf : u.stageOf { se' with lastFlags := fl } = some (k, st) :=
    (State.stageOf_congr hprofiles hprofile hstage).trans hst
  refine ⟨?_, State.setChargeAt_alloc _, ?_⟩
  · have hid : ((s.modBay b fun y =>
        { y with session := some { se' with lastFlags := fl }
                 gapCount := if intervalCapped se.restart (s.now - prev) then min 255 (y.gapCount + 1) else y.gapCount
        }).bay b).identity = (s.bay b).identity := by
      rw [State.modBay_bay, if_pos rfl]
    change (State.setChargeAt _ b _).chargeAt b = _
    rw [State.setChargeAt_chargeAt, hid]
    cases h : (s.bay b).identity with
    | empty => rfl
    | anonymous c q n => simp [State.chargeAt, h]
    | registered g =>
      change ((s.pack g).map _).getD 0 = _
      cases hg : s.pack g <;> simp [State.chargeAt, h, hg]
  · rw [State.atRest, State.session_of_seat hseat]
    simp [hstageOf]

/-- With neither the session limit nor an exit the session goes on (R62, R79, R80, R86, R98). -/
theorem State.evaluateAt_goesOn (hst : s.stageOf se = some (k, st)) (rep : Report) (prev : Nat) (on : Bool) :
    let se' := s.evaluated se st rep prev on
    let fl := s.evaluationFlags b se' st cr rep
    s.limitReached b se' = false → st.exitTaken fl = none →
    let t := s.evaluateAt b rep prev on se k st cr
    ((t.bay b).session = some { se' with lastFlags := fl, firstEval := false } ∧
      t.chargeAt b = (match (s.bay b).identity with
        | .empty => 0
        | .registered g => ((s.pack g).map fun r => addCharge cr.capacity r.charge
            (se.storedNow (s.now - prev) rep.im st.acceptance)).getD 0
        | .anonymous _ q _ => addCharge cr.capacity q (se.storedNow (s.now - prev) rep.im st.acceptance)) ∧
      (t.bay b).keptTarget = packTarget cr st rep.tm ∧ (t.bay b).keptIset = effectiveSetpoint se.warm st.iset ∧
      (t.bay b).state = (s.bay b).state ∧ t.faultRec b = s.faultRec b) ∧
    (t.grant b).request = (if st.kind = .rest then (s.grant b).request else evaluationRequest se st cr rep) ∧
    ∀ l : LevelNo, t.queueAt l =
      queueAfter (s.queueAt l) b (l = (s.grant b).level) (s.grant b).request (t.grant b).request := by
  intro se' fl hlimit hexit t
  obtain ⟨-, -, -, -, hstage, -⟩ := s.evaluated_clocks se st rep prev on
  have ht : t = ((s.enterEvaluation b se se' st cr rep prev fl).handOff b (packTarget cr st rep.tm)
      (effectiveSetpoint se.warm st.iset) (evaluationRequest se st cr rep)).modSession b fun x =>
        { x with firstEval := false } := by
    simp only [t, State.evaluateAt]
    rw [if_neg (by rw [hlimit]; exact Bool.false_ne_true), hexit]
  obtain ⟨i, g, hseat⟩ := s.enterEvaluation_seat b se se' st cr rep prev fl
  obtain ⟨hcharge, halloc, hrest⟩ := State.enterEvaluation_shows (b := b) (cr := cr) hst (se' := se') rfl hstage rep prev fl
  generalize s.enterEvaluation b se se' st cr rep prev fl = u at ht hseat hcharge halloc hrest
  have hsession := State.session_of_seat hseat
  have hsome : (u.bay b).session.isSome = true := by rw [hsession]; rfl
  obtain ⟨r', hoff⟩ := State.handOff_seat hsome (packTarget cr st rep.tm) (effectiveSetpoint se.warm st.iset)
    (evaluationRequest se st cr rep)
  obtain ⟨hreq, hqueue⟩ := State.handOff_alloc hsome (packTarget cr st rep.tm) (effectiveSetpoint se.warm st.iset)
    (evaluationRequest se st cr rep)
  have hledger := u.handOff_ledger (b := b) (packTarget cr st rep.tm) (effectiveSetpoint se.warm st.iset)
    (evaluationRequest se st cr rep)
  have hgrant : u.grant b = s.grant b := by rw [State.grant, halloc, State.grant]
  generalize u.handOff b (packTarget cr st rep.tm) (effectiveSetpoint se.warm st.iset) (evaluationRequest se st cr rep) = v
    at ht hoff hreq hqueue hledger
  have hvt : t.seat b = (v.seat b).withSession ((v.seat b).bay.session.map fun x => { x with firstEval := false }) := by
    rw [ht, State.modSession_seat]
  have hpack : ∀ x, t.pack x = u.pack x := State.pack_of_ledger (by rw [ht, State.modSession_ledger, hledger])
  have halloc' : t.alloc = v.alloc := by rw [ht, State.modSession, State.modBay_alloc]
  have hbay := hvt.trans (by rw [hoff, hseat]; rfl : _ = ({ s.seat b with
    bay := { (s.seat b).bay with
      identity := i, session := some { se' with lastFlags := fl, firstEval := false }, gapCount := g
      keptTarget := packTarget cr st rep.tm, keptIset := effectiveSetpoint se.warm st.iset }
    request := r' } : Seat))
  have hid : (t.bay b).identity = (u.bay b).identity :=
    (congrArg (fun n : Seat => n.bay.identity) hbay :).trans (congrArg (fun n : Seat => n.bay.identity) hseat :).symm
  have htr : t.grant b = v.grant b := by rw [State.grant, halloc', State.grant]
  rw [hgrant, hrest] at hreq hqueue
  simp only [decide_eq_true_eq] at hreq hqueue
  refine ⟨⟨State.session_of_seat hbay, (State.chargeAt_congr hid hpack).1.trans hcharge,
    (congrArg (fun n : Seat => n.bay.keptTarget) hbay :), (congrArg (fun n : Seat => n.bay.keptIset) hbay :),
    State.state_of_seat hbay, State.fault_of_seat hbay⟩, ?_, fun l => ?_⟩
  · rw [htr, hreq]
  · rw [htr, hreq, State.queueAt_of_alloc halloc', hqueue, State.queueAt_of_alloc halloc]

end

end

/-- Settles O50: the report's event does the evaluation's work, and the evaluation goes by the session limit and the exits. -/
theorem evaluationWithoutExit : Obligations.EvaluationWithoutExit := by
  refine ⟨fun s x bytes rep cr hh hok hst hr hp hc hcr hb => ?_, ?_⟩
  · have hu : s.delivered x.bay rep = _ := State.delivered_evaluated hst hr hp hc hcr hb
    rw [State.exec_reportReceived hh, hu]
    intro l credited recorded
    have hrecorded : recorded = s.reported x.bay rep :=
      congrArg (fun v : State => v.modBay x.bay fun y => { y with latest := some ⟨rep, s.now⟩ }) (s.heard_credited x.bay)
    rw [hrecorded]
    exact ⟨_, rfl, State.handAllReady_shows _ _⟩
  · intro s b rep prev on se k st cr hse hst hcr se' fl grown settled flags holds t
    have hstage := State.stage_of_stageOf hst
    have ht : t = s.evaluateAt b rep prev on se k st cr := State.evaluate_eq hse hst hcr rep prev on
    obtain ⟨hserved, htotal, hpeak, hrise, hstage', hentry, hframes, hout⟩ := s.evaluated_clocks se st rep prev on
    have haway : t.away b = s.away b := State.evaluate_away _ _ _ _ _
    refine ⟨⟨hserved, htotal, hpeak, hrise, hstage'.trans hstage, hentry, hframes, hout⟩,
      s.evaluationFlags_iff b se' st cr rep, fun e => ?_, s.limitReached_iff se', fun hl => ?_, fun hl e he => ?_,
      fun hl he => ?_⟩
    · simp only [Stage.exitTaken_iff, Exit.holds_iff]
      rfl
    · have h : s.evaluateAt b rep prev on se k st cr =
          (s.enterEvaluation b se se' st cr rep prev fl).latch b .timeout [] none none false := by
        simp only [State.evaluateAt]
        exact if_pos hl
      rw [ht, h]
      exact State.evaluateAt_timeout se' (hstage'.trans hstage) prev rep fl
    · have h : s.evaluateAt b rep prev on se k st cr =
          ((s.enterEvaluation b se se' st cr rep prev fl).takeAction b se' k st e.action).handOff b
            (packTarget cr st rep.tm) (effectiveSetpoint se.warm st.iset) (evaluationRequest se st cr rep) := by
        simp only [State.evaluateAt]
        rw [if_neg (by rw [hl]; exact Bool.false_ne_true), he]
      rw [ht, h]
      exact State.handOff_shows _ _ _
    · obtain ⟨⟨h1, h2, h3, h4, h5, h6⟩, h7, h8⟩ := State.evaluateAt_goesOn (b := b) (cr := cr) hst rep prev on hl he
      rw [← ht] at h1 h2 h3 h4 h5 h6 h7 h8
      exact ⟨h1, h2, h3, h4, h5, h6, h7, h8, fun x hx => ⟨State.bay_of_away haway hx, State.grant_of_away haway hx⟩⟩

end Sys2Proof.Machine
end

section
/-! SUPPORT. The order of a pass and the walks of its phases over granted units (R97, R103): sums over lists of bays, what a
walk takes off a list's sum, and that it raises no grant. -/

namespace Sys2Proof.Machine

/-! ## Granted units and their sums -/

theorem Grants.set_get (g : Grants) (b x : BayNo) (v : Nat) : (g.set b v)[x] = if x = b then v else g[x] := by
  by_cases h : x = b
  · subst h
    simp
  · simp [h, Fin.val_inj, Ne.symm h]

/-- No grant of `g'` is above that of `g`. -/
def Grants.Below (g' g : Grants) : Prop := ∀ x : BayNo, g'[x] ≤ g[x]

theorem Grants.Below.refl (g : Grants) : Grants.Below g g := fun _ => Nat.le_refl _

theorem Grants.Below.trans {g g' g'' : Grants} (h : Grants.Below g'' g') (h' : Grants.Below g' g) : Grants.Below g'' g :=
  fun x => (h x).trans (h' x)

theorem Grants.set_below (g : Grants) (b : BayNo) {v : Nat} (h : v ≤ g[b]) : Grants.Below (g.set b v) g := fun x => by
  rw [Grants.set_get]
  split
  · next hx => exact hx ▸ h
  · exact Nat.le_refl _

theorem sumOver_cons (b : BayNo) (l : List BayNo) (f : BayNo → Nat) : sumOver (b :: l) f = f b + sumOver l f := by
  simp [sumOver]

theorem sumOver_mono {f f' : BayNo → Nat} (h : ∀ x, f x ≤ f' x) (l : List BayNo) : sumOver l f ≤ sumOver l f' :=
  List.sum_le_sum fun x _ => h x

theorem sumOver_congr {l : List BayNo} {f f' : BayNo → Nat} (h : ∀ x ∈ l, f x = f' x) : sumOver l f = sumOver l f' := by
  rw [sumOver, List.map_congr_left h, sumOver]

/-- A sum over a list is that over a part of it, where the other terms are 0. -/
theorem sumOver_eq_of_zero {l l' : List BayNo} {f : BayNo → Nat} (hl : l.Nodup) (hl' : l'.Nodup) (hsub : l' ⊆ l)
    (hzero : ∀ x ∈ l, x ∉ l' → f x = 0) : sumOver l f = sumOver l' f := by
  rw [sumOver, sumOver, ← List.sum_toFinset f hl, ← List.sum_toFinset f hl']
  refine (Finset.sum_subset (fun x hx => ?_) fun x hx hx' => ?_).symm
  · exact List.mem_toFinset.2 (hsub (List.mem_toFinset.1 hx))
  · exact hzero x (List.mem_toFinset.1 hx) fun h => hx' (List.mem_toFinset.2 h)

theorem Grants.Below.sum {g g' : Grants} (h : Grants.Below g' g) (l : List BayNo) : grantedSum l g' ≤ grantedSum l g :=
  sumOver_mono h l

/-- A grant outside a list does not count in its sum. -/
theorem grantedSum_set_of_not_mem {l : List BayNo} {b : BayNo} (h : b ∉ l) (g : Grants) (v : Nat) :
    grantedSum l (g.set b v) = grantedSum l g :=
  sumOver_congr fun x hx => (Grants.set_get g b x v).trans (if_neg fun hxb : x = b => h (hxb ▸ hx))

theorem grantedSum_set_of_mem {l : List BayNo} {b : BayNo} (hl : l.Nodup) (h : b ∈ l) (g : Grants) (v : Nat) :
    grantedSum l (g.set b v) + g[b] = grantedSum l g + v := by
  induction l with
  | nil => exact absurd h List.not_mem_nil
  | cons x l ih =>
    obtain ⟨hx, hl⟩ := List.nodup_cons.1 hl
    simp only [grantedSum, sumOver_cons, Grants.set_get] at ih ⊢
    by_cases hxb : x = b
    · subst hxb
      have := grantedSum_set_of_not_mem hx g v
      simp only [grantedSum, Grants.set_get] at this
      rw [if_pos rfl, this]
      omega
    · have := ih hl ((List.mem_cons.1 h).resolve_left fun h' => hxb h'.symm)
      rw [if_neg hxb]
      omega

/-! ## The walks -/

theorem cutToFloor_below (floor : BayNo → Nat) (l : List BayNo) (e : Nat) (g : Grants) :
    Grants.Below (cutToFloor floor l e g).1 g := by
  induction l generalizing e g with
  | nil => exact .refl g
  | cons b l ih => exact (ih _ _).trans (Grants.set_below g b (Nat.sub_le _ _))

theorem cutToZero_below (l : List BayNo) (e : Nat) (g : Grants) : Grants.Below (cutToZero l e g) g := by
  induction l generalizing e g with
  | nil => exact .refl g
  | cons b l ih =>
    rw [cutToZero]
    split
    · exact .refl g
    · exact (ih _ _).trans (Grants.set_below g b (Nat.zero_le _))

theorem cutWalks_below (floor : BayNo → Nat) (l : List BayNo) (e : Nat) (g : Grants) :
    Grants.Below (cutWalks floor l e g) g := (cutToZero_below _ _ _).trans (cutToFloor_below _ _ _ _)

/-- A to-floor walk leaves the bays outside its list. -/
theorem cutToFloor_of_not_mem (floor : BayNo → Nat) {l : List BayNo} {x : BayNo} (hx : x ∉ l) (e : Nat) (g : Grants) :
    (cutToFloor floor l e g).1[x] = g[x] := by
  induction l generalizing e g with
  | nil => rfl
  | cons b l ih =>
    obtain ⟨hb, hl⟩ := not_or.1 fun h => hx (List.mem_cons.2 h)
    rw [cutToFloor, ih hl, Grants.set_get, if_neg hb]

theorem cutToZero_of_not_mem {l : List BayNo} {x : BayNo} (hx : x ∉ l) (e : Nat) (g : Grants) :
    (cutToZero l e g)[x] = g[x] := by
  induction l generalizing e g with
  | nil => rfl
  | cons b l ih =>
    obtain ⟨hb, hl⟩ := not_or.1 fun h => hx (List.mem_cons.2 h)
    rw [cutToZero]
    split
    · rfl
    · rw [ih hl, Grants.set_get, if_neg hb]

/-- What a to-floor walk takes off the sum it takes off the excess (R103). -/
theorem cutToFloor_sum (floor : BayNo → Nat) {l : List BayNo} (hl : l.Nodup) (e : Nat) (g : Grants) :
    grantedSum l (cutToFloor floor l e g).1 + e = grantedSum l g + (cutToFloor floor l e g).2 := by
  induction l generalizing e g with
  | nil => simp [cutToFloor, grantedSum, sumOver]
  | cons b l ih =>
    obtain ⟨hb, hl⟩ := List.nodup_cons.1 hl
    have hrest := ih hl (e - min (g[b] - floor b) e) (g.set b (g[b] - min (g[b] - floor b) e))
    have hhead := cutToFloor_of_not_mem floor hb (e - min (g[b] - floor b) e) (g.set b (g[b] - min (g[b] - floor b) e))
    rw [grantedSum_set_of_not_mem hb] at hrest
    rw [Grants.set_get, if_pos rfl] at hhead
    rw [cutToFloor]
    simp only [grantedSum, sumOver_cons] at hrest ⊢
    rw [hhead]
    omega

/-- A to-zero walk takes the excess off the sum, or the whole sum (R103). -/
theorem cutToZero_sum {l : List BayNo} (hl : l.Nodup) (e : Nat) (g : Grants) :
    grantedSum l (cutToZero l e g) ≤ grantedSum l g - e := by
  induction l generalizing e g with
  | nil => simp [cutToZero, grantedSum, sumOver]
  | cons b l ih =>
    obtain ⟨hb, hl⟩ := List.nodup_cons.1 hl
    rw [cutToZero]
    split
    · next h => rw [h, Nat.sub_zero]
    · have hrest := ih hl (e - g[b]) (g.set b 0)
      have hhead := cutToZero_of_not_mem hb (e - g[b]) (g.set b 0)
      rw [grantedSum_set_of_not_mem hb] at hrest
      rw [Grants.set_get, if_pos rfl] at hhead
      simp only [grantedSum, sumOver_cons] at hrest ⊢
      rw [hhead]
      omega

/-- The two walks bring the sum down by the excess (R103). -/
theorem cutWalks_sum (floor : BayNo → Nat) {l : List BayNo} (hl : l.Nodup) (e : Nat) (g : Grants) :
    grantedSum l (cutWalks floor l e g) ≤ grantedSum l g - e := by
  have h1 := cutToFloor_sum floor hl e g
  have h2 := cutToZero_sum hl (cutToFloor floor l e g).2 (cutToFloor floor l e g).1
  rw [cutWalks]
  omega

section
variable (s : State)

theorem State.preemptFloor_below (f : FeederNo) (l : List BayNo) (q : Nat × Nat) (g : Grants) :
    Grants.Below (s.preemptFloor f l q g).1 g := by
  induction l generalizing q g with
  | nil => exact .refl g
  | cons b l ih => exact (ih _ _).trans (Grants.set_below g b (Nat.sub_le _ _))

theorem State.preemptZero_below (f : FeederNo) (l : List BayNo) (q : Nat × Nat) (g : Grants) :
    Grants.Below (s.preemptZero f l q g) g := by
  induction l generalizing q g with
  | nil => exact .refl g
  | cons b l ih =>
    rw [State.preemptZero]
    split
    · exact ih _ _
    · exact (ih _ _).trans (Grants.set_below g b (Nat.zero_le _))

/-! ## The order of a pass -/

variable {s}

theorem State.mem_levelOrder (h : s.QueuesAgree) {l : LevelNo} {b : BayNo} :
    b ∈ s.levelOrder l ↔ (s.grant b).level = l ∧ 0 < (s.grant b).request := by
  rw [State.levelOrder, List.mem_filter, decide_eq_true_iff, and_iff_right_iff_imp]
  rintro ⟨hlevel, hrequest⟩
  split
  · exact mem_allBays b
  · exact ((h l).2 b).2 ⟨hlevel, Nat.pos_iff_ne_zero.1 hrequest⟩

theorem State.levelOrder_nodup (h : s.QueuesAgree) (l : LevelNo) : (s.levelOrder l).Nodup := by
  rw [State.levelOrder]
  refine List.Nodup.filter _ ?_
  split
  · exact List.nodup_finRange 24
  · exact (h l).1

/-- The order holds every bay with a request above 0 (R97). -/
theorem State.mem_order (h : s.QueuesAgree) {b : BayNo} : b ∈ s.order ↔ 0 < (s.grant b).request := by
  simp only [State.order, List.mem_append, State.mem_levelOrder h, ← or_and_right, and_iff_right_iff_imp]
  intro _
  generalize (s.grant b).level = l
  revert l
  decide

/-- The order holds no bay twice (R97). -/
theorem State.order_nodup (h : s.QueuesAgree) : s.order.Nodup := by
  have apart : ∀ {l m : LevelNo}, l ≠ m → ∀ b ∈ s.levelOrder l, b ∉ s.levelOrder m := fun hne b hl hm =>
    hne (((State.mem_levelOrder h).1 hl).1.symm.trans ((State.mem_levelOrder h).1 hm).1)
  have join : ∀ {l m : List BayNo}, l.Nodup → m.Nodup → (∀ b ∈ l, b ∉ m) → (l ++ m).Nodup := fun hl hm hlm =>
    List.nodup_append'.2 ⟨hl, hm, fun b hb hb' => hlm b hb hb'⟩
  refine join (join (join (s.levelOrder_nodup h 3) (s.levelOrder_nodup h 2) (apart (by decide)))
    (s.levelOrder_nodup h 1) fun b hb => ?_) (s.levelOrder_nodup h 0) fun b hb => ?_
  · rcases List.mem_append.1 hb with hb | hb
    · exact apart (by decide) b hb
    · exact apart (by decide) b hb
  · rcases List.mem_append.1 hb with hb | hb
    · rcases List.mem_append.1 hb with hb | hb
      · exact apart (by decide) b hb
      · exact apart (by decide) b hb
    · exact apart (by decide) b hb

end

end Sys2Proof.Machine
end

section
/-! SUPPORT. A pass obeys the caps (R102 to R106): each phase, and what a pass makes of grants and turns. -/

namespace Sys2Proof.Machine

section
variable {s : State}

/-! ## Grants within requests and caps -/

/-- No grant is above its request, and none is given to a bay without a feeder (R103). -/
def State.Bounded (s : State) (g : Grants) : Prop :=
  ∀ b : BayNo, g[b] ≤ (s.grant b).request ∧ (s.feeder b = none → g[b] = 0)

/-- Bounded grants whose sums lie within the caps (R106, laws 1 and 3). -/
structure State.Allowed (s : State) (g : Grants) : Prop where
  bounded : s.Bounded g
  site : grantedSum allBays g ≤ s.effectiveCap
  feeders : ∀ f : FeederNo, grantedSum (s.feederBays f) g ≤ s.feederCap f

theorem State.Bounded.below {g g' : Grants} (h : s.Bounded g) (hb : Grants.Below g' g) : s.Bounded g' :=
  fun b => ⟨(hb b).trans (h b).1, fun hf => Nat.le_zero.1 ((hb b).trans (Nat.le_of_eq ((h b).2 hf)))⟩

theorem State.Allowed.below {g g' : Grants} (h : s.Allowed g) (hb : Grants.Below g' g) : s.Allowed g' :=
  ⟨h.bounded.below hb, (hb.sum _).trans h.site, fun f => (hb.sum _).trans (h.feeders f)⟩

theorem State.mem_feederBays {f : FeederNo} {b : BayNo} : b ∈ s.feederBays f ↔ s.feeder b = some f := by
  simp [State.feederBays, mem_allBays]

theorem State.feederBays_nodup (f : FeederNo) : (s.feederBays f).Nodup := (List.nodup_finRange 24).filter _

/-! ## Keep and cut -/

theorem State.keep_bounded (g : Grants) : s.Bounded (s.keep g) := fun b => by
  have h : (s.keep g)[b] = if (s.feeder b).isNone then 0 else min g[b] (s.grant b).request := by simp [State.keep]
  rw [h]
  refine ⟨?_, fun hf => if_pos (by rw [hf]; rfl)⟩
  split
  · exact Nat.zero_le _
  · exact Nat.min_le_right _ _

/-- Bounded grants outside a pass's order are 0. -/
theorem State.Bounded.zero {g : Grants} (h : s.Bounded g) (hq : s.QueuesAgree) {b : BayNo} (hb : b ∉ s.order) :
    g[b] = 0 := by
  have hr : (s.grant b).request = 0 := Nat.eq_zero_of_not_pos fun hp => hb ((State.mem_order hq).2 hp)
  exact Nat.le_zero.1 (hr ▸ (h b).1)

/-- The walks over an order bring a sum within a cap where the bays of the sum outside the order have no grant. -/
theorem cutWalks_within (floor : BayNo → Nat) {l l' : List BayNo} (hl : l.Nodup) (hl' : l'.Nodup) (hsub : l' ⊆ l)
    {g : Grants} (hzero : ∀ x ∈ l, x ∉ l' → g[x] = 0) (cap : Nat) :
    grantedSum l (cutWalks floor l'.reverse (grantedSum l g - cap) g) ≤ cap := by
  have hrev : ∀ g' : Grants, grantedSum l'.reverse g' = grantedSum l' g' := fun g' => by
    simp [grantedSum, sumOver, List.sum_reverse]
  have hbelow := cutWalks_below floor l'.reverse (grantedSum l g - cap) g
  have hsum := cutWalks_sum floor (List.nodup_reverse.2 hl') (grantedSum l g - cap) g
  have hall : grantedSum l g = grantedSum l' g := sumOver_eq_of_zero hl hl' hsub hzero
  have hcut : grantedSum l (cutWalks floor l'.reverse (grantedSum l g - cap) g) =
      grantedSum l' (cutWalks floor l'.reverse (grantedSum l g - cap) g) :=
    sumOver_eq_of_zero hl hl' hsub fun x hx hx' => Nat.le_zero.1 (hzero x hx hx' ▸ hbelow x)
  rw [hrev, hrev] at hsum
  rw [hcut]
  omega

theorem State.cutSite_within {g : Grants} (hq : s.QueuesAgree) (h : s.Bounded g) :
    grantedSum allBays (s.cutSite g) ≤ s.effectiveCap :=
  cutWalks_within s.floorAt (List.nodup_finRange 24) (State.order_nodup hq) (fun b _ => mem_allBays b)
    (fun _ _ hx => h.zero hq hx) _

theorem State.cutFeeder_below (g : Grants) (f : FeederNo) : Grants.Below (s.cutFeeder g f) g := cutWalks_below _ _ _ _

theorem State.cutFeeder_within {g : Grants} (hq : s.QueuesAgree) (h : s.Bounded g) (f : FeederNo) :
    grantedSum (s.feederBays f) (s.cutFeeder g f) ≤ s.feederCap f := by
  refine cutWalks_within s.floorAt (State.feederBays_nodup f) ((State.order_nodup hq).filter _) (fun b hb => ?_)
    (fun b hb hb' => h.zero hq fun ho => hb' ?_) _
  · exact State.mem_feederBays.2 (of_decide_eq_true (List.mem_filter.1 hb).2)
  · exact List.mem_filter.2 ⟨ho, decide_eq_true (State.mem_feederBays.1 hb)⟩

/-- The cuts to the feeders of a list: grants only fall, and each of these feeders is within its cap. -/
theorem State.foldl_cutFeeder (hq : s.QueuesAgree) (l : List FeederNo) {g : Grants} (h : s.Bounded g) :
    Grants.Below (l.foldl s.cutFeeder g) g ∧
      ∀ f ∈ l, grantedSum (s.feederBays f) (l.foldl s.cutFeeder g) ≤ s.feederCap f := by
  induction l generalizing g with
  | nil => exact ⟨.refl g, fun f hf => absurd hf List.not_mem_nil⟩
  | cons f l ih =>
    obtain ⟨hbelow, hwithin⟩ := ih (h.below (s.cutFeeder_below g f))
    refine ⟨hbelow.trans (s.cutFeeder_below g f), fun f' hf' => ?_⟩
    rcases List.mem_cons.1 hf' with rfl | hf'
    · exact (hbelow.sum _).trans (State.cutFeeder_within hq h f')
    · exact hwithin f' hf'

/-- After keep and cut the grants are allowed (R103). -/
theorem State.afterCut_allowed (hq : s.QueuesAgree) : s.Allowed s.afterCut := by
  have hkeep := s.keep_bounded s.grantedUnits
  have hsite : Grants.Below (s.cutSite (s.keep s.grantedUnits)) (s.keep s.grantedUnits) := cutWalks_below _ _ _ _
  obtain ⟨hbelow, hwithin⟩ := State.foldl_cutFeeder hq allFeeders (hkeep.below hsite)
  exact ⟨hkeep.below (hbelow.trans hsite), (hbelow.sum _).trans (State.cutSite_within hq hkeep),
    fun f => hwithin f (List.mem_finRange f)⟩

/-! ## Fill and preempt -/

/-- A commitment total is at least the granted sum (R101). -/
theorem State.grantedSum_le_committed (g : Grants) (l : List BayNo) : grantedSum l g ≤ s.committed g l :=
  sumOver_mono (fun _ => Nat.le_max_left _ _) l

/-- A raise within the headroom is allowed (R104). -/
theorem State.Allowed.raised {r : Reserved} (h : s.Allowed r.g) {b : BayNo} {f : FeederNo} (hf : s.feeder b = some f)
    {v : Nat} (hv : v ≤ (s.grant b).request) (hroom : v ≤ r.g[b] + s.headroom r f) (hpos : 0 < s.headroom r f) :
    s.Allowed (r.g.set b v) := by
  have hsite := s.grantedSum_le_committed r.g allBays
  have hfeeder := s.grantedSum_le_committed r.g (s.feederBays f)
  have hset := grantedSum_set_of_mem (l := allBays) (List.nodup_finRange 24) (mem_allBays b) r.g v
  have hset' := grantedSum_set_of_mem (State.feederBays_nodup f) (State.mem_feederBays.2 hf) r.g v
  simp only [State.headroom] at hroom hpos
  refine ⟨fun x => ?_, ?_, fun f' => ?_⟩
  · rw [Grants.set_get]
    split
    · next hx =>
      subst hx
      exact ⟨hv, fun hn => by rw [hf] at hn; cases hn⟩
    · exact h.bounded x
  · omega
  · by_cases hff : f' = f
    · subst hff
      omega
    · rw [grantedSum_set_of_not_mem]
      · exact h.feeders f'
      · exact fun hb => hff (Option.some.inj ((State.mem_feederBays.1 hb).symm.trans hf))

theorem State.Allowed.fillBay {r : Reserved} (h : s.Allowed r.g) (b : BayNo) : s.Allowed (s.fillBay r b).g := by
  unfold State.fillBay
  split
  · exact h
  · next f hf =>
    have hset : s.Allowed (r.g.set b (s.filled r b f)) := by
      simp only [State.filled]
      split
      · next hroom => exact h.raised hf (Nat.min_le_left _ _) (Nat.min_le_right _ _) hroom.2.1
      · exact h.below (Grants.set_below r.g b (Nat.le_refl _))
    dsimp only
    split <;> exact hset

theorem State.Allowed.fill {g : Grants} (h : s.Allowed g) : s.Allowed (s.fill g) := by
  have walk : ∀ (l : List BayNo) (r : Reserved), s.Allowed r.g → s.Allowed (l.foldl s.fillBay r).g := by
    intro l
    induction l with
    | nil => exact fun _ hr => hr
    | cons b l ih => exact fun r hr => ih _ (hr.fillBay b)
  unfold State.fill
  split
  · exact h
  · exact walk _ _ h

theorem State.preemptBay_below (r : Reserved) (u : BayNo) : Grants.Below (s.preemptBay r u).g r.g := by
  simp only [State.preemptBay]
  split
  · exact .refl _
  · split
    · exact .refl _
    · split
      · exact .refl _
      · split
        · exact (s.preemptZero_below _ _ _ _).trans (s.preemptFloor_below _ _ _ _)
        · exact .refl _

theorem State.preempt_below (g : Grants) : Grants.Below (s.preempt g) g := by
  have walk : ∀ (l : List BayNo) (r : Reserved), Grants.Below (l.foldl s.preemptBay r).g r.g := by
    intro l
    induction l with
    | nil => exact fun r => .refl r.g
    | cons b l ih => exact fun r => (ih _).trans (s.preemptBay_below r b)
  exact walk _ _

/-- At the end of a pass the grants are allowed (R106). -/
theorem State.afterPass_allowed (hq : s.QueuesAgree) : s.Allowed s.afterPass :=
  (State.afterCut_allowed hq).fill.below (s.preempt_below _)

/-! ## The grant table after a pass -/

theorem State.pass_granted (b : BayNo) : (s.pass.grant b).granted = s.afterPass[b] := by rw [State.pass_grant]; rfl

/-- Caps, feeders, requests, levels and queues follow from the narrower outline. -/
theorem State.caps_of_passOutline {t : State} (h : t.passOutline = s.passOutline) :
    t.effectiveCap = s.effectiveCap ∧ (∀ f, t.feederCap f = s.feederCap f) ∧ (∀ b, t.feeder b = s.feeder b) ∧
      (∀ b, (t.grant b).request = (s.grant b).request) ∧ (∀ b, (t.grant b).level = (s.grant b).level) ∧
      ∀ l, t.queueAt l = s.queueAt l := by
  have hcap : ∀ u : State, u.passOutline.effectiveCap = u.effectiveCap := fun u => by
    simp only [State.effectiveCap, State.passOutline]
  have hfeeder : ∀ (u : State) f, u.passOutline.feederCap f = u.feederCap f := fun u f => by
    simp only [State.feederCap, State.passOutline]
  have hqueue : ∀ (u : State) l, u.passOutline.queueAt l = u.queueAt l := fun u l => by
    simp only [State.queueAt, State.passOutline]
  refine ⟨?_, fun f => ?_, fun b => ?_, fun b => ?_, fun b => ?_, fun l => ?_⟩
  · rw [← hcap t, h, hcap s]
  · rw [← hfeeder t, h, hfeeder s]
  · exact (congrArg (fun y : Bay => y.cfg.feeder) (State.bay_outline_of_passOutline h b) :)
  · exact (congrArg Grant.request (State.grant_passOutline_of_passOutline h b) :)
  · exact (congrArg Grant.level (State.grant_passOutline_of_passOutline h b) :)
  · rw [← hqueue t, h, hqueue s]

/-- A table whose granted units are allowed is lawful (R106). -/
theorem State.Allowed.grantsLawful {t : State} {g : Grants} (h : s.Allowed g) (hg : ∀ b, (t.grant b).granted = g[b])
    (hp : t.passOutline = s.passOutline) : t.GrantsLawful := by
  obtain ⟨hcap, hfeederCap, hfeeder, hrequest, -⟩ := State.caps_of_passOutline hp
  have hsum : ∀ l, grantedSum l t.grantedUnits = grantedSum l g := fun l =>
    sumOver_congr fun b _ => (by simp [State.grantedUnits] : t.grantedUnits[b] = (t.grant b).granted).trans (hg b)
  have hbays : ∀ f, t.feederBays f = s.feederBays f := fun f => by simp only [State.feederBays, hfeeder]
  refine ⟨?_, fun f => ?_, fun b => ?_⟩
  · rw [hsum, hcap]
    exact h.site
  · rw [hsum, hbays, hfeederCap]
    exact h.feeders f
  · rw [hg, hrequest, hfeeder]
    exact h.bounded b

/-- A pass leaves lawful grants (R106). -/
theorem State.pass_grantsLawful (hq : s.QueuesAgree) : s.pass.GrantsLawful :=
  (State.afterPass_allowed hq).grantsLawful State.pass_granted s.pass_passOutline

/-- A turn that runs after a pass runs under TURN at a grant above 0 (R107). -/
theorem Grant.afterPass_turn {e : Grant} (h : e.turnExpiry.isSome = true → e.mode = .turn ∧ e.granted ≠ 0)
    (now cut filled final : Nat) (hturn : (e.afterPass now cut filled final).turnExpiry.isSome = true) :
    e.mode = .turn ∧ final ≠ 0 := by
  simp only [Grant.afterPass] at hturn
  split at hturn
  · simp at hturn
  · next hfinal =>
    refine ⟨?_, hfinal⟩
    split at hturn
    · split at hturn
      · next hmode => exact hmode
      · simp at hturn
    · split at hturn
      · simp at hturn
      · exact (h hturn).1

theorem State.pass_turnsOk (h : s.TurnsOk) : s.pass.TurnsOk := fun b => by
  rw [State.pass_grant]
  exact ⟨(h b).1, fun hturn => Grant.afterPass_turn (h b).2 _ _ _ _ hturn⟩

/-- Agreement of queues and entries follows from requests, levels and queues (R98). -/
theorem State.QueuesAgree.congr {t : State} (h : s.QueuesAgree) (hr : ∀ b, (t.grant b).request = (s.grant b).request)
    (hl : ∀ b, (t.grant b).level = (s.grant b).level) (hq : ∀ l, t.queueAt l = s.queueAt l) : t.QueuesAgree := fun l => by
  change (t.queueAt l).Nodup ∧ ∀ b, b ∈ t.queueAt l ↔ _
  rw [hq]
  simp only [hr, hl]
  exact h l

theorem State.pass_queuesAgree (h : s.QueuesAgree) : s.pass.QueuesAgree := by
  obtain ⟨-, -, -, hr, hl, hq⟩ := State.caps_of_passOutline s.pass_passOutline
  exact h.congr hr hl hq

/-- A pass sets up the grant table's invariant from queues and turns (R98, R106, R107). -/
theorem State.pass_grantTableOk (hq : s.QueuesAgree) (ht : s.TurnsOk) : s.pass.GrantTableOk :=
  ⟨State.pass_queuesAgree hq, State.pass_grantsLawful hq, State.pass_turnsOk ht⟩

/-! ## Levels -/

theorem State.enterLevel_grant (b x : BayNo) (l : LevelNo) :
    (s.enterLevel b l).grant x = if x = b then { s.grant b with level := l } else s.grant x := by
  have hset : (s.modGrant b fun e => { e with level := l }).grant x =
      if x = b then { s.grant b with level := l } else s.grant x := State.modGrant_grant _ _ _ _
  simp only [State.enterLevel]
  split
  · exact hset
  · exact hset

/-- A bay with a request goes from the queue of its level to the tail of the new one (R96, R98). -/
theorem State.enterLevel_queueAt (h : s.QueuesAgree) {b : BayNo} (hr : (s.grant b).request ≠ 0) (l m : LevelNo) :
    (s.enterLevel b l).queueAt m =
      ((s.queueAt m).filter fun x => decide (x ≠ b)) ++ if m = l then [b] else [] := by
  have hother : ∀ m, m ≠ (s.grant b).level → (s.queueAt m).filter (fun x => decide (x ≠ b)) = s.queueAt m :=
    fun m hm => List.filter_eq_self.2 fun x hx => decide_eq_true fun hxb =>
      hm (((h m).2 b).1 (hxb ▸ hx : b ∈ s.queueAt m)).1.symm
  have hleft : ∀ m, (if m = (s.grant b).level then
      (s.queueAt (s.grant b).level).filter (fun x => decide (x ≠ b)) else s.queueAt m) =
        (s.queueAt m).filter fun x => decide (x ≠ b) := fun m => by
    split
    · next hm => rw [hm]
    · next hm => rw [hother m hm]
  simp only [State.enterLevel, if_pos hr]
  rw [State.enqueue_queueAt, State.unqueue_queueAt, State.unqueue_queueAt]
  simp only [State.modGrant_queueAt, hleft]
  split
  · next hm => rw [hm]
  · rw [List.append_nil]

theorem State.enterLevel_queueAt_of_zero {b : BayNo} (hr : (s.grant b).request = 0) (l m : LevelNo) :
    (s.enterLevel b l).queueAt m = s.queueAt m := by
  simp only [State.enterLevel, hr]
  rfl

/-- A new level keeps queues and entries in agreement (R96, R98). -/
theorem State.enterLevel_queuesAgree (h : s.QueuesAgree) (b : BayNo) (l : LevelNo) : (s.enterLevel b l).QueuesAgree := by
  intro m
  change ((s.enterLevel b l).queueAt m).Nodup ∧ ∀ x, x ∈ (s.enterLevel b l).queueAt m ↔ _
  obtain ⟨hnodup, hmem⟩ := h m
  change (s.queueAt m).Nodup at hnodup
  change ∀ x, x ∈ s.queueAt m ↔ _ at hmem
  simp only [State.enterLevel_grant]
  by_cases hr : (s.grant b).request = 0
  · rw [State.enterLevel_queueAt_of_zero hr]
    refine ⟨hnodup, fun x => (hmem x).trans ?_⟩
    split
    · next hx => simp [hx, hr]
    · rfl
  · rw [State.enterLevel_queueAt h hr]
    refine ⟨List.nodup_append'.2 ⟨hnodup.filter _, ?_, ?_⟩, fun x => ?_⟩
    · split <;> simp
    · split <;> simp
    · by_cases hx : x = b
      · subst hx
        split
        · next hm => simp [hm, hr]
        · next hm => simp [Ne.symm hm]
      · rw [if_neg hx, ← hmem x]
        split <;> simp [hx]

/-- Recomputing a level keeps the grant table's invariant (R96, R98, R102). -/
theorem State.relevel_queuesAgree (h : s.QueuesAgree) (b : BayNo) : (s.relevel b).QueuesAgree := by
  unfold State.relevel
  split
  · exact h
  · exact State.pass_queuesAgree (State.enterLevel_queuesAgree h b _)

theorem State.enterLevel_turnsOk (h : s.TurnsOk) (b : BayNo) (l : LevelNo) : (s.enterLevel b l).TurnsOk := fun x => by
  rw [State.enterLevel_grant]
  split
  · next hx => exact hx ▸ h x
  · exact h x

theorem State.relevel_turnsOk (h : s.TurnsOk) (b : BayNo) : (s.relevel b).TurnsOk := by
  unfold State.relevel
  split
  · exact h
  · exact State.pass_turnsOk (State.enterLevel_turnsOk h b _)

/-- A recomputed level is that of R96, and the others stay. -/
theorem State.relevel_level (b x : BayNo) :
    ((s.relevel b).grant x).level = if x = b then s.levelOf b else (s.grant x).level := by
  unfold State.relevel
  split
  · next h =>
    split
    · next hx => rw [hx, h]
    · rfl
  · obtain ⟨-, -, -, -, hlevel, -⟩ := State.caps_of_passOutline (s.enterLevel b (s.levelOf b)).pass_passOutline
    rw [hlevel, State.enterLevel_grant]
    split <;> rfl

/-- The level of R96 follows from state, identity and base level of the bay, the packs and the shortages. -/
theorem State.levelOf_congr {t : State} {b : BayNo} (hst : (t.bay b).state = (s.bay b).state)
    (hid : (t.bay b).identity = (s.bay b).identity) (hbase : (t.bay b).cfg.baseLevel = (s.bay b).cfg.baseLevel)
    (hp : ∀ g, t.pack g = s.pack g) (hs : t.disp.short = s.disp.short) : t.levelOf b = s.levelOf b := by
  simp only [State.levelOf, hst, hid, hbase, hp, hs]

theorem State.pass_short : s.pass.disp.short = s.disp.short := by
  have h := s.pass_passOutline
  generalize s.pass = t at h ⊢
  exact (congrArg (fun u : State => u.disp.short) h :)

theorem State.relevel_short (b : BayNo) : (s.relevel b).disp.short = s.disp.short := by
  unfold State.relevel
  split
  · rfl
  · rw [State.pass_short]
    simp only [State.enterLevel]
    split <;> rfl

end

end Sys2Proof.Machine
end

section
/-! SUPPORT. A taken SET BAY (R26, R27, R96, R113): what it reads and refuses, and what the allocator does with a changed
feeder or base level, with the statement about SET BAY. -/

namespace Sys2Proof.Machine

/-! ## Reading and refusing -/

theorem yes_of_yes? {n : Nat} {v : Bool} (h : yes? n = some v) : yes v = u1 n := by
  unfold yes? at h
  split at h
  · cases h; rfl
  · cases h; rfl
  · cases h

theorem val_of_index? {k n : Nat} {i : Fin k} (h : index? k n = some i) : i.val = n := by
  unfold index? at h
  split at h
  · cases h; rfl
  · cases h

/-- The echo of a read configuration is its command's fields (R27). -/
theorem bytes_of_readBayCfg {a : BayArgs} {cfg : BayCfg} (h : readBayCfg a = some cfg) :
    cfg.bytes = [u1 a.feeder, u1 a.baseLevel, u1 a.defaultClass, u1 a.confirmMode, u1 a.masked] := by
  have hfeeder : ∀ f, readFeeder a.feeder = some f → u1? (f.map (·.val)) = u1 a.feeder := fun f hf => by
    unfold readFeeder at hf
    split at hf
    · next hn => cases hf; rw [hn]; rfl
    · obtain ⟨i, hi, rfl⟩ := Option.map_eq_some_iff.1 hf
      exact congrArg u1 (val_of_index? hi)
  have hlevel : ∀ l, readBaseLevel a.baseLevel = some l → u1 l.val = u1 a.baseLevel := fun l hl => by
    unfold readBaseLevel at hl
    split at hl
    · rw [val_of_index? hl]
    · cases hl
  unfold readBayCfg at h
  split at h
  · next f l c hf hl hc =>
    split at h
    · next man msk hman hmsk =>
      cases h
      simp only [BayCfg.bytes, hfeeder f hf, hlevel l hl, val_of_index? hc, yes_of_yes? hman, yes_of_yes? hmsk]
    · cases h
  · cases h

section
variable {s t : State} {b : BayNo} {cfg : BayCfg}

/-- A change that none of the conditions of R27 stands against is not refused. -/
theorem State.refuseCfg_eq_none
    (hsession : (s.bay b).inSession = true → cfg.feeder = (s.bay b).cfg.feeder ∧ cfg.masked = (s.bay b).cfg.masked)
    (hclass : (s.bay b).holdsAnonymous = true → cfg.defaultClass = (s.bay b).cfg.defaultClass)
    (hmask : cfg.masked = true → (s.bay b).cfg.masked = false → (s.bay b).state ≠ .release)
    (hunmask : cfg.masked = false → (s.bay b).cfg.masked = true → (s.bay b).state = .masked) :
    s.refuseCfg b cfg = none := by
  simp only [State.refuseCfg]
  rw [if_neg, if_neg, if_neg, if_neg]
  · exact fun ⟨hnew, hold, hst⟩ => hst (hunmask hnew hold)
  · exact fun ⟨hnew, hold, hst⟩ => hmask hnew hold hst
  · exact fun ⟨ha, hne⟩ => hne (hclass ha)
  · rintro ⟨hin, hne | hne⟩
    · exact hne (hsession hin).1
    · exact hne (hsession hin).2

theorem takeSetBay_taken {a : BayArgs} (hread : readBayCfg a = some cfg) (h : s.refuseCfg b cfg = none) :
    takeSetBay b.val a s = .taken (s.applyCfg b cfg)
      [u1 a.feeder, u1 a.baseLevel, u1 a.defaultClass, u1 a.confirmMode, u1 a.masked] := by
  simp only [takeSetBay, index?_val, hread, h, bytes_of_readBayCfg hread]

/-! ## The allocator's part -/

theorem State.applyFeeder_outline (old new : BayCfg) : (s.applyFeeder b old new).outline = s.outline := by
  unfold State.applyFeeder
  split
  · rw [State.pass_outline, State.relevel_outline]
  · rfl

theorem State.Rests.applyFeeder {x : BayNo} (h : s.Rests x) (b : BayNo) (old new : BayCfg) :
    (s.applyFeeder b old new).Rests x := by
  unfold State.applyFeeder
  split
  · exact (h.relevel b).pass
  · exact h

theorem State.applyFeeder_keepsDrives (old new : BayCfg) : s.KeepsDrives [] (s.applyFeeder b old new) := by
  unfold State.applyFeeder
  split
  · exact ((State.KeepsDrives.refl s).relevel b).pass
  · exact .refl s

/-- What a changed feeder or base level leaves: the grant table's invariant, and the level of R96 at its bay alone. -/
theorem State.applyFeeder_changed {old new : BayCfg} (h : new.feeder ≠ old.feeder ∨ new.baseLevel ≠ old.baseLevel)
    (hq : s.QueuesAgree) (ht : s.TurnsOk) :
    (s.applyFeeder b old new).GrantTableOk ∧
      ((s.applyFeeder b old new).grant b).level = (s.applyFeeder b old new).levelOf b ∧
      ∀ x, x ≠ b → ((s.applyFeeder b old new).grant x).level = (s.grant x).level := by
  have heq : s.applyFeeder b old new = (s.relevel b).pass := if_pos h
  rw [heq]
  obtain ⟨-, -, -, -, hlevel, -⟩ := State.caps_of_passOutline (s.relevel b).pass_passOutline
  refine ⟨State.pass_grantTableOk (State.relevel_queuesAgree hq b) (State.relevel_turnsOk ht b), ?_, fun x hx => ?_⟩
  · have hout : (s.relevel b).pass.outline = s.outline := by rw [State.pass_outline, State.relevel_outline]
    have hbay := State.bay_outline_of_outline hout b
    have hpack : ∀ g, (s.relevel b).pass.pack g = s.pack g := State.pack_of_ledger (State.ledger_of_outline hout)
    have hshort : (s.relevel b).pass.disp.short = s.disp.short := State.pass_short.trans (State.relevel_short b)
    rw [hlevel, State.relevel_level, if_pos rfl]
    generalize (s.relevel b).pass = v at hbay hpack hshort
    exact (State.levelOf_congr (congrArg Bay.state hbay :) (congrArg Bay.identity hbay :)
      (congrArg (fun y : Bay => y.cfg.baseLevel) hbay :) hpack hshort).symm
  · rw [hlevel, State.relevel_level, if_neg hx]

/-- Lawful grants stay so in a state with the same allocator and feeders. -/
theorem State.GrantTableOk.congr (h : s.GrantTableOk) (halloc : t.alloc = s.alloc) (hf : ∀ x, t.feeder x = s.feeder x) :
    t.GrantTableOk := by
  have hgrant : ∀ x, t.grant x = s.grant x := fun x => by rw [State.grant, halloc, State.grant]
  have hunits : t.grantedUnits = s.grantedUnits := by simp only [State.grantedUnits, hgrant]
  have hcap : t.effectiveCap = s.effectiveCap := by simp only [State.effectiveCap, halloc]
  have hcaps : ∀ f, t.feederCap f = s.feederCap f := fun f => by simp only [State.feederCap, halloc]
  have hbays : ∀ f, t.feederBays f = s.feederBays f := fun f => by simp only [State.feederBays, hf]
  obtain ⟨hq, hl, ht⟩ := h
  refine ⟨hq.congr (fun x => by rw [hgrant]) (fun x => by rw [hgrant]) (State.queueAt_of_alloc halloc), ?_, fun x => ?_⟩
  · simp only [State.GrantsLawful, hunits, hcap, hcaps, hbays, hgrant, hf]
    exact hl
  · rw [hgrant]
    exact ht x

/-! ## The change of a configuration -/

/-- The sequencer under a new configuration, with its write. -/
theorem State.setCfg_outline : (s.settle.setCfg b cfg).outline = (({ s.settle with inFlight := [.bayCfg b cfg] } : State).modBay b
    fun y => { y with cfg := cfg }).outline := rfl

/-- A bay out of service after its feeder is handed to the allocator. -/
theorem State.MaskedOut.applyFeeder (h : s.MaskedOut b cfg t) (hr : t.Rests b) (old new : BayCfg) :
    s.MaskedOut b cfg (t.applyFeeder b old new) := by
  have hout := t.applyFeeder_outline (b := b) old new
  have hrests := hr.applyFeeder b old new
  have hkeep := t.applyFeeder_keepsDrives (b := b) old new
  generalize t.applyFeeder b old new = v at hout hrests hkeep
  have hseat : ∀ x, v.seat x = t.seat x := fun x => State.seat_of_outline hout x
  have hledger := State.ledger_of_outline hout
  have haway := State.away_of_outline hout b
  have hbay := fun x => State.bay_outline_of_outline hout x
  have hline : ∀ x, v.line x = t.line x := fun x => by rw [State.line, State.lines_of_away haway, State.line]
  have hstate : (v.bay b).state = .masked := (State.state_of_seat (hseat b)).trans h.state
  refine ⟨hstate, (State.session_of_seat (hseat b)).trans h.session, (congrArg Bay.identity (hbay b) :).trans h.identity,
    (congrArg Bay.cfg (hbay b) :).trans h.config, (State.inFlight_of_ledger hledger).trans h.inFlight, ?_,
    (State.request_of_seat (hseat b)).trans h.request, (State.fault_of_seat (hseat b)).trans h.fault,
    hkeep.prompt.subset h.prompt, ?_, (State.register_of_ledger hledger).trans h.register,
    (State.issues_of_ledger hledger).trans h.issues, (State.reservations_of_away haway).trans h.reservations,
    fun x hx => ?_⟩
  · rw [hrests.drive (y := v.bay b) rfl, driveOf]
    simp [hstate]
  · rw [hline]
    exact h.finalPending
  · obtain ⟨h1, h2, h3, h4⟩ := h.away x hx
    exact ⟨(hbay x).trans h1, (State.faultRec_of_outline hout x).trans h2, (hline x).trans h3,
      (State.grant_outline_of_outline hout x).trans h4⟩

/-- The allocator after a change of a configuration with masked as it was (R26, R27, R96, R113). -/
theorem State.setCfg_applyFeeder (hok : s.GrantTableOk) :
    let t := (s.settle.setCfg b cfg).applyFeeder b (s.bay b).cfg cfg
    t.GrantTableOk ∧ (cfg.baseLevel ≠ (s.bay b).cfg.baseLevel → (t.grant b).level = t.levelOf b) ∧
      ((s.grant b).level = s.levelOf b → (t.grant b).level = t.levelOf b) ∧
      ∀ x, x ≠ b → (t.grant x).level = (s.grant x).level := by
  intro t
  have halloc : (s.settle.setCfg b cfg).alloc = s.alloc := rfl
  have hgrant : ∀ x, (s.settle.setCfg b cfg).grant x = s.grant x := fun x => by rw [State.grant, halloc, State.grant]
  have hbay : (s.settle.setCfg b cfg).bay b = { s.bay b with cfg := cfg } :=
    (s.settle.modBay_bay b b fun y => { y with cfg := cfg }).trans (if_pos rfl)
  have hother : ∀ x, x ≠ b → (s.settle.setCfg b cfg).bay x = s.bay x := fun x hx =>
    (s.settle.modBay_bay b x fun y => { y with cfg := cfg }).trans (if_neg hx)
  by_cases h : cfg.feeder ≠ (s.bay b).cfg.feeder ∨ cfg.baseLevel ≠ (s.bay b).cfg.baseLevel
  · have hq : (s.settle.setCfg b cfg).QueuesAgree :=
      hok.1.congr (fun x => by rw [hgrant]) (fun x => by rw [hgrant]) (State.queueAt_of_alloc halloc)
    have hturns : (s.settle.setCfg b cfg).TurnsOk := fun x => by
      rw [hgrant]
      exact hok.2.2 x
    obtain ⟨htable, hlevel, hrest⟩ := State.applyFeeder_changed (b := b) h hq hturns
    exact ⟨htable, fun _ => hlevel, fun _ => hlevel, fun x hx => (hrest x hx).trans (congrArg Grant.level (hgrant x))⟩
  · have ht : t = s.settle.setCfg b cfg := if_neg h
    obtain ⟨hfeeder, hbase⟩ := not_or.1 h
    rw [ne_eq, not_not] at hfeeder hbase
    rw [ht]
    refine ⟨State.GrantTableOk.congr hok halloc fun x => ?_, fun hne => absurd hbase hne, fun hlevel => ?_, fun x _ => ?_⟩
    · by_cases hx : x = b
      · rw [hx, State.feeder, hbay, State.feeder]
        exact hfeeder
      · rw [State.feeder, hother x hx, State.feeder]
    · rw [hgrant, hlevel]
      have hpack : ∀ g, (s.settle.setCfg b cfg).pack g = s.pack g := fun _ => rfl
      refine (State.levelOf_congr ?_ ?_ ?_ hpack rfl).symm
      · rw [hbay]
      · rw [hbay]
      · rw [hbay]
        exact hbase
    · rw [hgrant]

end

/-- Settles O29: the configuration is entered, and each case of `masked` goes by its own lemma. -/
theorem setBayReplacesItsConfiguration : Obligations.SetBayReplacesItsConfiguration := by
  intro s b a cfg hacc hread hclass echo
  refine ⟨fun hok hmasked hfeeder => ?_, fun hok hin hrel hnew hold => ?_, fun hst hnew hold => ?_⟩
  · have htaken := takeSetBay_taken (s := s.settle) (b := b) hread (State.refuseCfg_eq_none
      (fun hin => ⟨hfeeder hin, hmasked⟩) hclass (fun h h' => absurd (h.symm.trans (hmasked.trans h')) (by decide))
      fun h h' => absurd (h.symm.trans (hmasked.trans h')) (by decide))
    have happly : s.settle.applyCfg b cfg = (s.settle.setCfg b cfg).applyFeeder b (s.bay b).cfg cfg := by
      have hid : (s.settle.setCfg b cfg).applyMasked b (s.settle.bay b).cfg.masked cfg.masked = s.settle.setCfg b cfg := by
        change (s.settle.setCfg b cfg).applyMasked b (s.bay b).cfg.masked cfg.masked = _
        rw [hmasked, State.applyMasked, if_neg, if_neg]
        · exact fun h => absurd (h.1.symm.trans h.2) (by decide)
        · exact fun h => absurd (h.1.symm.trans h.2) (by decide)
      rw [State.applyCfg, hid]
      rfl
    obtain ⟨htable, hchanged, hkept, hrest⟩ := State.setCfg_applyFeeder (b := b) (cfg := cfg) hok
    have hout := (s.settle.setCfg b cfg).applyFeeder_outline (b := b) (s.bay b).cfg cfg
    rw [happly] at htaken
    generalize (s.settle.setCfg b cfg).applyFeeder b (s.bay b).cfg cfg = t at htaken htable hchanged hkept hrest hout
    refine ⟨_, congrArg Host.Outcome.next (State.command_of_taken hacc htaken), htable, hchanged, hkept, hrest, ?_⟩
    rw [State.reply_outline, hout, State.setCfg_outline, State.reply_outline]
  · have htaken := takeSetBay_taken (s := s.settle) (b := b) hread (State.refuseCfg_eq_none
      (fun h => absurd (hin.symm.trans h) (by decide)) hclass (fun _ _ => hrel)
      fun h => absurd (h.symm.trans hnew) (by decide))
    have happly : s.settle.applyCfg b cfg =
        ((s.settle.setCfg b cfg).maskOut b).applyFeeder b (s.bay b).cfg cfg := by
      have hid : (s.settle.setCfg b cfg).applyMasked b (s.settle.bay b).cfg.masked cfg.masked =
          (s.settle.setCfg b cfg).maskOut b := if_pos ⟨hnew, hold⟩
      rw [State.applyCfg, hid]
      rfl
    have hout := (State.maskOut_maskedOut (b := b) hok cfg).applyFeeder (State.maskOut_rests _ b) (s.bay b).cfg cfg
    rw [happly] at htaken
    generalize ((s.settle.setCfg b cfg).maskOut b).applyFeeder b (s.bay b).cfg cfg = t at htaken hout
    exact ⟨_, congrArg Host.Outcome.next (State.command_of_taken hacc htaken), hout.state, hout.config, hout.session,
      hout.identity, hout.drive, hout.request, hout.fault, hout.prompt, hout.finalPending, rfl, hout.inFlight,
      hout.register, hout.issues, hout.reservations, hout.away⟩
  · have hin : (s.bay b).inSession = false := by rw [Bay.inSession, hst]
    have htaken := takeSetBay_taken (s := s.settle) (b := b) hread (State.refuseCfg_eq_none
      (fun h => absurd (hin.symm.trans h) (by decide)) hclass (fun h => absurd (h.symm.trans hnew) (by decide))
      fun _ _ => hst)
    have happly : s.settle.applyCfg b cfg =
        ((s.settle.unmaskedAs b cfg).redrive b).applyFeeder b (s.bay b).cfg cfg := by
      have hid : (s.settle.setCfg b cfg).applyMasked b (s.settle.bay b).cfg.masked cfg.masked =
          (s.settle.setCfg b cfg).maskIn b := by
        rw [State.applyMasked, if_neg fun h => absurd (h.1.symm.trans hnew) (by decide)]
        exact if_pos ⟨hnew, hold⟩
      rw [State.applyCfg, hid, State.maskIn_eq]
      rfl
    have hout : (((s.settle.unmaskedAs b cfg).redrive b).applyFeeder b (s.bay b).cfg cfg).outline =
        (s.settle.unmaskedAs b cfg).outline := by rw [State.applyFeeder_outline, State.redrive_outline]
    rw [happly] at htaken
    generalize ((s.settle.unmaskedAs b cfg).redrive b).applyFeeder b (s.bay b).cfg cfg = t at htaken hout
    refine ⟨_, congrArg Host.Outcome.next (State.command_of_taken hacc htaken), ?_⟩
    rw [State.reply_outline, hout, State.reply_outline]
    rfl

end Sys2Proof.Machine
end

section
/-! SUPPORT. The two commands of the profile store, SET PROFILE and SET STAGE (R54 to R56, R58): what their owner reads
out of the fields, and when it refuses IN_USE, with the statements about them. -/

namespace Sys2Proof.Machine

/-! ## A profile in use -/

/-- A session on a profile puts it in use (R56). -/
theorem State.profileInUse_of_session {s : State} {b : BayNo} {se : Session} (h : (s.bay b).session = some se) :
    s.profileInUse se.profile = true :=
  List.any_eq_true.2 ⟨b, mem_allBays b, by simp [h]⟩

/-! ## Reading codes (Table 10-1) -/

theorem GrantMode.code_of_ofCode {n : Nat} {m : GrantMode} (h : GrantMode.ofCode n = some m) : m.code = n := by
  unfold GrantMode.ofCode at h
  split at h <;> cases h <;> rfl

theorem GrantMode.ofCode_isSome {n : Nat} (h : n ≤ 1) : (GrantMode.ofCode n).isSome = true := by
  interval_cases n <;> rfl

theorem StageKind.code_of_ofCode {n : Nat} {k : StageKind} (h : StageKind.ofCode n = some k) : k.code = n := by
  unfold StageKind.ofCode at h
  split at h <;> cases h <;> rfl

theorem Test.code_of_ofCode {n : Nat} {t : Test} (h : Test.ofCode n = some t) : t.code = n := by
  unfold Test.ofCode at h
  split at h <;> cases h <;> rfl

/-- An action read has the code given, and the argument given where it carries one. -/
theorem Action.code_of_ofCode {n g : Nat} {x : Action} (h : Action.ofCode n g = some x) :
    x.code = n ∧ ∀ m, x.argument? = some m → m = g := by
  unfold Action.ofCode at h
  split at h
  iterate 3
    obtain ⟨k, hk, rfl⟩ := Option.map_eq_some_iff.1 h
    exact ⟨rfl, fun m hm => (Option.some.inj hm).symm.trans (val_of_index? hk)⟩
  iterate 2
    cases h
    exact ⟨rfl, nofun⟩
  · split at h
    · cases h
      exact ⟨rfl, fun m hm => (Option.some.inj hm).symm⟩
    · cases h
  · cases h

/-- A yes/no code read is YES at 1 and NO at 0. -/
theorem decide_of_yes? {n : Nat} {v : Bool} (h : yes? n = some v) : v = decide (n = 1) ∧ (!v) = decide (n = 0) := by
  unfold yes? at h
  split at h <;> cases h <;> exact ⟨rfl, rfl⟩

/-! ## SET PROFILE -/

theorem readMaintain_of_range {n : Nat} (h : n ≤ 11 ∨ n = 255) :
    ∃ k, readMaintain n = some k ∧ (k.map (·.val)).getD 255 = n := by
  obtain hstage | rfl := h
  · refine ⟨some ⟨n, by omega⟩, ?_, rfl⟩
    rw [readMaintain, if_neg (by omega)]
    exact congrArg (Option.map some) (index?_val (⟨n, by omega⟩ : StageNo))
  · exact ⟨none, rfl, rfl⟩

/-- The fields of the header that SET PROFILE stores (Table 3-1). -/
def Header.Holds (h : Header) (a : ProfileArgs) : Prop :=
  h.stageCount = a.stageCount ∧ h.mode.code = a.grantMode ∧ h.turnLength = a.turnLength ∧
    (h.maintain.map (·.val)).getD 255 = a.maintainStage ∧ h.sessionLimit = a.sessionLimit

/-- Fields within Table 3-1 are read as a header that holds them (R55, item 1). -/
theorem readHeader_of_range {a : ProfileArgs} (hcount : a.stageCount ≤ 12) (hmode : a.grantMode ≤ 1)
    (hturn : 1 ≤ a.turnLength ∧ a.turnLength ≤ 60) (hmaintain : a.maintainStage ≤ 11 ∨ a.maintainStage = 255)
    (hlimit : 30 ≤ a.sessionLimit ∧ a.sessionLimit ≤ 1440) : ∃ h, readHeader a = some h ∧ h.Holds a := by
  obtain ⟨m, hm⟩ := Option.isSome_iff_exists.1 (GrantMode.ofCode_isSome hmode)
  obtain ⟨k, hk, hval⟩ := readMaintain_of_range hmaintain
  exact ⟨⟨a.stageCount, m, a.turnLength, k, a.sessionLimit⟩,
    by simp [readHeader, between, hcount, hturn, hlimit, hm, hk], rfl, GrantMode.code_of_ofCode hm, rfl, hval, rfl⟩

/-- The echo of a header is its command's fields (Table 10-2). -/
theorem Header.Holds.bytes {h : Header} {a : ProfileArgs} (hold : h.Holds a) :
    h.bytes = [u1 a.stageCount, u1 a.grantMode, u1 a.turnLength, u1 a.maintainStage] ++ u2 a.sessionLimit := by
  obtain ⟨hcount, hmode, hturn, hmaintain, hlimit⟩ := hold
  rw [Header.bytes, u1?, hcount, hmode, hturn, hmaintain, hlimit]

section
variable {s : State} {p : ProfileNo} {a : ProfileArgs} {h : Header} (hread : readHeader a = some h)
include hread

theorem takeSetProfile_inUse (huse : s.profileInUse p = true) : takeSetProfile p.val a s = .refused .inUse := by
  simp [takeSetProfile, hread, huse]

theorem takeSetProfile_taken (huse : s.profileInUse p = false) :
    takeSetProfile p.val a s = .taken (s.setHeader p h) h.bytes := by
  simp [takeSetProfile, hread, huse]

end

/-- Settles O27: the fields are read as a header, and the profile's use decides between IN_USE and the write. -/
theorem setProfileReplacesItsHeader : Obligations.SetProfileReplacesItsHeader := by
  intro s p a hacc hcount hmode hturn hturn' hmaintain hlimit hlimit'
  obtain ⟨h, hread, hold⟩ := readHeader_of_range hcount hmode ⟨hturn, hturn'⟩ hmaintain ⟨hlimit, hlimit'⟩
  refine ⟨fun b se hse hp => ?_, fun huse => ?_⟩
  · subst hp
    exact congrArg Host.Outcome.next (State.command_of_refused hacc
      (takeSetProfile_inUse (s := s.settle) hread (State.profileInUse_of_session (s := s.settle) hse)))
  · have hexec := State.command_of_taken hacc (k := 0x05) (takeSetProfile_taken (s := s.settle) hread huse)
    rw [hold.bytes] at hexec
    obtain ⟨hc, hm, ht, hk, hl⟩ := hold
    exact ⟨h, hc, hm, ht, hk, hl, congrArg Host.Outcome.next hexec⟩

/-! ## SET STAGE -/

/-- What an exit holds of the bytes of SET STAGE: test, sense and action, and the argument where the action carries one
(R54). -/
def Exit.Holds (x : Exit) (e : ExitArgs) : Prop :=
  x.test.code = e.test ∧ x.senseSet = decide (e.sense = 0) ∧ x.action.code = e.action ∧
    ∀ n, x.action.argument? = some n → n = e.argument

theorem holds_of_readExit {e : ExitArgs} {x : Exit} (h : readExit e = some x) : x.Holds e := by
  unfold readExit at h
  split at h
  · next t clear act htest hsense haction =>
    cases h
    obtain ⟨hcode, hargument⟩ := Action.code_of_ofCode haction
    exact ⟨Test.code_of_ofCode htest, (decide_of_yes? hsense).2, hcode, hargument⟩
  · cases h

/-- The exits read are those given, in the order given (R54, R58). -/
theorem forall₂_of_readExits {es : List ExitArgs} {xs : List Exit} (h : readExits es = some xs) :
    List.Forall₂ (fun e x => x.Holds e) es xs := by
  induction es generalizing xs with
  | nil => cases h; exact .nil
  | cons e es ih =>
    unfold readExits at h
    split at h
    · next x xs' hx hxs =>
      cases h
      exact .cons (holds_of_readExit hx) (ih hxs)
    · cases h

/-- The fields of the stage that SET STAGE stores, with its exits (Table 3-2). -/
theorem readStage_fields {a : StageArgs} {st : Stage} (h : readStage a = some st) :
    st.kind.code = a.kind ∧
    (st.iset, st.cellTarget, st.coefficient, st.acceptance, st.chargeLimit, st.timeLimit, st.taper, st.settle,
      st.plateau, st.equalizeMark) = (a.iset, a.cellTarget, a.coefficient, a.acceptance, a.chargeLimit, a.timeLimit,
      a.taper, a.settle, a.plateau, decide (a.equalizeMark = 1)) ∧
    List.Forall₂ (fun e x => x.Holds e) a.exits st.exits := by
  unfold readStage at h
  split at h
  · split at h
    · next k m xs hkind hmark hexits =>
      cases h
      exact ⟨StageKind.code_of_ofCode hkind, by rw [(decide_of_yes? hmark).1], forall₂_of_readExits hexits⟩
    · cases h
  · cases h

theorem exitBytes_length (free : Nat → Byte) (xs : List Exit) (o : Nat) :
    (exitBytes free xs o).length = 4 * xs.length := by
  induction xs generalizing o with
  | nil => rfl
  | cons x xs ih =>
    have hone : (x.bytes free (o + 3)).length = 4 := rfl
    rw [exitBytes, List.length_append, hone, ih, List.length_cons]
    omega

theorem Stage.bytes_length (st : Stage) (free : Nat → Byte) : (st.bytes free).length = 16 + 4 * st.exits.length := by
  simp only [Stage.bytes, List.length_append, u2_length, exitBytes_length, List.length_cons, List.length_nil]

section
variable {s : State} {p : ProfileNo} {k : StageNo} {a : StageArgs} {st : Stage} (hread : readStage a = some st)
include hread

theorem takeSetStage_inUse (huse : s.profileInUse p = true) : takeSetStage p.val k.val a s = .refused .inUse := by
  simp [takeSetStage, hread, huse]

theorem takeSetStage_taken (huse : s.profileInUse p = false) :
    takeSetStage p.val k.val a s = .taken (s.setStageRec p k st).drawn (st.bytes s.free) := by
  simp [takeSetStage, hread, huse]

end

/-- Settles O28: the stage holds the fields and the exits read, and the profile's use decides between IN_USE and the
write. -/
theorem setStageReplacesItsPosition : Obligations.SetStageReplacesItsPosition := by
  intro s p k a st hacc hread
  obtain ⟨hkind, hfields, hexits⟩ := readStage_fields hread
  obtain ⟨hlength, hzip⟩ := List.forall₂_iff_zip.1 hexits
  refine ⟨hkind, hlength.symm, hfields, fun x hx => hzip hx, fun b se hse hp => ?_, fun huse => ?_⟩
  · subst hp
    exact congrArg Host.Outcome.next (State.command_of_refused hacc
      (takeSetStage_inUse (s := s.settle) hread (State.profileInUse_of_session (s := s.settle) hse)))
  · exact ⟨st.bytes s.free, by rw [Stage.bytes_length, hlength], congrArg Host.Outcome.next
      (State.command_of_taken hacc (takeSetStage_taken (s := s.settle) hread huse))⟩

end Sys2Proof.Machine
end

section
/-! SUPPORT. The arithmetic of chapter 4: what an accounting step conserves (R77 to R81), the open-circuit estimate (R88,
R89), and the bounds of targets, requests and commanded currents (R83 to R87), with the statements about both. -/

namespace Sys2Proof.Machine

/-! ## Charge accounting (R77 to R82) -/

/-- The accounted current over the interval, with the residue carried in, is what is delivered with the new residue (R79). -/
theorem Session.deliveredNow_conserves (se : Session) (real : Nat) (im : Int) (acceptance : Nat) :
    se.deliveredNow real im * 36000 + (se.accounted real im acceptance).deliveredResidue =
      accountedCurrent im * integrationInterval se.restart real + se.deliveredResidue :=
  Nat.div_add_mod' _ _

/-- What is delivered times the acceptance, with the residue carried in, is what is stored with the new residue (R80). -/
theorem Session.storedNow_conserves (se : Session) (real : Nat) (im : Int) (acceptance : Nat) :
    se.storedNow real im acceptance * 100 + (se.accounted real im acceptance).storedResidue =
      se.deliveredNow real im * acceptance + se.storedResidue :=
  Nat.div_add_mod' _ _

theorem soc_le_hundred {charge capacity : Nat} (h : charge ≤ fullCharge capacity) : soc charge capacity ≤ 100 :=
  Nat.div_le_of_le_mul (Nat.mul_le_mul_right 100 h)

theorem band_le_ten {percent : Nat} (h : percent ≤ 100) : band percent ≤ 10 := Nat.div_le_div_right (c := 10) h

/-- A charge that is a whole percentage of the capacity reads back as that percentage (R82, R89). -/
theorem soc_percent {capacity : Nat} (h : 1 ≤ capacity) (percent : Nat) :
    soc (fullCharge capacity * percent / 100) capacity = percent := by
  have hcharge : fullCharge capacity * percent / 100 = 10 * (capacity * percent) := by
    rw [show fullCharge capacity * percent = 10 * (capacity * percent) * 100 by unfold fullCharge; ring,
      Nat.mul_div_cancel _ (by decide)]
  rw [hcharge, soc, show 10 * (capacity * percent) * 100 = percent * fullCharge capacity by unfold fullCharge; ring]
  exact Nat.mul_div_cancel _ (by unfold fullCharge; omega)

/-! ## The open-circuit estimate (R88) -/

/-- What the part of a voltage between two points of a table adds to the estimate: up to a quarter of the capacity. -/
def ocvQuarter (v lo hi : Nat) : Nat := min 25 (25 * (v - lo) / (hi - lo))

theorem ocvQuarter_mono (lo hi : Nat) {v w : Nat} (h : v ≤ w) : ocvQuarter v lo hi ≤ ocvQuarter w lo hi :=
  min_le_min_left 25 (Nat.div_le_div_right (Nat.mul_le_mul_left 25 (Nat.sub_le_sub_right h lo)))

theorem ocvQuarter_le (v lo hi : Nat) : ocvQuarter v lo hi ≤ 25 := Nat.min_le_left _ _

theorem ocvQuarter_below {v lo : Nat} (h : v ≤ lo) (hi : Nat) : ocvQuarter v lo hi = 0 := by
  simp [ocvQuarter, Nat.sub_eq_zero_of_le h]

theorem ocvQuarter_above {v lo hi : Nat} (hlt : lo < hi) (h : hi ≤ v) : ocvQuarter v lo hi = 25 :=
  Nat.min_eq_left ((Nat.le_div_iff_mul_le (Nat.sub_pos_of_lt hlt)).2
    (Nat.mul_le_mul_left 25 (Nat.sub_le_sub_right h lo)))

/-- Between two points the quarter is the line of R88. -/
theorem ocvQuarter_between {v lo hi : Nat} (h : v ≤ hi) : ocvQuarter v lo hi = 25 * (v - lo) / (hi - lo) :=
  Nat.min_eq_right (Nat.div_le_of_le_mul (by
    rw [Nat.mul_comm (hi - lo)]
    exact Nat.mul_le_mul_left 25 (Nat.sub_le_sub_right h lo)))

/-- A rising table's estimate is the sum of four quarters, each rising with the voltage (R88). -/
theorem ocvPercent_eq_quarters {o : Ocv} (h01 : o.p0 < o.p1) (h12 : o.p1 < o.p2) (h23 : o.p2 < o.p3)
    (h34 : o.p3 < o.p4) (v : Nat) : ocvPercent (some o) v =
      ocvQuarter v o.p0 o.p1 + ocvQuarter v o.p1 o.p2 + ocvQuarter v o.p2 o.p3 + ocvQuarter v o.p3 o.p4 := by
  simp only [ocvPercent, ocvSegment]
  split
  · next h => simp only [ocvQuarter_below h, ocvQuarter_below (by omega : v ≤ o.p1), ocvQuarter_below (by omega : v ≤ o.p2),
      ocvQuarter_below (by omega : v ≤ o.p3)]
  next h0 =>
  split
  · next h => simp only [ocvQuarter_above h34 h, ocvQuarter_above h23 (by omega : o.p3 ≤ v),
      ocvQuarter_above h12 (by omega : o.p2 ≤ v), ocvQuarter_above h01 (by omega : o.p1 ≤ v)]
  next h4 =>
  split
  · next h => rw [ocvQuarter_between h.le, ocvQuarter_below h.le, ocvQuarter_below (by omega), ocvQuarter_below (by omega)]
              omega
  next h1 =>
  have h1 := Nat.le_of_not_lt h1
  split
  · next h => rw [ocvQuarter_above h01 h1, ocvQuarter_between h.le, ocvQuarter_below h.le, ocvQuarter_below (by omega)]
              omega
  next h2 =>
  have h2 := Nat.le_of_not_lt h2
  split
  · next h => rw [ocvQuarter_above h01 h1, ocvQuarter_above h12 h2, ocvQuarter_between h.le, ocvQuarter_below h.le]
              omega
  next h3 =>
  rw [ocvQuarter_above h01 h1, ocvQuarter_above h12 h2, ocvQuarter_above h23 (Nat.le_of_not_lt h3),
    ocvQuarter_between (Nat.le_of_not_le h4)]

/-- Settles O52: conservation is the division of R79 and R80, and the estimate is the sum of its four quarters. -/
theorem chargeAccountsAndEstimates : Obligations.ChargeAccountsAndEstimates := by
  refine ⟨fun se real im acceptance => ?_, fun capacity charge h => ⟨soc_le_hundred h, band_le_ten (soc_le_hundred h)⟩,
    fun cr vm h => soc_percent h _, fun _ => rfl, fun o h01 h12 h23 h34 => ?_⟩
  · exact ⟨se.deliveredNow_conserves real im acceptance, Nat.mod_lt _ (by decide),
      se.storedNow_conserves real im acceptance, Nat.mod_lt _ (by decide), rfl, rfl, rfl⟩
  · have hq := ocvPercent_eq_quarters h01 h12 h23 h34
    have below : ∀ {v lo : Nat}, v ≤ lo → ∀ hi, ocvQuarter v lo hi = 0 := ocvQuarter_below
    have le := ocvQuarter_le
    have low : ∀ v, v ≤ o.p0 → ocvPercent (some o) v = 0 := fun v h => if_pos h
    refine ⟨low, fun v h => ?_, ?_, ?_, ?_, fun v => ?_, fun v w h => ?_⟩
    · rw [hq, ocvQuarter_above h01 (by omega), ocvQuarter_above h12 (by omega), ocvQuarter_above h23 (by omega),
        ocvQuarter_above h34 h]
    · rw [hq, ocvQuarter_above h01 le_rfl, below le_rfl, below h12.le, below (by omega)]
    · rw [hq, ocvQuarter_above h01 h12.le, ocvQuarter_above h12 le_rfl, below le_rfl, below h23.le]
    · rw [hq, ocvQuarter_above h01 (by omega), ocvQuarter_above h12 h23.le, ocvQuarter_above h23 le_rfl, below le_rfl]
    · rw [hq]
      have h0 := le v o.p0 o.p1
      have h1 := le v o.p1 o.p2
      have h2 := le v o.p2 o.p3
      have h3 := le v o.p3 o.p4
      omega
    · rw [hq, hq]
      exact Nat.add_le_add (Nat.add_le_add (Nat.add_le_add (ocvQuarter_mono _ _ h) (ocvQuarter_mono _ _ h))
        (ocvQuarter_mono _ _ h)) (ocvQuarter_mono _ _ h)

/-! ## Targets, requests and commanded current (R83 to R87) -/

/-- A cell target lies between the class's limits (R83, step 3). -/
theorem cellTarget_bounds {lo hi : Nat} (h : lo < hi) (t : Nat) (comp : Int) :
    lo ≤ cellTarget t lo hi comp ∧ cellTarget t lo hi comp ≤ hi := by
  unfold cellTarget
  omega

/-- A cell target between the limits is taken as it is (R83, step 3). -/
theorem cellTarget_exact {lo hi t v : Nat} {comp : Int} (hv : (v : Int) = t + comp) (hlo : lo ≤ v) (hhi : v ≤ hi) :
    cellTarget t lo hi comp = v := by
  unfold cellTarget
  omega

/-- A coefficient of Table 3-2 compensates by at most 250 mV (R83, steps 1 and 2). -/
theorem compensation_bounds {k : Int} (hlo : -100 ≤ k) (hhi : k ≤ 100) (tm : Int) :
    -250 ≤ compensation k tm ∧ compensation k tm ≤ 250 := by
  have hd : -25 ≤ compTemp tm - 25 ∧ compTemp tm - 25 ≤ 25 := by
    unfold compTemp
    omega
  have hprod : -2500 ≤ k * (compTemp tm - 25) ∧ k * (compTemp tm - 25) ≤ 2500 := by
    constructor <;> nlinarith
  have bound : ∀ {x : Int}, -2500 ≤ x → x ≤ 2500 → -250 ≤ x.tdiv 10 ∧ x.tdiv 10 ≤ 250 := fun {x} h h' => by
    rcases Int.le_total 0 x with hx | hx
    · rw [Int.tdiv_eq_ediv_of_nonneg hx]
      omega
    · rw [← Int.neg_neg x, Int.neg_tdiv, Int.tdiv_eq_ediv_of_nonneg (by omega)]
      omega
  exact bound hprod.1 hprod.2

theorem requestOf_eq_zero_iff {floor : Nat} (hfloor : 1 ≤ floor) (raw : Nat) : requestOf floor raw = 0 ↔ raw = 0 := by
  unfold requestOf Config.maxRequest
  split <;> omega

/-- A request above 0 lies between the floor and 200 (R86). -/
theorem requestOf_bounds {floor raw : Nat} (hfloor : floor ≤ 200) (hraw : raw ≠ 0) :
    floor ≤ requestOf floor raw ∧ requestOf floor raw ≤ 200 := by
  simp only [requestOf, Config.maxRequest, if_neg hraw]
  omega

theorem unitsOf_pos {target current : Nat} (ht : 0 < target) (hc : 0 < current) : 0 < unitsOf target current := by
  have := Nat.mul_pos ht hc
  unfold unitsOf ceilDiv
  omega

theorem unitsOf_mono (target : Nat) {c d : Nat} (h : c ≤ d) : unitsOf target c ≤ unitsOf target d := by
  have := Nat.mul_le_mul_left target h
  unfold unitsOf ceilDiv
  omega

/-- Power within a grant, in units, is power within the grant in mW (R85). -/
theorem mul_le_of_unitsOf_le {target current granted : Nat} (h : unitsOf target current ≤ granted) :
    target * current ≤ granted * 1000000 := by
  unfold unitsOf ceilDiv at h
  omega

/-- A stage that takes power asks for at least one unit and at most the power of its setpoint (Table 4-2). -/
theorem rawRequest_bounds {kind : StageKind} (hk : kind ≠ .rest) (first : Bool) {target iset : Nat} (im : Nat)
    (ht : 0 < target) (hi : 0 < iset) :
    0 < rawRequest kind first target iset im ∧ rawRequest kind first target iset im ≤ unitsOf target iset := by
  have full : 0 < unitsOf target iset ∧ unitsOf target iset ≤ unitsOf target iset := ⟨unitsOf_pos ht hi, le_rfl⟩
  cases kind with
  | current => simpa only [rawRequest] using full
  | voltage =>
    cases first with
    | true => simpa only [rawRequest, if_true] using full
    | false =>
      have hpos : 0 < min iset (im + max (iset / 10) 10) := by omega
      simp only [rawRequest, Bool.false_eq_true, if_false]
      exact ⟨unitsOf_pos ht hpos, unitsOf_mono target (Nat.min_le_left _ _)⟩
  | rest => exact absurd rfl hk

/-- The commanded current's power stays within the grant (R87). -/
theorem commandedCurrent_power (iset granted target : Nat) :
    commandedCurrent iset granted target * target ≤ granted * 1000000 :=
  (Nat.mul_le_mul_right target (Nat.min_le_right _ _)).trans (Nat.div_mul_le_self _ _)

/-- A grant of the setpoint's whole power commands the setpoint (R87). -/
theorem commandedCurrent_full {iset granted target : Nat} (ht : 0 < target) (h : unitsOf target iset ≤ granted) :
    commandedCurrent iset granted target = iset :=
  Nat.min_eq_left ((Nat.le_div_iff_mul_le ht).2 (Nat.mul_comm iset target ▸ mul_le_of_unitsOf_le h))

theorem commandedCurrent_pos {iset granted target : Nat} (ht : 0 < target) (hg : 0 < granted) (hi : 0 < iset)
    (hle : target ≤ 1000000) : 0 < commandedCurrent iset granted target :=
  lt_min hi (Nat.div_pos (hle.trans (Nat.le_mul_of_pos_left _ hg)) ht)

/-- Settles O53: a clamp, a division rounded up and one rounded down. -/
theorem setpointArithmeticStaysInBounds : Obligations.SetpointArithmeticStaysInBounds := by
  refine ⟨fun cr st tm h => ?_, fun floor raw h1 h200 => ⟨requestOf_eq_zero_iff h1 raw, requestOf_bounds h200⟩,
    fun kind first target iset im ht hi => ⟨?_, ?_, fun hk => rawRequest_bounds hk first im ht hi⟩,
    fun iset granted target ht => ⟨Nat.min_le_left _ _, commandedCurrent_power _ _ _, commandedCurrent_full ht,
      fun hg hi hle => commandedCurrent_pos ht hg hi hle⟩⟩
  · obtain ⟨hlo, hhi⟩ := cellTarget_bounds h st.cellTarget (compensation st.coefficient tm)
    exact ⟨Nat.mul_le_mul_right _ hlo, Nat.mul_le_mul_right _ hhi,
      fun v hv hmin hmax => congrArg (· * cr.cells) (cellTarget_exact hv hmin hmax),
      fun hmin hmax => compensation_bounds hmin hmax tm⟩
  · rintro rfl
    rfl
  · rintro rfl
    rfl

end Sys2Proof.Machine
end

section
/-! SUPPORT. A pass keeps every grant at 0 or at least at its bay's floor (R103 to R106): no walk of it leaves a grant
between. -/

namespace Sys2Proof.Machine

/-- Every grant is 0 or reaches its floor. -/
def Grants.Floored (floor : BayNo → Nat) (g : Grants) : Prop := ∀ b : BayNo, g[b] = 0 ∨ floor b ≤ g[b]

section
variable {floor : BayNo → Nat} {g : Grants}

theorem Grants.Floored.set (h : Grants.Floored floor g) (b : BayNo) {v : Nat} (hv : v = 0 ∨ floor b ≤ v) :
    Grants.Floored floor (g.set b v) := fun x => by
  rw [Grants.set_get]
  split
  · next hx => exact hx ▸ hv
  · exact h x

/-- A cut of no more than the part above the floor. -/
theorem Grants.Floored.cut (h : Grants.Floored floor g) (b : BayNo) (e : Nat) :
    Grants.Floored floor (g.set b (g[b] - min (g[b] - floor b) e)) :=
  h.set b (by rcases h b with hb | hb <;> omega)

theorem Grants.Floored.cutToFloor (h : Grants.Floored floor g) (l : List BayNo) (e : Nat) :
    Grants.Floored floor (cutToFloor floor l e g).1 := by
  induction l generalizing e g with
  | nil => exact h
  | cons b l ih => exact ih (h.cut b e) _

theorem Grants.Floored.cutToZero (h : Grants.Floored floor g) (l : List BayNo) (e : Nat) :
    Grants.Floored floor (cutToZero l e g) := by
  induction l generalizing e g with
  | nil => exact h
  | cons b l ih =>
    rw [Machine.cutToZero]
    split
    · exact h
    · exact ih (h.set b (.inl rfl)) _

theorem Grants.Floored.cutWalks (h : Grants.Floored floor g) (l : List BayNo) (e : Nat) :
    Grants.Floored floor (cutWalks floor l e g) := (h.cutToFloor l e).cutToZero l _

end

section
variable {s : State} {g : Grants}

theorem State.keep_floored (h : Grants.Floored s.floorAt g)
    (hr : ∀ b, (s.grant b).request = 0 ∨ s.floorAt b ≤ (s.grant b).request) : Grants.Floored s.floorAt (s.keep g) :=
  fun b => by
    have hkeep : (s.keep g)[b] = if (s.feeder b).isNone then 0 else min g[b] (s.grant b).request := by
      simp [State.keep]
    rw [hkeep]
    split
    · exact .inl rfl
    · rcases h b with hb | hb <;> rcases hr b with hb' | hb' <;> omega

theorem Grants.Floored.cutFeeders (h : Grants.Floored s.floorAt g) (l : List FeederNo) :
    Grants.Floored s.floorAt (l.foldl s.cutFeeder g) := by
  induction l generalizing g with
  | nil => exact h
  | cons f l ih => exact ih (h.cutWalks _ _)

theorem Grants.Floored.fillBay {r : Reserved} (h : Grants.Floored s.floorAt r.g) (b : BayNo) :
    Grants.Floored s.floorAt (s.fillBay r b).g := by
  unfold State.fillBay
  split
  · exact h
  · next f _ =>
    have hset : Grants.Floored s.floorAt (r.g.set b (s.filled r b f)) := by
      refine h.set b ?_
      simp only [State.filled]
      split
      · next hc => exact .inr hc.2.2
      · exact h b
    dsimp only
    split <;> exact hset

theorem Grants.Floored.fill (h : Grants.Floored s.floorAt g) : Grants.Floored s.floorAt (s.fill g) := by
  have walk : ∀ (l : List BayNo) (r : Reserved), Grants.Floored s.floorAt r.g →
      Grants.Floored s.floorAt (l.foldl s.fillBay r).g := by
    intro l
    induction l with
    | nil => exact fun _ hr => hr
    | cons b l ih => exact fun r hr => ih _ (hr.fillBay b)
  unfold State.fill
  split
  · exact h
  · exact walk _ _ h

theorem Grants.Floored.preemptFloor (h : Grants.Floored s.floorAt g) (f : FeederNo) (l : List BayNo) (q : Nat × Nat) :
    Grants.Floored s.floorAt (s.preemptFloor f l q g).1 := by
  induction l generalizing q g with
  | nil => exact h
  | cons b l ih => exact ih (h.cut b _) _

theorem Grants.Floored.preemptZero (h : Grants.Floored s.floorAt g) (f : FeederNo) (l : List BayNo) (q : Nat × Nat) :
    Grants.Floored s.floorAt (s.preemptZero f l q g) := by
  induction l generalizing q g with
  | nil => exact h
  | cons b l ih =>
    rw [State.preemptZero]
    split
    · exact ih h _
    · exact ih (h.set b (.inl rfl)) _

theorem Grants.Floored.preemptBay {r : Reserved} (h : Grants.Floored s.floorAt r.g) (u : BayNo) :
    Grants.Floored s.floorAt (s.preemptBay r u).g := by
  simp only [State.preemptBay]
  split
  · exact h
  · split
    · exact h
    · split
      · exact h
      · split
        · exact (h.preemptFloor _ _ _).preemptZero _ _ _
        · exact h

theorem Grants.Floored.preempt (h : Grants.Floored s.floorAt g) : Grants.Floored s.floorAt (s.preempt g) := by
  have walk : ∀ (l : List BayNo) (r : Reserved), Grants.Floored s.floorAt r.g →
      Grants.Floored s.floorAt (l.foldl s.preemptBay r).g := by
    intro l
    induction l with
    | nil => exact fun _ hr => hr
    | cons b l ih => exact fun r hr => ih _ (hr.preemptBay b)
  exact walk _ _ h

/-- At the end of a pass every grant is 0 or reaches its floor (R106, law 3). -/
theorem State.afterPass_floored (h : s.FloorsMet) : Grants.Floored s.floorAt s.afterPass := by
  have hunits : Grants.Floored s.floorAt s.grantedUnits := fun b => by
    simpa [State.grantedUnits] using (h b).2
  exact (((State.keep_floored hunits fun b => (h b).1).cutWalks _ _).cutFeeders allFeeders).fill.preempt

end

end Sys2Proof.Machine
end

section
/-! SUPPORT. The footing of levels and floors (R86, R92, R96): what a bay's level and its floor follow from, and the updates
that leave it, and the allocator, alone. -/

namespace Sys2Proof.Machine

/-- What a bay's identity says of the class in use: an anonymous pack's charge does not count. -/
def Identity.kind : Identity → Identity
  | .anonymous c _ _ => .anonymous c 0 false
  | i => i

/-- The part of a sequencer that its level and its floor follow from. -/
structure Stance where
  state : BayState
  holds : Identity
  feeder : Option FeederNo
  base : LevelNo

def Bay.stance (y : Bay) : Stance := ⟨y.state, y.identity.kind, y.cfg.feeder, y.cfg.baseLevel⟩

/-- The class of a tag's record. -/
def State.packCls (s : State) (t : Nat) : Option ClassNo := (s.pack t).map (·.cls)

/-- The class record that a write carries, where it carries one. -/
def StoreWrite.classRec? : StoreWrite → Option ClassRec
  | .cls _ r => some r
  | _ => none

/-- What levels, floors and feeders follow from, with the class records of the store and on their way to it. -/
structure Footing where
  stances : BayNo → Stance
  packCls : Nat → Option ClassNo
  short : Vector Bool 8
  classes : Vector (Option ClassRec) 8
  stored : Vector (Option ClassRec) 8
  written : List ClassRec

def State.footing (s : State) : Footing where
  stances b := (s.bay b).stance
  packCls := s.packCls
  short := s.disp.short
  classes := s.register.classes
  stored := s.store.classes
  written := s.inFlight.filterMap StoreWrite.classRec?

/-- The allocator with the footing of levels and floors. -/
def State.ground (s : State) : Allocator × Footing := (s.alloc, s.footing)

/-! ## What follows from the footing -/

namespace Footing

variable (n : Footing) (b : BayNo)

/-- The class in use at a bay. -/
def classInUse : Option ClassNo :=
  match (n.stances b).holds with
  | .empty => none
  | .registered t => n.packCls t
  | .anonymous c _ _ => some c

/-- The floor of a bay. -/
def floorAt : Nat := (((n.classInUse b).bind fun c => n.classes[c]).map (·.floor)).getD 1

/-- The level of a bay by R96. -/
def levelOf : LevelNo :=
  match (n.stances b).state, (n.stances b).holds with
  | .charge, .registered t => if ((n.packCls t).map fun c => n.short[c]).getD false then 3 else (n.stances b).base
  | _, _ => (n.stances b).base

/-- Every registered pack that a bay runs has a record. -/
def Recorded : Prop := ∀ b t, (n.stances b).holds = .registered t → (n.packCls t).isSome = true

/-- Every class record's floor lies within Table 1-1: in the register, in the store and on the way to it. -/
def InRange : Prop :=
  (∀ c : ClassNo, floorInRange n.classes[c] = true ∧ floorInRange n.stored[c] = true) ∧
    ∀ r ∈ n.written, floorInRange (some r) = true

/-- The footing with another stance of a bay. -/
def stand (v : Stance) : Footing := { n with stances := Function.update n.stances b v }

end Footing

section
variable {s t : State} (b : BayNo)

@[simp] theorem Identity.kind_registered {i : Identity} {t : Nat} : i.kind = .registered t ↔ i = .registered t := by
  cases i <;> simp [Identity.kind]

theorem State.classInUse_eq : s.classInUse b = s.footing.classInUse b := by
  simp only [State.classInUse, Footing.classInUse, State.footing, Bay.stance, State.packCls]
  cases (s.bay b).identity <;> rfl

theorem State.floorAt_eq : s.floorAt b = s.footing.floorAt b := by
  simp only [State.floorAt, State.classAt, State.classInUse_eq, Footing.floorAt]
  rfl

theorem State.levelOf_eq : s.levelOf b = s.footing.levelOf b := by
  simp only [State.levelOf, Footing.levelOf, State.footing, Bay.stance, State.packCls, Option.map_map]
  cases (s.bay b).state <;> cases (s.bay b).identity <;> rfl

theorem State.feeder_eq : s.feeder b = (s.footing.stances b).feeder := rfl

theorem State.recorded_of_placed (h : s.IdentitiesPlaced) : s.footing.Recorded := fun b t hb => by
  have hp := h b
  have hi : (s.bay b).identity = .registered t := Identity.kind_registered.1 hb
  simp only [State.identityPlaced, hi, decide_eq_true_eq] at hp
  change ((s.pack t).map (·.cls)).isSome = true
  cases hr : s.pack t with
  | none => simp [hr] at hp
  | some r => rfl

theorem StoreWrite.floorInRange_iff (w : StoreWrite) :
    w.floorInRange = true ↔ ∀ r, w.classRec? = some r → Machine.floorInRange (some r) = true := by
  cases w <;> simp [StoreWrite.floorInRange, StoreWrite.classRec?]

/-- The statement's floors, by the footing. -/
theorem State.floorsOk_iff : s.FloorsOk ↔ s.FloorsMet ∧ s.footing.InRange := by
  have hw : (∀ w ∈ s.inFlight, w.floorInRange = true) ↔
      ∀ r ∈ s.inFlight.filterMap StoreWrite.classRec?, floorInRange (some r) = true := by
    simp only [StoreWrite.floorInRange_iff, List.mem_filterMap]
    exact ⟨fun h r ⟨w, hw, hr⟩ => h w hw r hr, fun h w hw r hr => h r ⟨w, hw, hr⟩⟩
  exact and_congr_right fun _ => and_congr_right fun _ => hw

/-! ## Footings that agree -/

theorem State.footing_eq (hb : ∀ b, (t.bay b).stance = (s.bay b).stance) (hp : ∀ g, t.packCls g = s.packCls g)
    (hs : t.disp.short = s.disp.short) (hc : t.register.classes = s.register.classes)
    (hst : t.store.classes = s.store.classes)
    (hw : t.inFlight.filterMap StoreWrite.classRec? = s.inFlight.filterMap StoreWrite.classRec?) :
    t.footing = s.footing := by
  simp only [State.footing, hb, funext hp, hs, hc, hst, hw]

theorem State.ground_eq (ha : t.alloc = s.alloc) (hf : t.footing = s.footing) : t.ground = s.ground := by
  rw [State.ground, State.ground, ha, hf]

theorem State.alloc_of_ground (h : t.ground = s.ground) : t.alloc = s.alloc := congrArg Prod.fst h

theorem State.footing_of_ground (h : t.ground = s.ground) : t.footing = s.footing := congrArg Prod.snd h

theorem State.footing_of_passOutline (h : t.passOutline = s.passOutline) : t.footing = s.footing := by
  have hf : ∀ u : State, u.passOutline.footing = u.footing := fun u => by
    have hb : ∀ b, (u.passOutline.bay b).stance = (u.bay b).stance := fun b => by
      simp [State.passOutline, State.bay, Bay.outline, Bay.stance]
    have hp : u.passOutline.packCls = u.packCls := funext fun g => by
      simp only [State.packCls, State.pack, State.passOutline]
    simp only [State.footing, hb, hp]
    simp only [State.passOutline]
  rw [← hf t, h, hf s]

/-- Two states of one outline have one footing but for the shortage states. -/
theorem State.footing_of_outline (h : t.outline = s.outline) : t.footing = { s.footing with short := t.disp.short } := by
  have hf : ∀ u : State, { u.footing with short := Vector.replicate 8 false } = u.outline.footing := fun u => by
    have hb : ∀ b, (u.outline.bay b).stance = (u.bay b).stance := fun b => by
      simp [State.outline, State.bay, Bay.outline, Bay.stance]
    have hp : u.outline.packCls = u.packCls := funext fun g => by
      simp only [State.packCls, State.pack, State.outline]
    simp only [State.footing, hb, hp]
    simp only [State.outline]
  have hts := (hf t).trans ((congrArg State.footing h).trans (hf s).symm)
  exact congrArg (fun n : Footing => { n with short := t.disp.short }) hts

end

/-! ## What an update does to the footing -/

section
variable (s : State) (b : BayNo)

theorem State.modBay_footing (f : Bay → Bay) : (s.modBay b f).footing = s.footing.stand b (f (s.bay b)).stance := by
  have h : (fun x => ((s.modBay b f).bay x).stance) = Function.update s.footing.stances b (f (s.bay b)).stance := by
    funext x
    rw [State.modBay_bay, Function.update_apply]
    split <;> rfl
  simp only [State.footing] at h ⊢
  simp only [h, Footing.stand]
  rfl

/-- An update of a sequencer that keeps its stance. -/
theorem State.modBay_ground {f : Bay → Bay} (hf : (f (s.bay b)).stance = (s.bay b).stance) :
    (s.modBay b f).ground = s.ground := by
  refine State.ground_eq rfl ?_
  rw [State.modBay_footing, hf, Footing.stand,
    show Function.update s.footing.stances b (s.bay b).stance = s.footing.stances from Function.update_eq_self b _]

@[simp] theorem State.pass_footing : s.pass.footing = s.footing := State.footing_of_passOutline s.pass_passOutline

@[simp] theorem State.enterLevel_footing (l : LevelNo) : (s.enterLevel b l).footing = s.footing := by
  simp only [State.enterLevel]
  split <;> rfl

@[simp] theorem State.relevel_footing : (s.relevel b).footing = s.footing := by
  unfold State.relevel
  split
  · rfl
  · rw [State.pass_footing, State.enterLevel_footing]

@[simp] theorem State.enterRequest_footing (r : Nat) : (s.enterRequest b r).footing = s.footing := by
  simp only [State.enterRequest]
  split
  · rfl
  · split <;> rfl

/-! ## Updates that leave it alone, with the allocator -/

@[simp] theorem State.modLine_ground (f : LineRec → LineRec) : (s.modLine b f).ground = s.ground := rfl
@[simp] theorem State.setFault_ground (r : Option FaultRec) : (s.setFault b r).ground = s.ground := rfl
@[simp] theorem State.setIssues_ground (l : List Issue) : (s.setIssues l).ground = s.ground := rfl
@[simp] theorem State.setReservations_ground (l : List Reservation) : (s.setReservations l).ground = s.ground := rfl
@[simp] theorem State.setReceiver_ground (r : Receiver) : (s.setReceiver r).ground = s.ground := rfl
@[simp] theorem State.raise_ground (c : Cause) : (s.raise c).ground = s.ground := rfl
@[simp] theorem State.raiseShort_ground (c : ClassNo) : (s.raiseShort c).ground = s.ground := rfl
@[simp] theorem State.setReady_ground (c : ClassNo) (n : Nat) : (s.setReady c n).ground = s.ground := rfl
@[simp] theorem State.reply_ground (k : Byte) (st : Status) (cs : List Byte) : (s.reply k st cs).ground = s.ground := rfl
@[simp] theorem State.drawn_ground : s.drawn.ground = s.ground := rfl
@[simp] theorem State.discardFrame_ground : s.discardFrame.ground = s.ground := rfl
@[simp] theorem State.clearEdges_ground : s.clearEdges.ground = s.ground := rfl
@[simp] theorem State.clearFaults_ground : s.clearFaults.ground = s.ground := rfl
@[simp] theorem State.dropComplete_ground : s.dropComplete.ground = s.ground := rfl
@[simp] theorem State.partDocked_ground (m t : Nat) : (s.partDocked m t).ground = s.ground := rfl
@[simp] theorem State.walkPast_ground : (s.walkPast b).ground = s.ground := rfl
@[simp] theorem State.sendPoll_ground (r : Bool) : (s.sendPoll b r).ground = s.ground := rfl
@[simp] theorem State.applyScanInterval_ground (v : SiteSettings) : (s.applyScanInterval v).ground = s.ground := rfl

@[simp] theorem State.modSession_ground (f : Session → Session) : (s.modSession b f).ground = s.ground :=
  s.modBay_ground b rfl

@[simp] theorem State.enterStage_ground (k : StageNo) (m : Bool) : (s.enterStage b k m).ground = s.ground :=
  s.modSession_ground b _

@[simp] theorem State.stampDock_ground : (s.stampDock b).ground = s.ground := s.modBay_ground b rfl

theorem State.foldl_ground {α : Type} {f : State → α → State} (h : ∀ s x, (f s x).ground = s.ground) (l : List α)
    (s : State) : (l.foldl f s).ground = s.ground := by
  induction l generalizing s with
  | nil => rfl
  | cons x xs ih => rw [List.foldl_cons, ih, h]

@[simp] theorem State.promptAdd_ground : (s.promptAdd b).ground = s.ground := by
  unfold State.promptAdd
  split <;> rfl

@[simp] theorem State.redrive_ground : (s.redrive b).ground = s.ground := by
  have h : ∀ d, (s.modBay b fun y => { y with drive := d }).ground = s.ground := fun d => s.modBay_ground b rfl
  simp only [State.redrive]
  split
  · rw [State.promptAdd_ground, h]
  · exact h _

@[simp] theorem State.checkRound_ground : s.checkRound.ground = s.ground := by
  unfold State.checkRound
  split <;> rfl

@[simp] theorem State.endSlot_ground : s.endSlot.ground = s.ground := by
  rw [State.endSlot, State.checkRound_ground]
  rfl

@[simp] theorem State.beginRound_ground : s.beginRound.ground = s.ground := by
  rw [State.beginRound, State.checkRound_ground]
  rfl

@[simp] theorem State.dropOverdue_ground : s.dropOverdue.ground = s.ground := by
  simp only [State.dropOverdue]
  split <;> rfl

/-! ## Writes and pack records -/

theorem State.write_footing (w : StoreWrite) :
    (s.write w).footing = { s.footing with written := s.footing.written ++ w.classRec?.toList } := by
  have h : (s.write w).inFlight.filterMap StoreWrite.classRec? = s.footing.written ++ w.classRec?.toList := by
    rw [State.write_inFlight, List.filterMap_append]
    cases hw : w.classRec? <;> simp [hw, State.footing]
  simp only [State.footing] at h ⊢
  rw [h]
  rfl

/-- A write of anything but a class record. -/
theorem State.write_ground {w : StoreWrite} (h : w.classRec? = none) : (s.write w).ground = s.ground := by
  refine State.ground_eq rfl ?_
  rw [State.write_footing, h]
  simp

/-- A change of a record that leaves its tag and class. -/
theorem State.modPack_ground (t : Nat) {f : PackRec → PackRec} (hf : ∀ r, (f r).key = r.key) :
    (s.modPack t f).ground = s.ground := by
  refine State.ground_eq rfl (State.footing_eq (fun _ => rfl) (fun g => ?_) rfl rfl rfl rfl)
  rw [State.packCls, State.modPack_pack _ _ _ fun r => congrArg Prod.fst (hf r)]
  split
  · rw [Option.map_map, State.packCls]
    exact congrArg (fun h => (s.pack g).map h) (funext fun r => congrArg Prod.snd (hf r))
  · rfl

@[simp] theorem State.setMark_ground (t : Nat) (m : Option Nat) : (s.setMark t m).ground = s.ground :=
  s.modPack_ground t fun _ => rfl

@[simp] theorem State.savePack_ground (t : Nat) : (s.savePack t).ground = s.ground := by
  unfold State.savePack
  split
  · exact s.write_ground rfl
  · rfl

/-- A record changed, its tag and class kept, and written. -/
theorem State.modPack_savePack_ground (t : Nat) {f : PackRec → PackRec} (hf : ∀ r, (f r).key = r.key) :
    ((s.modPack t f).savePack t).ground = s.ground := by rw [State.savePack_ground, State.modPack_ground _ _ hf]

@[simp] theorem State.saveCharge_ground (t : Nat) : (s.saveCharge t).ground = s.ground := by
  unfold State.saveCharge
  split
  · exact s.write_ground rfl
  · rfl

@[simp] theorem State.saveChargeAt_ground : (s.saveChargeAt b).ground = s.ground := by
  unfold State.saveChargeAt
  split
  · exact s.saveCharge_ground _
  · rfl

@[simp] theorem State.saveChargesAt_ground : (s.saveChargesAt b).ground = s.ground :=
  State.foldl_ground State.saveCharge_ground _ s

@[simp] theorem State.setPlace_ground (t : Nat) (p : Place) : (s.setPlace t p).ground = s.ground :=
  s.modPack_savePack_ground t fun _ => rfl

@[simp] theorem State.setRotation_ground (c : ClassNo) (l : List Nat) : (s.setRotation c l).ground = s.ground := by
  rw [State.setRotation, State.write_ground _ rfl]
  rfl

@[simp] theorem State.toTail_ground (r : PackRec) : (s.toTail r).ground = s.ground := s.setRotation_ground _ _

@[simp] theorem State.loseAt_ground : (s.loseAt b).ground = s.ground :=
  State.foldl_ground (fun u (r : PackRec) => u.setPlace_ground r.tag .unaccounted) _ s

@[simp] theorem State.settleAt_ground (t : Option Nat) (c : Cause) : (s.settleAt b t c).ground = s.ground :=
  State.foldl_ground (fun u (r : PackRec) => by rw [State.raise_ground, State.setPlace_ground]) _ s

@[simp] theorem State.setChargeAt_ground (q : Nat) : (s.setChargeAt b q).ground = s.ground := by
  unfold State.setChargeAt
  split
  · rfl
  · exact s.modPack_ground _ fun _ => rfl
  · next h => exact s.modBay_ground b (by simp only [Bay.stance, h]; rfl)

@[simp] theorem State.setKnownAt_ground : (s.setKnownAt b).ground = s.ground := by
  unfold State.setKnownAt
  split
  · rfl
  · exact s.modPack_savePack_ground _ fun _ => rfl
  · next h => exact s.modBay_ground b (by simp only [Bay.stance, h]; rfl)

@[simp] theorem State.resetEqualizeAt_ground : (s.resetEqualizeAt b).ground = s.ground := by
  unfold State.resetEqualizeAt
  split
  · exact s.modPack_savePack_ground _ fun _ => rfl
  · rfl

@[simp] theorem State.leaveStage_ground (st : Stage) : (s.leaveStage b st).ground = s.ground := by
  unfold State.leaveStage
  split <;> simp

@[simp] theorem State.quarantinePack_ground (t : Nat) (k : FaultKind) : (s.quarantinePack t k).ground = s.ground := by
  unfold State.quarantinePack
  split
  · split
    · exact s.modPack_savePack_ground t fun _ => rfl
    · rfl
  · rfl

@[simp] theorem State.quarantineFor_ground (ks : List FaultKind) : (s.quarantineFor b ks).ground = s.ground := by
  unfold State.quarantineFor
  split <;> simp

@[simp] theorem State.joinFault_ground (k : FaultKind) : (s.joinFault b k).ground = s.ground := by
  unfold State.joinFault
  split
  · rfl
  · split <;> simp

@[simp] theorem State.cancelPart_ground : (s.cancelPart b).ground = s.ground := by
  simp only [State.cancelPart, State.dropComplete_ground, State.setIssues_ground]
  exact State.foldl_ground (fun u t => u.setMark_ground t none) _ s

@[simp] theorem State.acceptKnown_ground (t : Nat) : (s.acceptKnown b t).ground = s.ground := by
  unfold State.acceptKnown
  split
  · rfl
  · next r _ =>
    refine (State.modPack_savePack_ground _ t (f := fun r => r.docked b ((s.classRec r.cls).map (·.chemistry)))
      fun _ => rfl).trans ?_
    split <;> simp

@[simp] theorem State.confirmPack_ground (m t : Nat) : (s.confirmPack m t).ground = s.ground := by
  unfold State.confirmPack
  split
  · rfl
  · rw [State.saveCharge_ground, State.toTail_ground]
    exact s.modPack_savePack_ground t fun _ => rfl

@[simp] theorem State.confirmPacks_ground (m : Nat) (ts : List Nat) : (s.confirmPacks m ts).ground = s.ground :=
  State.foldl_ground (fun u t => u.confirmPack_ground m t) ts s

@[simp] theorem State.confirmIssue_ground (i : Issue) : (s.confirmIssue i).ground = s.ground := by
  simp [State.confirmIssue]

@[simp] theorem State.takeRemoval_ground : (s.takeRemoval b).ground = s.ground := by
  simp only [State.takeRemoval, State.dropComplete_ground, State.setIssues_ground]
  split
  · simp only [State.removalOf]
    split
    · exact State.foldl_ground (fun u t => u.setPlace_ground t _) _ s
    · simp
  · rfl

@[simp] theorem State.loseIdentity_ground : (s.loseIdentity b).ground = s.ground := by
  unfold State.loseIdentity
  split <;> simp

@[simp] theorem State.leftInFault_ground : (s.leftInFault b).ground = s.ground := by
  unfold State.leftInFault
  split
  · split <;> simp
  · rfl

@[simp] theorem State.reconcile_ground (rep : Report) : (s.reconcile b rep).ground = s.ground := by
  simp only [State.reconcile]
  split
  · rfl
  · split
    · simp
    · rw [State.modBay_ground _ _ rfl, State.settleAt_ground]

@[simp] theorem State.clearCharges_ground : s.clearCharges.ground = s.ground :=
  State.foldl_ground State.saveChargeAt_ground _ s

@[simp] theorem State.capCharge_ground (n : Nat) (r : PackRec) : (s.capCharge n r).ground = s.ground := by
  unfold State.capCharge
  split
  · exact (State.saveCharge_ground _ _).trans (s.modPack_ground _ fun _ => rfl)
  · rfl

theorem Bay.capAnonymous_stance (y : Bay) (c : ClassNo) (n : Nat) : (y.capAnonymous c n).stance = y.stance := by
  unfold Bay.capAnonymous
  split
  · next h =>
    split
    · simp only [Bay.stance, h]
      rfl
    · rfl
  · rfl

@[simp] theorem State.capCharges_ground (c : ClassNo) (n : Nat) : (s.capCharges c n).ground = s.ground := by
  have hpacks : (s.capPacks c n).ground = s.ground := State.foldl_ground (fun u r => u.capCharge_ground n r) _ s
  have hbays : ∀ (u : State) (v : Vector Bay 24), (∀ b : BayNo, v[b].stance = (u.bay b).stance) →
      (u.setBays v).ground = u.ground := fun u v hv =>
    State.ground_eq rfl (State.footing_eq hv (fun _ => rfl) rfl rfl rfl rfl)
  rw [State.capCharges_eq, hbays _ _ fun b => by simp [Bay.capAnonymous_stance], hpacks]

@[simp] theorem State.enterEvaluation_ground (se se' : Session) (st : Stage) (cr : ClassRec) (rep : Report) (prev : Nat)
    (fl : Flags) : (s.enterEvaluation b se se' st cr rep prev fl).ground = s.ground := by
  rw [State.enterEvaluation, State.setChargeAt_ground, State.modBay_ground _ _ rfl]

@[simp] theorem State.setMask_ground (m : Vector Bool 8) : (s.setMask m).ground = s.ground := by
  rw [State.setMask, State.write_ground _ rfl]
  rfl

@[simp] theorem State.setHeader_ground (p : ProfileNo) (h : Header) : (s.setHeader p h).ground = s.ground := by
  rw [State.setHeader, State.write_ground _ rfl]
  rfl

@[simp] theorem State.setStageRec_ground (p : ProfileNo) (k : StageNo) (st : Stage) :
    (s.setStageRec p k st).ground = s.ground := by
  rw [State.setStageRec, State.write_ground _ rfl]
  rfl

end

end Sys2Proof.Machine
end

section
/-! SUPPORT. A rack in order: queues, turns, grants within the caps, levels as R96 gives them, and requests and grants that
reach their floors, with the rules for the allocator's operations (R86, R96, R98, R102, R106, R107). -/

namespace Sys2Proof.Machine

/-- What is kept of the allocator: the queues and turns of its table, its grants within the caps, the levels of R96, and the
floors. -/
structure Aims where
  table : Prop
  caps : Prop
  levels : Prop
  floors : Prop
  caps_table : caps → table
  floors_table : floors → table

/-- The aims that stand while a pass is still due. -/
def Aims.uncapped (a : Aims) : Aims := { a with caps := False, caps_table := False.elim }

/-- The aims under which every registered pack that a bay runs must have a record. -/
def Aims.strict (a : Aims) : Prop := a.levels ∨ a.floors

/-- The rack is in order, but for the levels of the bays `D`, which are still to be recomputed. -/
structure State.Orderly (s : State) (a : Aims) (D : List BayNo) : Prop where
  queues : a.table → s.QueuesAgree
  turns : a.table → s.TurnsOk
  lawful : a.caps → s.GrantsLawful
  recorded : a.strict → s.footing.Recorded
  levels : a.levels → ∀ x, x ∉ D → (s.grant x).level = s.footing.levelOf x
  floors : a.floors → s.FloorsMet
  ranges : a.floors → s.footing.InRange

/-- A bay that asks for no power and is granted none. -/
def State.IdleAt (s : State) (b : BayNo) : Prop := (s.grant b).request = 0 ∧ (s.grant b).granted = 0

/-- A bay may take an identity: it is the same class's pack, or the bay is idle, and a registered pack has a record. -/
def State.MayHold (s : State) (a : Aims) (b : BayNo) (i : Identity) : Prop :=
  i.kind = (s.bay b).identity.kind ∨
    (a.floors → s.IdleAt b) ∧ (a.strict → ∀ g, i = .registered g → (s.packCls g).isSome = true)

section
variable {s t : State} {a : Aims} {D : List BayNo} {b : BayNo}

/-! ## Agreement of allocators and footings -/

theorem State.grant_of_alloc (h : t.alloc = s.alloc) (b : BayNo) : t.grant b = s.grant b := by
  rw [State.grant, h, State.grant]

theorem State.QueuesAgree.of_alloc (hs : s.QueuesAgree) (h : t.alloc = s.alloc) : t.QueuesAgree :=
  hs.congr (fun x => by rw [State.grant_of_alloc h]) (fun x => by rw [State.grant_of_alloc h]) (State.queueAt_of_alloc h)

theorem State.TurnsOk.of_alloc (hs : s.TurnsOk) (h : t.alloc = s.alloc) : t.TurnsOk := fun x => by
  rw [State.grant_of_alloc h]
  exact hs x

theorem State.GrantsLawful.of_alloc (hs : s.GrantsLawful) (h : t.alloc = s.alloc) (hf : ∀ x, t.feeder x = s.feeder x) :
    t.GrantsLawful := by
  have hgrant := State.grant_of_alloc h
  have hunits : t.grantedUnits = s.grantedUnits := by simp only [State.grantedUnits, hgrant]
  have hcap : t.effectiveCap = s.effectiveCap := by simp only [State.effectiveCap, h]
  have hcaps : ∀ f, t.feederCap f = s.feederCap f := fun f => by simp only [State.feederCap, h]
  have hbays : ∀ f, t.feederBays f = s.feederBays f := fun f => by simp only [State.feederBays, hf]
  simp only [State.GrantsLawful, hunits, hcap, hcaps, hbays, hgrant, hf]
  exact hs

theorem State.FloorsMet.of_grants (hs : s.FloorsMet) (h : ∀ x, t.grant x = s.grant x)
    (hf : ∀ x, t.floorAt x = s.floorAt x ∨ s.IdleAt x) : t.FloorsMet := fun x => by
  rw [h]
  rcases hf x with hf | ⟨hr, hg⟩
  · rw [hf]
    exact hs x
  · exact ⟨.inl hr, .inl hg⟩

/-- An operation that leaves allocator and footing alone keeps the rack in order. -/
theorem State.Orderly.quiet (h : s.Orderly a D) (hg : t.ground = s.ground) : t.Orderly a D := by
  have halloc := State.alloc_of_ground hg
  have hfoot := State.footing_of_ground hg
  have hfeeder : ∀ x, t.feeder x = s.feeder x := fun x => by rw [State.feeder_eq, hfoot, State.feeder_eq]
  have hfloor : ∀ x, t.floorAt x = s.floorAt x := fun x => by rw [State.floorAt_eq, hfoot, State.floorAt_eq]
  exact ⟨fun ha => (h.queues ha).of_alloc halloc, fun ha => (h.turns ha).of_alloc halloc,
    fun ha => (h.lawful ha).of_alloc halloc hfeeder, fun ha => hfoot ▸ h.recorded ha,
    fun ha x hx => by rw [State.grant_of_alloc halloc, hfoot]; exact h.levels ha x hx,
    fun ha => (h.floors ha).of_grants (State.grant_of_alloc halloc) fun x => .inl (hfloor x),
    fun ha => hfoot ▸ h.ranges ha⟩

/-- More levels may be owed. -/
theorem State.Orderly.owing {E : List BayNo} (h : s.Orderly a D) (hD : D ⊆ E) : s.Orderly a E :=
  ⟨h.queues, h.turns, h.lawful, h.recorded, fun ha x hx => h.levels ha x fun hd => hx (hD hd), h.floors, h.ranges⟩

theorem State.Orderly.uncapped (h : s.Orderly a D) : s.Orderly a.uncapped D :=
  ⟨h.queues, h.turns, False.elim, h.recorded, h.levels, h.floors, h.ranges⟩

/-! ## Grants, requests and levels -/

/-- A grant entry that is right about its turn (R107). -/
def Grant.TurnOk (e : Grant) : Prop :=
  (e.mode = .turn → e.turnLength.isSome = true) ∧ (e.turnExpiry.isSome = true → e.mode = .turn ∧ e.granted ≠ 0)

theorem Grant.turnOk_of_none {e : Grant} (hm : e.mode = .turn → e.turnLength.isSome = true) (he : e.turnExpiry = none) :
    e.TurnOk := ⟨hm, fun h => by simp [he] at h⟩

theorem State.QueuesAgree.modGrant (h : s.QueuesAgree) {f : Grant → Grant}
    (hr : (f (s.grant b)).request = (s.grant b).request) (hl : (f (s.grant b)).level = (s.grant b).level) :
    (s.modGrant b f).QueuesAgree := by
  refine h.congr (fun x => ?_) (fun x => ?_) fun l => s.modGrant_queueAt f l
  · rw [State.modGrant_grant]; split
    · next hx => rw [hr, hx]
    · rfl
  · rw [State.modGrant_grant]; split
    · next hx => rw [hl, hx]
    · rfl

/-- An update of a grant entry that keeps request, granted units and level. -/
theorem State.Orderly.modGrant (h : s.Orderly a D) {f : Grant → Grant} (hr : (f (s.grant b)).request = (s.grant b).request)
    (hg : (f (s.grant b)).granted = (s.grant b).granted) (hl : (f (s.grant b)).level = (s.grant b).level)
    (ht : (s.grant b).TurnOk → (f (s.grant b)).TurnOk) : (s.modGrant b f).Orderly a D := by
  have hreq : ∀ x, ((s.modGrant b f).grant x).request = (s.grant x).request := fun x => by
    rw [State.modGrant_grant]; split
    · next hx => rw [hr, hx]
    · rfl
  have hgranted : ∀ x, ((s.modGrant b f).grant x).granted = (s.grant x).granted := fun x => by
    rw [State.modGrant_grant]; split
    · next hx => rw [hg, hx]
    · rfl
  have hlevel : ∀ x, ((s.modGrant b f).grant x).level = (s.grant x).level := fun x => by
    rw [State.modGrant_grant]; split
    · next hx => rw [hl, hx]
    · rfl
  refine ⟨fun ha => (h.queues ha).modGrant hr hl, fun ha x => ?_, fun ha => ?_, h.recorded,
    fun ha x hx => (hlevel x).trans (h.levels ha x hx), fun ha x => ?_, h.ranges⟩
  · rw [State.modGrant_grant]
    split
    · exact ht (h.turns ha b)
    · exact h.turns ha x
  · have hunits : (s.modGrant b f).grantedUnits = s.grantedUnits := by simp only [State.grantedUnits, hgranted]
    obtain ⟨hsite, hfeeders, hbays⟩ := h.lawful ha
    refine ⟨by rw [hunits]; exact hsite, fun k => by rw [hunits]; exact hfeeders k, fun x => ?_⟩
    rw [hgranted, hreq]
    exact hbays x
  · rw [hreq, hgranted]
    exact h.floors ha x

/-- A pass keeps floors met (R106, law 3). -/
theorem State.pass_floorsMet (h : s.FloorsMet) : s.pass.FloorsMet := fun b => by
  obtain ⟨-, -, -, hr, -, -⟩ := State.caps_of_passOutline s.pass_passOutline
  rw [State.floorAt_eq, State.pass_footing, ← State.floorAt_eq, hr, State.pass_granted]
  exact ⟨(h b).1, State.afterPass_floored h b⟩

/-- A pass puts the grants in order (R102, R106). -/
theorem State.Orderly.pass (h : s.Orderly a.uncapped D) : s.pass.Orderly a D := by
  obtain ⟨-, -, -, -, hl, -⟩ := State.caps_of_passOutline s.pass_passOutline
  refine ⟨fun ha => State.pass_queuesAgree (h.queues ha), fun ha => State.pass_turnsOk (h.turns ha),
    fun ha => State.pass_grantsLawful (h.queues (a.caps_table ha)), fun ha => ?_, fun ha x hx => ?_,
    fun ha => State.pass_floorsMet (h.floors ha), fun ha => ?_⟩
  · rw [State.pass_footing]; exact h.recorded ha
  · rw [State.pass_footing, hl]; exact h.levels ha x hx
  · rw [State.pass_footing]; exact h.ranges ha

theorem State.enterRequest_grant (b x : BayNo) (r : Nat) : (s.enterRequest b r).grant x =
    if x = b then { s.grant b with request := r, yielded := (s.grant b).yielded && decide (r ≠ 0) } else s.grant x := by
  have hset := State.modGrant_grant s b x fun e => { e with request := r, yielded := e.yielded && decide (r ≠ 0) }
  simp only [State.enterRequest]
  split
  · exact hset
  · split <;> exact hset

/-- A new request keeps queues and entries in agreement (R98). -/
theorem State.enterRequest_queuesAgree (h : s.QueuesAgree) (b : BayNo) (r : Nat) : (s.enterRequest b r).QueuesAgree := by
  intro l
  obtain ⟨hnodup, hmem⟩ := h l
  change (s.queueAt l).Nodup at hnodup
  change ∀ x, x ∈ s.queueAt l ↔ _ at hmem
  change ((s.enterRequest b r).queueAt l).Nodup ∧ ∀ x, x ∈ (s.enterRequest b r).queueAt l ↔ _
  rw [State.enterRequest_queueAt, queueAfter]
  have hb := hmem b
  split
  · next hin =>
    obtain ⟨hl, hzero, hr⟩ := hin
    have hout : b ∉ s.queueAt l := fun hb' => (hb.1 hb').2 hzero
    refine ⟨List.nodup_append'.2 ⟨hnodup, by simp, by simpa using hout⟩, fun x => ?_⟩
    rw [State.enterRequest_grant, List.mem_append, hmem x]
    by_cases hx : x = b <;> simp [hx, hl, hr]
  · next hin =>
    split
    · next hgone =>
      obtain ⟨hl, hold, hr⟩ := hgone
      refine ⟨hnodup.filter _, fun x => ?_⟩
      rw [State.enterRequest_grant, List.mem_filter, hmem x]
      by_cases hx : x = b <;> simp [hx, hr]
    · next hgone =>
      refine ⟨hnodup, fun x => ?_⟩
      rw [State.enterRequest_grant, hmem x]
      by_cases hx : x = b
      · subst hx
        rw [if_pos rfl]
        refine and_congr_right fun hl => ?_
        dsimp only
        constructor
        · exact fun hold hr => hgone ⟨hl.symm, hold, hr⟩
        · exact fun hr hold => hin ⟨hl.symm, hold, hr⟩
      · rw [if_neg hx]

/-- A new request that reaches its floor; the grants are those of before. -/
theorem State.Orderly.enterRequest (h : s.Orderly a.uncapped D) {r : Nat} (hr : a.floors → r = 0 ∨ s.floorAt b ≤ r) :
    (s.enterRequest b r).Orderly a.uncapped D := by
  refine ⟨fun ha => State.enterRequest_queuesAgree (h.queues ha) b r, fun ha x => ?_, False.elim, fun ha => ?_,
    fun ha x hx => ?_, fun ha x => ?_, fun ha => ?_⟩
  · rw [State.enterRequest_grant]
    split
    · exact h.turns ha b
    · exact h.turns ha x
  · rw [State.enterRequest_footing]; exact h.recorded ha
  · rw [State.enterRequest_footing, State.enterRequest_grant, ← h.levels ha x hx]
    split
    · next hx => rw [hx]
    · rfl
  · rw [State.floorAt_eq, State.enterRequest_footing, ← State.floorAt_eq, State.enterRequest_grant]
    split
    · next hx =>
      rw [hx]
      exact ⟨hr ha, (h.floors ha b).2⟩
    · exact h.floors ha x
  · rw [State.enterRequest_footing]; exact h.ranges ha

/-- A request handed to the allocator (R37, R86). -/
theorem State.Orderly.handRequest (h : s.Orderly a D) {r : Nat} (hr : a.floors → r = 0 ∨ s.floorAt b ≤ r) :
    (s.handRequest b r).Orderly a D := by
  unfold State.handRequest
  split
  · exact h
  · exact (h.uncapped.enterRequest hr).pass

/-- A request released (R40, R61). -/
theorem State.Orderly.releaseRequest (h : s.Orderly a.uncapped D) (b : BayNo) : (s.releaseRequest b).Orderly a D :=
  (h.enterRequest fun _ => .inl rfl).pass

theorem State.Orderly.releaseAtRest (h : s.Orderly a D) (b : BayNo) : (s.releaseAtRest b).Orderly a D := by
  unfold State.releaseAtRest
  split
  · exact h.uncapped.releaseRequest b
  · exact h

/-- A released bay is idle (R106, law 1). -/
theorem State.releaseRequest_idle (h : s.QueuesAgree) (b : BayNo) : (s.releaseRequest b).IdleAt b := by
  have hr : ((s.releaseRequest b).grant b).request = 0 := State.request_of_seat (s.releaseRequest_seat b)
  have hg := ((State.pass_grantsLawful (State.enterRequest_queuesAgree h b 0)).2.2 b).1
  exact ⟨hr, Nat.le_zero.1 (hg.trans (Nat.le_of_eq hr))⟩

/-- A recomputed level is no longer owed (R96). -/
theorem State.Orderly.relevel (h : s.Orderly a (b :: D)) : (s.relevel b).Orderly a D := by
  have hlevels : a.levels → ∀ x, x ∉ D → ((s.relevel b).grant x).level = (s.relevel b).footing.levelOf x := by
    intro ha x hx
    rw [State.relevel_level, State.relevel_footing]
    split
    · next hxb => rw [State.levelOf_eq, hxb]
    · next hxb => exact h.levels ha x (by simp [hx, hxb])
  have hqueues : a.table → (s.relevel b).QueuesAgree := fun ha => State.relevel_queuesAgree (h.queues ha) b
  have hturns : a.table → (s.relevel b).TurnsOk := fun ha => State.relevel_turnsOk (h.turns ha) b
  refine ⟨hqueues, hturns, fun ha => ?_, fun ha => ?_, hlevels, fun ha => ?_, fun ha => ?_⟩
  · unfold State.relevel
    split
    · exact h.lawful ha
    · exact State.pass_grantsLawful (State.enterLevel_queuesAgree (h.queues (a.caps_table ha)) b _)
  · rw [State.relevel_footing]; exact h.recorded ha
  · unfold State.relevel
    split
    · exact h.floors ha
    · refine State.pass_floorsMet fun x => ?_
      rw [State.floorAt_eq, State.enterLevel_footing, ← State.floorAt_eq, State.enterLevel_grant]
      split
      · next hx => exact hx ▸ h.floors ha x
      · exact h.floors ha x
  · rw [State.relevel_footing]; exact h.ranges ha

theorem State.Orderly.relevels {l : List BayNo} (h : s.Orderly a (l ++ D)) : (l.foldl State.relevel s).Orderly a D := by
  induction l generalizing s with
  | nil => exact h
  | cons b l ih => exact ih h.relevel

theorem State.Orderly.foldl {α : Type} {f : State → α → State}
    (hf : ∀ (u : State) x, u.Orderly a D → (f u x).Orderly a D) (l : List α) (h : s.Orderly a D) :
    (l.foldl f s).Orderly a D := by
  induction l generalizing s with
  | nil => exact h
  | cons x xs ih => exact ih (hf s x h)

/-- A carried value (R99, R100). -/
theorem State.Orderly.setCarried (h : s.Orderly a D) (b : BayNo) (n : Nat) : (s.setCarried b n).Orderly a D := by
  have hset : (s.modGrant b fun e => { e with carried := n }).Orderly a D := h.modGrant rfl rfl rfl id
  simp only [State.setCarried]
  split
  · exact hset.uncapped.pass
  · exact hset

/-! ## Shortage and ready counts -/

theorem State.mem_chargingOf {c : ClassNo} {x : BayNo} : x ∈ s.chargingOf c ↔
    (s.bay x).state = .charge ∧ (s.bay x).holdsAnonymous = false ∧ s.classInUse x = some c := by
  simp [State.chargingOf, mem_allBays, and_assoc]

/-- A shortage state that changes leaves the levels of the class's charging bays owed (R117). -/
theorem State.Orderly.setShort (h : s.Orderly a D) (c : ClassNo) (v : Bool) :
    (s.setShort c v).Orderly a (s.chargingOf c ++ D) := by
  have hfoot : (s.setShort c v).footing = { s.footing with short := s.footing.short.set c v } := rfl
  have hfloor : ∀ x, (s.setShort c v).floorAt x = s.floorAt x := fun _ => rfl
  refine ⟨h.queues, h.turns, h.lawful, h.recorded, fun ha x hx => ?_, fun ha => (h.floors ha).of_grants (fun _ => rfl)
    fun x => .inl (hfloor x), h.ranges⟩
  obtain ⟨hc, hD⟩ := not_or.1 fun hm => hx (List.mem_append.2 hm)
  refine (h.levels ha x hD).trans ?_
  rw [hfoot]
  simp only [Footing.levelOf]
  cases hst : (s.footing.stances x).state with
  | charge =>
    cases hi : (s.footing.stances x).holds with
    | registered t =>
      have hid : (s.bay x).identity = .registered t := Identity.kind_registered.1 hi
      have hcls : s.footing.packCls t ≠ some c := fun hp => hc (State.mem_chargingOf.2
        ⟨hst, by simp [Bay.holdsAnonymous, hid], by rw [State.classInUse_eq, Footing.classInUse, hi]; exact hp⟩)
      dsimp only
      cases hp : s.footing.packCls t with
      | none => rfl
      | some k =>
        have hk : k ≠ c := fun hk => hcls (hk ▸ hp)
        simp [Fin.val_inj, hk.symm]
    | empty => rfl
    | anonymous => rfl
  | _ => rfl

theorem State.Orderly.computeShort (h : s.Orderly a D) (c : ClassNo) : (s.computeShort c).Orderly a D := by
  simp only [State.computeShort]
  split
  · exact h
  · refine State.Orderly.relevels ?_
    split
    · exact (h.setShort c _).quiet (State.raiseShort_ground _ c)
    · exact h.setShort c _

theorem State.Orderly.computeAllShort (h : s.Orderly a D) : s.computeAllShort.Orderly a D :=
  .foldl (fun _ c hu => hu.computeShort c) _ h

theorem State.Orderly.handReady (h : s.Orderly a D) (c : ClassNo) : (s.handReady c).Orderly a D := by
  unfold State.handReady
  split
  · exact h
  · exact State.Orderly.computeShort (h.quiet (s.setReady_ground c _)) c

theorem State.Orderly.handAllReady (h : s.Orderly a D) : s.handAllReady.Orderly a D :=
  .foldl (fun _ c hu => hu.handReady c) _ h

theorem State.Orderly.handUnless (h : s.Orderly a D) (own : Bool) : (State.handUnless own s).Orderly a D := by
  cases own
  · exact h.handAllReady
  · exact h

theorem State.Orderly.closeEvent (h : s.Orderly a D) (cs : List ClassNo) : (s.closeEvent cs).Orderly a D := by
  simp only [State.closeEvent]
  refine .foldl (fun _ c hu => hu.computeShort c) _ (h.quiet ?_)
  exact State.foldl_ground (fun u c => u.setReady_ground c _) allClasses s

/-! ## Sequencers -/

theorem Footing.levelOf_of_idle {n : Footing} (h : (n.stances b).state ≠ .charge) : n.levelOf b = (n.stances b).base := by
  unfold Footing.levelOf
  split
  · next hc _ => exact absurd hc h
  · rfl

/-- An update of a sequencer: the level is owed where a bay enters or leaves CHARGE or takes another base level, a bay takes
another class's pack only while it is idle, and a changed feeder waits for a pass. -/
theorem State.Orderly.restance (h : s.Orderly a D) {f : Bay → Bay}
    (hfeeder : a.caps → (f (s.bay b)).cfg.feeder = (s.bay b).cfg.feeder)
    (hlevel : a.levels → b ∈ D ∨ (s.bay b).state ≠ .charge ∧ (f (s.bay b)).state ≠ .charge ∧
      (f (s.bay b)).cfg.baseLevel = (s.bay b).cfg.baseLevel)
    (hid : s.MayHold a b (f (s.bay b)).identity) : (s.modBay b f).Orderly a D := by
  have hb : ((s.modBay b f).footing.stances b) = (f (s.bay b)).stance := by
    change ((s.modBay b f).bay b).stance = _
    rw [State.modBay_bay, if_pos rfl]
  have hne : ∀ x, x ≠ b → (s.modBay b f).footing.stances x = s.footing.stances x := fun x hx => by
    change ((s.modBay b f).bay x).stance = _
    rw [State.modBay_bay, if_neg hx]
    rfl
  have hrest : (s.modBay b f).footing.packCls = s.footing.packCls ∧ (s.modBay b f).footing.short = s.footing.short ∧
      (s.modBay b f).footing.classes = s.footing.classes := ⟨rfl, rfl, rfl⟩
  obtain ⟨hpack, hshort, hclasses⟩ := hrest
  refine ⟨h.queues, h.turns, fun ha => (h.lawful ha).of_alloc rfl fun x => ?_, fun ha x g hg => ?_, fun ha x hx => ?_,
    fun ha => (h.floors ha).of_grants (fun _ => rfl) fun x => ?_, h.ranges⟩
  · by_cases hx : x = b
    · rw [State.feeder_eq, hx, hb]
      exact hfeeder ha
    · rw [State.feeder_eq, hne x hx, State.feeder_eq]
  · by_cases hx : x = b
    · rw [hx, hb] at hg
      rcases hid with hid | ⟨-, hid⟩
      · exact h.recorded ha b g (hid.symm.trans hg)
      · exact hid ha g (Identity.kind_registered.1 hg)
    · rw [hne x hx] at hg
      exact h.recorded ha x g hg
  · refine (h.levels ha x hx).trans ?_
    by_cases hxb : x = b
    · subst hxb
      obtain ⟨hold, hnew, hbase⟩ := (hlevel ha).resolve_left hx
      rw [Footing.levelOf_of_idle hold, Footing.levelOf_of_idle (by rw [hb]; exact hnew), hb]
      exact hbase.symm
    · simp only [Footing.levelOf, hne x hxb, hpack, hshort]
  · by_cases hxb : x = b
    · subst hxb
      rcases hid with hid | ⟨hidle, -⟩
      · have hholds : ((s.modBay x f).footing.stances x).holds = (s.footing.stances x).holds := by rw [hb]; exact hid
        exact .inl (by simp only [State.floorAt_eq, Footing.floorAt, Footing.classInUse, hholds, hpack, hclasses])
      · exact .inr (hidle ha)
    · exact .inl (by simp only [State.floorAt_eq, Footing.floorAt, Footing.classInUse, hne x hxb, hpack, hclasses])

/-- An update of a sequencer that keeps its configuration. -/
theorem State.Orderly.modBay (h : s.Orderly a D) {f : Bay → Bay} (hcfg : (f (s.bay b)).cfg = (s.bay b).cfg)
    (hlevel : a.levels → b ∈ D ∨ (s.bay b).state ≠ .charge ∧ (f (s.bay b)).state ≠ .charge)
    (hid : s.MayHold a b (f (s.bay b)).identity) : (s.modBay b f).Orderly a D :=
  h.restance (fun _ => by rw [hcfg]) (fun ha => (hlevel ha).imp_right fun ⟨ho, hn⟩ => ⟨ho, hn, by rw [hcfg]⟩) hid

theorem State.MayHold.same {i : Identity} (h : i.kind = (s.bay b).identity.kind) : s.MayHold a b i := .inl h

theorem State.MayHold.empty (h : a.floors → s.IdleAt b) : s.MayHold a b .empty :=
  .inr ⟨h, fun _ g hg => by cases hg⟩

/-- A bay enters a state. -/
theorem State.Orderly.moveTo (h : s.Orderly a D) {st : BayState}
    (hlevel : a.levels → b ∈ D ∨ (s.bay b).state ≠ .charge ∧ st ≠ .charge) : (s.moveTo b st).Orderly a D :=
  State.Orderly.quiet (h.modBay (f := fun y => { y with state := st }) rfl hlevel (.same rfl)) (State.redrive_ground _ b)

end

end Sys2Proof.Machine
end

section
/-! SUPPORT. Sessions, latches, identification and pack records keep a rack in order (R14, R15, R31, R33 to R36, R40, R46,
R61, R142 to R144): where a bay enters or leaves CHARGE its level is recomputed, and where it takes another pack it is
idle. -/

namespace Sys2Proof.Machine

section
variable {s t : State} {a : Aims} {D : List BayNo} {b : BayNo}

/-! ## Idle bays -/

theorem State.IdleAt.of_ground (h : s.IdleAt b) (hg : t.ground = s.ground) : t.IdleAt b := by
  rw [State.IdleAt, State.grant_of_alloc (State.alloc_of_ground hg)]
  exact h

/-- A bay that asks for nothing is granted nothing (R106, law 1). -/
theorem State.Orderly.idleAt (h : s.Orderly a D) (ha : a.floors → a.caps) (hr : (s.grant b).request = 0)
    (hf : a.floors) : s.IdleAt b :=
  ⟨hr, Nat.le_zero.1 (((h.lawful (ha hf)).2.2 b).1.trans (Nat.le_of_eq hr))⟩

/-- A bay without a session is idle. -/
def State.SparesAt (s : State) (b : BayNo) : Prop := (s.bay b).session = none → s.IdleAt b

theorem State.SparesAt.of_session {se : Session} (h : (s.bay b).session = some se) : s.SparesAt b := fun hn => by
  rw [h] at hn
  cases hn

theorem State.Orderly.sparesAt (h : s.Orderly a D) (ha : a.floors → a.caps)
    (hr : a.strict → (s.bay b).session = none → (s.grant b).request = 0) (hf : a.floors) : s.SparesAt b := fun hs =>
  h.idleAt ha (hr (.inr hf) hs) hf

/-! ## Sessions and bay states -/

/-- A session that ends (R40, R107). -/
theorem State.Orderly.endSession (h : s.Orderly a D) (b : BayNo) : (s.endSession b).Orderly a D := by
  unfold State.endSession
  split
  · have hclosed := h.quiet (s.modBay_ground b (f := fun y => { y with session := none }) rfl)
    exact (hclosed.modGrant (b := b) (f := fun e => { e with mode := .hold, turnLength := none, turnExpiry := none })
      rfl rfl rfl fun _ => Grant.turnOk_of_none (fun he => nomatch he) rfl).uncapped.releaseRequest b
  · exact h

theorem State.endSession_idle (hq : s.QueuesAgree) (h : s.SparesAt b) : (s.endSession b).IdleAt b := by
  unfold State.endSession
  split
  · have hclosed : (s.modBay b fun y => { y with session := none }).QueuesAgree := hq.of_alloc rfl
    exact State.releaseRequest_idle (hclosed.modGrant (b := b)
      (f := fun e => { e with mode := .hold, turnLength := none, turnExpiry := none }) rfl rfl) b
  · next hs => exact h (by simpa using hs)

/-- A session record opened (R35, R107). -/
theorem State.Orderly.openSession (h : s.Orderly a D) (b : BayNo) (p : ProfileNo) (w : Bool) (e : Ending) :
    (s.openSession b p w e).Orderly a D :=
  (h.quiet (s.modBay_ground b rfl)).modGrant (b := b) rfl rfl rfl fun _ => Grant.turnOk_of_none (fun _ => rfl) rfl

/-- A bay that stops running its pack (R32, R46, R47). -/
theorem State.Orderly.emptied (h : s.Orderly a D) {f : Bay → Bay} (hcfg : ∀ y, (f y).cfg = y.cfg)
    (hst : ∀ y, (f y).state = y.state) (hid : ∀ y, (f y).identity = .empty)
    (hlevel : a.levels → b ∈ D ∨ (s.bay b).state ≠ .charge) (hidle : a.floors → s.IdleAt b) :
    (s.modBay b f).Orderly a D :=
  h.modBay (hcfg _) (fun ha => (hlevel ha).imp_right fun hc => ⟨hc, by rw [hst]; exact hc⟩)
    (by rw [hid]; exact .empty hidle)

/-- A bay enters a state without a pack. -/
theorem State.Orderly.emptied_moveTo (h : s.Orderly a D) {f : Bay → Bay} {st : BayState} (hcfg : ∀ y, (f y).cfg = y.cfg)
    (hst : ∀ y, (f y).state = y.state) (hid : ∀ y, (f y).identity = .empty) (hne : st ≠ .charge)
    (hlevel : a.levels → b ∈ D ∨ (s.bay b).state ≠ .charge) (hidle : a.floors → s.IdleAt b) :
    ((s.modBay b f).moveTo b st).Orderly a D :=
  (h.emptied hcfg hst hid hlevel hidle).moveTo fun ha => (hlevel ha).imp_right fun hc =>
    ⟨by rw [State.modBay_bay, if_pos rfl, hst]; exact hc, hne⟩

theorem State.Orderly.toVacant (h : s.Orderly a D) (hlevel : a.levels → b ∈ D ∨ (s.bay b).state ≠ .charge)
    (hidle : a.floors → s.IdleAt b) : (s.toVacant b).Orderly a D :=
  h.emptied_moveTo (fun _ => rfl) (fun _ => rfl) (fun _ => rfl) (by decide) hlevel hidle

theorem State.Orderly.dock (h : s.Orderly a D) (hlevel : a.levels → b ∈ D ∨ (s.bay b).state ≠ .charge)
    (hidle : a.floors → s.IdleAt b) : (s.dock b).Orderly a D :=
  h.emptied_moveTo (fun _ => rfl) (fun _ => rfl) (fun _ => rfl) (by decide) hlevel hidle

theorem State.Orderly.reidentify (h : s.Orderly a D) (hlevel : a.levels → b ∈ D ∨ (s.bay b).state ≠ .charge)
    (hidle : a.floors → s.IdleAt b) : (s.reidentify b).Orderly a D := by
  unfold State.reidentify
  split
  · exact h.emptied_moveTo (fun _ => rfl) (fun _ => rfl) (fun _ => rfl) (by decide) hlevel hidle
  · exact h.toVacant hlevel hidle

theorem State.Orderly.toStandby (h : s.Orderly a D) (hlevel : a.levels → b ∈ D ∨ (s.bay b).state ≠ .charge) (e : Ending) :
    (s.toStandby b e).Orderly a D := by
  refine State.Orderly.moveTo (h.quiet (s.modBay_ground b rfl)) fun ha => (hlevel ha).imp_right fun hc => ⟨?_, by decide⟩
  rw [State.modBay_bay, if_pos rfl]
  exact hc

/-! ## Latches -/

/-- A bay loses its session and its pack to a fault; its level may be owed (R144). -/
theorem State.Orderly.faulted (h : s.Orderly a (b :: D)) (hspare : a.floors → s.SparesAt b) (ks : List FaultKind)
    (own : Bool) : ((State.handUnless own ((((s.endSession b).quarantineFor b ks).modBay b fun y =>
      { y with identity := .empty, outcome := .none, preIssue := none, coolExpiry := none }).moveTo b
        .fault)).relevel b).Orderly a D := by
  have hquiet := State.quarantineFor_ground (s.endSession b) b ks
  have hidle : a.floors → ((s.endSession b).quarantineFor b ks).IdleAt b := fun hf =>
    (State.endSession_idle (h.queues (a.floors_table hf)) (hspare hf)).of_ground hquiet
  have hend : ((s.endSession b).quarantineFor b ks).Orderly a (b :: D) := (h.endSession b).quiet hquiet
  refine State.Orderly.relevel (State.Orderly.handUnless ?_ own)
  exact hend.emptied_moveTo (fun _ => rfl) (fun _ => rfl) (fun _ => rfl) (by decide)
    (fun _ => .inl (List.mem_cons_self ..)) hidle

/-- A fault that latches in a bay that is idle without a session (R143, R144). -/
theorem State.Orderly.latch (h : s.Orderly a (b :: D)) (hspare : a.floors → s.SparesAt b) (k : FaultKind)
    (ks : List FaultKind) (n : Option Nat) (c : Option ClassNo) (own : Bool) :
    (s.latch b k ks n c own).Orderly a D := by
  have hsaved : ∀ u : State, u.ground = s.ground → u.seat b = { s.seat b with fault := some (s.faultRecord b k ks n c) } →
      (u.saveChargesAt b).Orderly a (b :: D) ∧ (a.floors → (u.saveChargesAt b).SparesAt b) := fun u hu hseat => by
    have hground : (u.saveChargesAt b).ground = s.ground := (State.saveChargesAt_ground u b).trans hu
    refine ⟨h.quiet hground, fun hf hs => (hspare hf ?_).of_ground hground⟩
    rw [State.session_of_seat ((State.saveChargesAt_seat u b b).trans hseat)] at hs
    exact hs
  have hrecord := s.setFault_seat b (some (s.faultRecord b k ks n c))
  simp only [State.latch]
  split
  · obtain ⟨hu, hsp⟩ := hsaved ((s.setFault b (some (s.faultRecord b k ks n c))).cancelPart b)
      (State.cancelPart_ground _ b) ((State.cancelPart_seat _ b b).trans hrecord)
    exact hu.faulted hsp _ own
  · obtain ⟨hu, hsp⟩ := hsaved (s.setFault b (some (s.faultRecord b k ks n c))) rfl hrecord
    exact hu.faulted hsp _ own

theorem State.Orderly.owe (h : s.Orderly a D) (b : BayNo) : s.Orderly a (b :: D) := h.owing (List.subset_cons_self ..)

/-! ## Session starts and returns -/

/-- A session at a bay outside CHARGE (R35). -/
theorem State.Orderly.startSession (h : s.Orderly a D) (hlevel : a.levels → (s.bay b).state ≠ .charge)
    (hspare : a.floors → s.SparesAt b) (toCharge warm own : Bool) : (s.startSession b toCharge warm own).Orderly a D := by
  unfold State.startSession
  split
  · exact (h.owe b).latch hspare _ _ _ _ _
  · next cr _ =>
    have hopen := h.openSession b cr.profile warm .none
    split
    · have hmoved : ((((s.openSession b cr.profile warm .none).enterStage b 0 true).moveTo b .charge)).Orderly a (b :: D) :=
        State.Orderly.moveTo ((hopen.owe b).quiet (State.enterStage_ground _ b _ _)) fun _ => .inl (List.mem_cons_self ..)
      exact (hmoved.releaseAtRest b).relevel
    · refine hopen.moveTo fun ha => .inr ⟨?_, by decide⟩
      have hst : ((s.openSession b cr.profile warm .none).bay b).state = (s.bay b).state := by
        simp [State.openSession]
      rw [hst]
      exact hlevel ha

/-- The return to MAINTAIN from RELEASE (R46). -/
theorem State.Orderly.returnFromRelease (h : s.Orderly a D) (ha : a.floors → a.caps) (hr : a.strict → (s.seat b).Right) :
    (s.returnFromRelease b).Orderly a D := by
  have hrelease : a.strict → (s.bay b).preIssue ≠ none → (s.bay b).state = .release := fun hs hp =>
    (hr hs).preIssue (Option.isSome_iff_ne_none.2 hp)
  have hlevel : (s.bay b).preIssue ≠ none → a.levels → b ∈ D ∨ (s.bay b).state ≠ .charge := fun hp hl =>
    .inr (by rw [hrelease (.inl hl) hp]; decide)
  have hspare : a.floors → s.SparesAt b := h.sparesAt ha fun hs hn => (hr hs).request_of_none hn
  unfold State.returnFromRelease
  split
  · next hp =>
    have hp : (s.bay b).preIssue ≠ none := by rw [hp]; simp
    unfold State.returnToMaintain
    split
    · exact (h.owe b).latch hspare _ _ _ _ _
    · next cr _ =>
      split
      · next k _ =>
        have hopen : ((s.openSession b cr.profile false .complete).enterStage b k true).Orderly a D :=
          (h.openSession b _ _ _).quiet (State.enterStage_ground _ b _ _)
        refine (hopen.moveTo fun hl => (hlevel hp hl).imp_right fun hc => ⟨?_, by decide⟩).releaseAtRest b
        have hst : (((s.openSession b cr.profile false .complete).enterStage b k true).bay b).state = (s.bay b).state := by
          simp [State.openSession, State.enterStage, State.modSession]
        rw [hst]
        exact hc
      · exact h.toStandby (hlevel hp) _
  · next hp => exact h.toStandby (hlevel (by rw [hp]; simp)) _
  · exact h

theorem State.Orderly.coolEnds (h : s.Orderly a D) (ha : a.floors → a.caps) (hr : a.strict → (s.seat b).Right)
    (hst : (s.bay b).state = .cooling) : (s.coolEnds b).Orderly a D := by
  have hquiet := s.modBay_ground b (f := fun y => { y with coolExpiry := none }) rfl
  refine State.Orderly.startSession (h.quiet hquiet) (fun _ => ?_) (fun hf hs => ?_) _ true false
  · rw [State.modBay_bay, if_pos rfl]
    change (s.bay b).state ≠ _
    rw [hst]
    decide
  · have hnone : (s.bay b).session = none := by rw [State.modBay_bay, if_pos rfl] at hs; exact hs
    exact (h.idleAt ha ((hr (.inr hf)).request_of_none hnone) hf).of_ground hquiet

/-! ## Pack records -/

/-- Other records where no bay runs their tags. -/
theorem State.Orderly.repack (h : s.Orderly a D) {p : Nat → Option ClassNo} (halloc : t.alloc = s.alloc)
    (hfoot : t.footing = { s.footing with packCls := p })
    (hp : a.strict → ∀ x g, (s.bay x).identity = .registered g → p g = s.packCls g) : t.Orderly a D := by
  have hgrant := State.grant_of_alloc halloc
  have hfeeder : ∀ x, t.feeder x = s.feeder x := fun x => by rw [State.feeder_eq, hfoot, State.feeder_eq]
  have hsame : a.strict → ∀ x g, (s.footing.stances x).holds = .registered g → p g = s.footing.packCls g :=
    fun ha x g hg => hp ha x g (Identity.kind_registered.1 hg)
  refine ⟨fun ht => (h.queues ht).of_alloc halloc, fun ht => (h.turns ht).of_alloc halloc,
    fun hc => (h.lawful hc).of_alloc halloc hfeeder, fun ha x g hg => ?_, fun ha x hx => ?_,
    fun ha => (h.floors ha).of_grants hgrant fun x => .inl ?_, fun ha => by rw [hfoot]; exact h.ranges ha⟩
  · rw [hfoot] at hg ⊢
    change (p g).isSome = true
    rw [hsame ha x g hg]
    exact h.recorded ha x g hg
  · rw [hgrant, hfoot, h.levels ha x hx]
    simp only [Footing.levelOf]
    split
    · next hst hid => rw [hsame (.inl ha) x _ hid]
    · rfl
  · simp only [State.floorAt_eq, hfoot, Footing.floorAt, Footing.classInUse]
    cases hid : (s.footing.stances x).holds with
    | registered g =>
      dsimp only
      rw [hsame (.inr ha) x g hid]
    | empty => rfl
    | anonymous => rfl

theorem State.addPack_footing (s : State) (r : PackRec) : (s.addPack r).footing = { s.footing with
    packCls := fun g => if g = r.tag then some r.cls else s.packCls g } := by
  have hp : (s.addPack r).packCls = fun g => if g = r.tag then some r.cls else s.packCls g := by
    obtain ⟨hself, hne, -⟩ := s.addPack_register r
    funext g
    split
    · next hg => rw [State.packCls, hg, hself]; rfl
    · next hg => rw [State.packCls, hne g hg, State.packCls]
  have hw : (s.addPack r).inFlight.filterMap StoreWrite.classRec? = s.footing.written := by
    simp [State.addPack, State.setRotation, State.write, StoreWrite.classRec?, State.footing]
  simp only [State.footing] at hw ⊢
  rw [hp, hw]
  rfl

/-- A new record of a tag without one (R15, R17). -/
theorem State.Orderly.addPack (h : s.Orderly a D) {r : PackRec} (hnone : s.pack r.tag = none) :
    (s.addPack r).Orderly a D := by
  refine h.repack rfl (s.addPack_footing r) fun ha x g hg => if_neg fun hgr => ?_
  have hrec := h.recorded ha x g (Identity.kind_registered.2 hg)
  change (s.packCls g).isSome = true at hrec
  rw [State.packCls, hgr, hnone] at hrec
  cases hrec

theorem State.deletePack_footing (s : State) (r : PackRec) : (s.deletePack r).footing = { s.footing with
    packCls := fun g => if g = r.tag then none else s.packCls g } := by
  have hp : (s.deletePack r).packCls = fun g => if g = r.tag then none else s.packCls g := by
    obtain ⟨hself, hne, -⟩ := s.deletePack_register r
    funext g
    split
    · next hg => rw [State.packCls, hg, hself]; rfl
    · next hg => rw [State.packCls, hne g hg, State.packCls]
  have hw : (s.deletePack r).inFlight.filterMap StoreWrite.classRec? = s.footing.written := by
    simp [State.deletePack, State.setRotation, State.write, StoreWrite.classRec?, State.footing]
  simp only [State.footing] at hw ⊢
  rw [hp, hw]
  rfl

/-- A record deleted whose place is not a bay, where each registered pack's record names its bay (R18). -/
theorem State.Orderly.deletePack (h : s.Orderly a D) {r : PackRec} (hr : s.pack r.tag = some r)
    (hplace : r.place.isBay = false) (hplaced : a.strict → s.IdentitiesPlaced) : (s.deletePack r).Orderly a D := by
  refine h.repack rfl (s.deletePack_footing r) fun ha x g hg => if_neg fun hgr => ?_
  have hx := hplaced ha x
  simp only [State.identityPlaced, hg, hgr, hr, Option.map_some, Option.some.injEq, decide_eq_true_eq] at hx
  rw [hx] at hplace
  cases hplace

/-! ## Identification -/

theorem State.mayHold_registered {g : Nat} (hidle : a.floors → s.IdleAt b) (hg : (s.packCls g).isSome = true) :
    s.MayHold a b (.registered g) :=
  .inr ⟨hidle, fun _ x hx => by cases hx; exact hg⟩

theorem State.packCls_of_ground (h : t.ground = s.ground) : t.packCls = s.packCls :=
  congrArg Footing.packCls (State.footing_of_ground h)

theorem State.packCls_isSome (s : State) (g : Nat) : (s.packCls g).isSome = (s.pack g).isSome := by
  rw [State.packCls, Option.isSome_map]

/-- A verdict that accepts a known pack, or quarantines one, is of a pack with a record (R13, R14). -/
theorem State.verdict_recorded {rep : Report} {g : Nat} {c : ClassNo}
    (h : s.verdict b rep = .accepted g c true ∨ s.verdict b rep = .quarantined g c) : (s.pack g).isSome = true := by
  have hanon : ∀ {v}, (v = .accepted g c true ∨ v = .quarantined g c) → s.anonymousVerdict b ≠ v := fun hv => by
    unfold State.anonymousVerdict
    rcases hv with rfl | rfl <;> split <;> simp
  unfold State.verdict at h
  split at h
  · split at h
    · next r hr =>
      have htag : s.pack r.tag = some r := by rw [(mem_of_findPack hr).2]; exact hr
      unfold State.knownVerdict at h
      split at h
      · simp at h
      · split at h
        · simp at h
        · split at h
          · simp only [Verdict.accepted.injEq, reduceCtorEq, or_false] at h
            rw [← h.1, htag]
            rfl
          · simp only [Verdict.quarantined.injEq, reduceCtorEq, false_or] at h
            rw [← h.1, htag]
            rfl
    · unfold State.unknownVerdict at h
      split at h
      · simp at h
      · split at h
        · simp at h
        · split at h
          · rcases h with h | h
            · exact absurd h (hanon (.inl rfl))
            · exact absurd h (hanon (.inr rfl))
          · simp at h
  · rcases h with h | h
    · exact absurd h (hanon (.inl rfl))
    · exact absurd h (hanon (.inr rfl))

theorem State.Orderly.goOn (h : s.Orderly a D) (hst : (s.bay b).state = .identify) (hspare : a.floors → s.SparesAt b)
    (tm : Int) : (s.goOn b tm).Orderly a D := by
  have hne : (s.bay b).state ≠ .charge := by rw [hst]; decide
  unfold State.goOn
  split
  · exact h
  · split
    · refine State.Orderly.moveTo (h.quiet (s.modBay_ground b rfl)) fun _ => .inr ⟨?_, by decide⟩
      rw [State.modBay_bay, if_pos rfl]
      exact hne
    · exact h.startSession (fun _ => hne) hspare _ false false

/-- A bay in IDENTIFY takes a pack and goes on (R31). -/
theorem State.Orderly.setIdentity (h : s.Orderly a D) {i : Identity} (hst : (s.bay b).state = .identify)
    (hid : s.MayHold a b i) : (s.setIdentity b i).Orderly a D := by
  have hne : (s.bay b).state ≠ .charge := by rw [hst]; decide
  exact h.modBay rfl (fun _ => .inr ⟨hne, hne⟩) hid

theorem State.setIdentity_shows (s : State) (b : BayNo) (i : Identity) :
    ((s.setIdentity b i).bay b).state = (s.bay b).state ∧ (s.setIdentity b i).alloc = s.alloc := by
  refine ⟨?_, rfl⟩
  rw [State.setIdentity, State.modBay_bay, if_pos rfl]

/-- The verdict's pack is one that the bay may hold. -/
structure State.Judges (s : State) (v : Verdict) : Prop where
  recorded : ∀ g c, v = .accepted g c true ∨ v = .quarantined g c → (s.pack g).isSome = true
  fresh : ∀ g c, v = .accepted g c false → s.pack g = none

theorem State.verdict_judges (s : State) (b : BayNo) (rep : Report) : s.Judges (s.verdict b rep) :=
  ⟨fun _ _ h => State.verdict_recorded h, fun _ _ h => (State.verdict_registers s b h).1⟩

theorem State.Orderly.actOnVerdict (h : s.Orderly a D) (hst : (s.bay b).state = .identify) (hidle : a.floors → s.IdleAt b)
    (tm : Int) {v : Verdict} (hv : s.Judges v) : (s.actOnVerdict b tm v).Orderly a D := by
  have go : ∀ (u : State) i, u.Orderly a D → (u.bay b).state = .identify → (a.floors → u.IdleAt b) → u.MayHold a b i →
      ((u.setIdentity b i).goOn b tm).Orderly a D := fun u i hu hust huidle hid =>
    State.Orderly.goOn (hu.setIdentity hust hid) ((u.setIdentity_shows b i).1.trans hust)
      (fun hf _ => (huidle hf : (u.setIdentity b i).IdleAt b)) tm
  have hne : (s.bay b).state ≠ .charge := by rw [hst]; decide
  have accepted : ∀ g, (s.pack g).isSome = true → (s.acceptKnown b g).Orderly a D ∧
      ((s.acceptKnown b g).bay b).state = .identify ∧ (a.floors → (s.acceptKnown b g).IdleAt b) ∧
      (s.acceptKnown b g).MayHold a b (.registered g) := fun g hg => by
    have hground := s.acceptKnown_ground b g
    have hi : a.floors → (s.acceptKnown b g).IdleAt b := fun hf => (hidle hf).of_ground hground
    refine ⟨h.quiet hground, (s.acceptKnown_state b g).trans hst, hi, State.mayHold_registered hi ?_⟩
    rw [State.packCls_of_ground hground, State.packCls_isSome]
    exact hg
  unfold State.actOnVerdict
  split
  · next g c =>
    obtain ⟨hu, hust, hi, hid⟩ := accepted g (hv.recorded g c (.inl rfl))
    exact go _ _ hu hust hi hid
  · next g c =>
    have hnone := hv.fresh g c rfl
    refine go _ _ (h.addPack (r := PackRec.fresh g c (.bay b)) hnone) hst hidle (State.mayHold_registered hidle ?_)
    rw [State.packCls_isSome]
    exact congrArg Option.isSome (s.addPack_register (PackRec.fresh g c (.bay b))).1
  · next g c =>
    obtain ⟨hu, hust, hi, hid⟩ := accepted g (hv.recorded g c (.inr rfl))
    refine (hu.setIdentity hust hid).toStandby (fun _ => .inr ?_) .none
    rw [(State.setIdentity_shows _ b _).1, hust]
    decide
  · exact go s _ h hst hidle (.inr ⟨hidle, fun _ x hx => by cases hx⟩)
  · exact (h.owe b).latch (fun hf _ => hidle hf) _ _ _ _ _
  · exact (h.owe b).latch (fun hf _ => hidle hf) _ _ _ _ _

theorem State.Orderly.identify (h : s.Orderly a D) (hst : (s.bay b).state = .identify) (hidle : a.floors → s.IdleAt b)
    (rep : Report) : (s.identify b rep).Orderly a D := by
  unfold State.identify
  split
  · split
    · exact State.Orderly.actOnVerdict (h.quiet (s.raise_ground .regfull)) hst hidle _
        ⟨(s.verdict_judges b rep).recorded, (s.verdict_judges b rep).fresh⟩
    · exact h.actOnVerdict hst hidle _ (s.verdict_judges b rep)
  · have hquiet := s.modBay_ground b (f := fun y => { y with attempts := min 3 (y.attempts + 1) }) rfl
    dsimp only
    split
    · refine State.Orderly.actOnVerdict (h.quiet hquiet) ?_ (fun hf => (hidle hf).of_ground hquiet) _
        ⟨(s.verdict_judges b rep).recorded, (s.verdict_judges b rep).fresh⟩
      rw [State.modBay_bay, if_pos rfl]
      exact hst
    · exact h.quiet hquiet

end

end Sys2Proof.Machine
end

section
/-! SUPPORT. Good reports keep a rack in order (R29, R32, R37, R46, R47, R62 to R72): the evaluation with its request, which
reaches the floor of the bay, the actions, removals and dockings. -/

namespace Sys2Proof.Machine

/-! ## Floors through an action -/

section
variable {s t : State} {b : BayNo}

theorem State.floorAt_of_footing (h : t.footing = s.footing) : t.floorAt = s.floorAt :=
  funext fun x => by rw [State.floorAt_eq, h, State.floorAt_eq]

theorem State.floorAt_of_ground (h : t.ground = s.ground) : t.floorAt = s.floorAt :=
  State.floorAt_of_footing (State.footing_of_ground h)

/-- An update of a sequencer that keeps its identity keeps every floor. -/
theorem State.modBay_floorAt {f : Bay → Bay} (hf : (f (s.bay b)).identity = (s.bay b).identity) :
    (s.modBay b f).floorAt = s.floorAt := by
  have hclass : ∀ x, (s.modBay b f).classInUse x = s.classInUse x := fun x => by
    have hid : ((s.modBay b f).bay x).identity = (s.bay x).identity := by
      rw [State.modBay_bay]
      split
      · next hx => rw [hf, hx]
      · rfl
    simp only [State.classInUse, hid]
    rfl
  funext x
  simp only [State.floorAt, State.classAt, hclass]
  rfl

end

section
variable (s : State) (b : BayNo)

@[simp] theorem State.moveTo_floorAt (st : BayState) : (s.moveTo b st).floorAt = s.floorAt :=
  (State.floorAt_of_ground (State.redrive_ground _ b)).trans (State.modBay_floorAt rfl)

@[simp] theorem State.relevel_floorAt : (s.relevel b).floorAt = s.floorAt :=
  State.floorAt_of_footing (s.relevel_footing b)

@[simp] theorem State.handAllReady_floorAt : s.handAllReady.floorAt = s.floorAt := by
  have h := State.footing_of_outline s.handAllReady_outline
  funext x
  simp only [State.floorAt_eq, h, Footing.floorAt, Footing.classInUse]

@[simp] theorem State.releaseAtRest_floorAt : (s.releaseAtRest b).floorAt = s.floorAt := by
  unfold State.releaseAtRest
  split
  · exact State.floorAt_of_footing ((State.pass_footing _).trans (s.enterRequest_footing b 0))
  · rfl

@[simp] theorem State.leaveStage_floorAt (st : Stage) : (s.leaveStage b st).floorAt = s.floorAt :=
  State.floorAt_of_ground (s.leaveStage_ground b st)

@[simp] theorem State.modSession_floorAt (f : Session → Session) : (s.modSession b f).floorAt = s.floorAt :=
  State.floorAt_of_ground (s.modSession_ground b f)

@[simp] theorem State.enterStage_floorAt (k : StageNo) (m : Bool) : (s.enterStage b k m).floorAt = s.floorAt :=
  State.floorAt_of_ground (s.enterStage_ground b k m)

@[simp] theorem State.saveChargeAt_floorAt : (s.saveChargeAt b).floorAt = s.floorAt :=
  State.floorAt_of_ground (s.saveChargeAt_ground b)

@[simp] theorem State.goOnInCharge_floorAt : (s.goOnInCharge b).floorAt = s.floorAt := by
  unfold State.goOnInCharge
  split <;> simp

@[simp] theorem State.rearm_floorAt (k : StageNo) : (s.rearm b k).floorAt = s.floorAt := by simp [State.rearm]

variable {s b} in
/-- An action keeps the floors, or ends the session (R65 to R72). -/
theorem State.takeAction_floorAt {se : Session} (hse : (s.bay b).session = some se) (k : StageNo) (st : Stage) (x : Action) :
    ((s.takeAction b se k st x).bay b).session = none ∨ (s.takeAction b se k st x).floorAt = s.floorAt := by
  have latched : ∀ k' n, ((s.latch b k' [] n none false).bay b).session = none := fun k' n =>
    State.session_of_seat (s.latch_seat b k' [] n none false)
  have call : ∀ j r, ((s.doCall b se k st j r).bay b).session = none ∨ (s.doCall b se k st j r).floorAt = s.floorAt :=
    fun j r => by
      unfold State.doCall
      split
      · exact .inl (latched _ _)
      · exact .inr (by simp)
  have complete : ((s.completeCharge b st).bay b).session = none ∨ (s.completeCharge b st).floorAt = s.floorAt := by
    cases hk : s.maintainStage b with
    | some j => exact .inr (by simp [State.completeCharge, hk])
    | none => exact .inl (State.session_of_seat (State.completeCharge_seat_standby hse st hk))
  cases x with
  | goto j =>
    refine .inr ?_
    simp only [State.takeAction, State.doGoto]
    split <;> simp
  | callResume j => exact call j true
  | callRestart j => exact call j false
  | ret =>
    simp only [State.takeAction, State.doReturn]
    split
    · exact .inl (latched _ _)
    · split <;> exact .inr (by simp)
  | complete =>
    simp only [State.takeAction, State.doComplete]
    split
    · exact .inr (by simp)
    · exact complete
  | fault n => exact .inl (latched _ _)

end

section
variable {s : State} {a : Aims} {D : List BayNo} {b : BayNo}

/-! ## Actions -/

theorem State.Orderly.goOnInCharge (h : s.Orderly a D) (b : BayNo) : (s.goOnInCharge b).Orderly a D := by
  unfold State.goOnInCharge
  split
  · have hmoved := ((h.owe b).quiet (s.modSession_ground b fun se =>
      { se with outcome := .none, sessionServed := 0 })).moveTo (st := .charge) fun _ => .inl (List.mem_cons_self ..)
    exact (hmoved.releaseAtRest b).relevel.handAllReady
  · exact h.releaseAtRest b

theorem State.Orderly.rearm (h : s.Orderly a D) (b : BayNo) (k : StageNo) : (s.rearm b k).Orderly a D :=
  State.Orderly.releaseAtRest (h.quiet (s.enterStage_ground b k false)) b

theorem State.Orderly.doGoto (h : s.Orderly a D) (st : Stage) (k : StageNo) : (s.doGoto b st k).Orderly a D := by
  have hleft := h.quiet (s.leaveStage_ground b st)
  simp only [State.doGoto]
  split
  · exact hleft.rearm b k
  · exact State.Orderly.goOnInCharge (hleft.quiet (State.enterStage_ground _ b k false)) b

/-- A latch in a bay with a session. -/
theorem State.Orderly.latchSession (h : s.Orderly a D) {se : Session} (hse : (s.bay b).session = some se) (k : FaultKind)
    (ks : List FaultKind) (n : Option Nat) (c : Option ClassNo) (own : Bool) :
    (s.latch b k ks n c own).Orderly a D :=
  (h.owe b).latch (fun _ => .of_session hse) k ks n c own

theorem State.Orderly.doCall (h : s.Orderly a D) {se : Session} (hse : (s.bay b).session = some se) (k : StageNo)
    (st : Stage) (j : StageNo) (r : Bool) : (s.doCall b se k st j r).Orderly a D := by
  unfold State.doCall
  split
  · exact h.latchSession hse _ _ _ _ _
  · exact State.Orderly.goOnInCharge (h.quiet (by simp)) b

theorem State.Orderly.doReturn (h : s.Orderly a D) {se : Session} (hse : (s.bay b).session = some se) (st : Stage) :
    (s.doReturn b se st).Orderly a D := by
  unfold State.doReturn
  split
  · exact h.latchSession hse _ _ _ _ _
  · dsimp only
    split <;> exact State.Orderly.releaseAtRest (h.quiet (by simp)) b

theorem State.Orderly.completeCharge (h : s.Orderly a D) (b : BayNo) (st : Stage) : (s.completeCharge b st).Orderly a D := by
  have howed := h.owe b
  simp only [State.completeCharge]
  split
  · refine (State.Orderly.relevel (State.Orderly.releaseAtRest (State.Orderly.moveTo (howed.quiet ?_) ?_) b)).handAllReady
    · simp
    · exact fun _ => .inl (List.mem_cons_self ..)
  · refine (State.Orderly.relevel (State.Orderly.toStandby (State.Orderly.endSession (howed.quiet ?_) b) ?_ _)).handAllReady
    · simp
    · exact fun _ => .inl (List.mem_cons_self ..)

theorem State.Orderly.takeAction (h : s.Orderly a D) {se : Session} (hse : (s.bay b).session = some se) (k : StageNo)
    (st : Stage) (x : Action) : (s.takeAction b se k st x).Orderly a D := by
  cases x with
  | goto j => exact h.doGoto st j
  | callResume j => exact h.doCall hse k st j true
  | callRestart j => exact h.doCall hse k st j false
  | ret => exact h.doReturn hse st
  | complete =>
    simp only [State.takeAction, State.doComplete]
    split
    · exact State.Orderly.rearm (h.quiet (s.leaveStage_ground b st)) b _
    · exact h.completeCharge b st
  | fault n => exact h.latchSession hse _ _ _ _ _

/-! ## The evaluation -/

/-- The hand-off of a request that reaches the bay's floor (R37, R86). -/
theorem State.Orderly.handOff (h : s.Orderly a D) (t i : Nat) {r : Nat}
    (hr : a.floors → (s.bay b).session.isSome = true → r = 0 ∨ s.floorAt b ≤ r) : (s.handOff b t i r).Orderly a D := by
  unfold State.handOff
  split
  · next hse =>
    have hkept : ((s.modBay b fun y => { y with keptTarget := t, keptIset := i }).redrive b).ground = s.ground :=
      (State.redrive_ground _ b).trans (s.modBay_ground b rfl)
    dsimp only
    split
    · exact h.quiet hkept
    · refine (h.quiet hkept).handRequest fun hf => ?_
      rw [State.floorAt_of_ground hkept]
      exact hr hf hse
  · exact h

/-- A request is 0 or reaches its floor (R86). -/
theorem requestOf_reaches {floor : Nat} (h : floor ≤ 200) (raw : Nat) :
    requestOf floor raw = 0 ∨ floor ≤ requestOf floor raw := by
  by_cases hraw : raw = 0
  · exact .inl (by rw [requestOf, if_pos hraw])
  · exact .inr (requestOf_bounds h hraw).1

theorem State.floorAt_of_classAt {cr : ClassRec} (h : s.classAt b = some cr) : s.floorAt b = cr.floor := by
  rw [State.floorAt, h]
  rfl

/-- A class's floor in the register is within Table 1-1. -/
theorem Footing.InRange.floor_le {cr : ClassRec} (h : s.footing.InRange) (hc : s.classAt b = some cr) :
    cr.floor ≤ 20 := by
  obtain ⟨c, -, hcls⟩ := Option.bind_eq_some_iff.1 hc
  have hr := (h.1 c).1
  rw [show s.footing.classes[c] = some cr from hcls] at hr
  simp only [floorInRange, between, Option.map_some, Option.getD_some, decide_eq_true_eq] at hr
  exact hr.2

theorem State.enterEvaluation_session (s : State) (b : BayNo) (se se' : Session) (st : Stage) (cr : ClassRec)
    (rep : Report) (prev : Nat) (fl : Flags) :
    ((s.enterEvaluation b se se' st cr rep prev fl).bay b).session = some { se' with lastFlags := fl } := by
  obtain ⟨i, g, h⟩ := s.enterEvaluation_seat b se se' st cr rep prev fl
  exact State.session_of_seat h

theorem State.Orderly.evaluateAt (h : s.Orderly a D) (rep : Report) (prev : Nat) (on : Bool) (se : Session) (k : StageNo)
    (st : Stage) {cr : ClassRec} (hc : s.classAt b = some cr) : (s.evaluateAt b rep prev on se k st cr).Orderly a D := by
  have hreach : a.floors → evaluationRequest se st cr rep = 0 ∨ s.floorAt b ≤ evaluationRequest se st cr rep := fun hf => by
    rw [State.floorAt_of_classAt hc]
    exact requestOf_reaches (((h.ranges hf).floor_le hc).trans (by decide)) _
  simp only [State.evaluateAt]
  generalize hfl : s.evaluationFlags b (s.evaluated se st rep prev on) st cr rep = fl
  generalize s.evaluated se st rep prev on = se'
  have hse := s.enterEvaluation_session b se se' st cr rep prev fl
  have hground := s.enterEvaluation_ground b se se' st cr rep prev fl
  generalize s.enterEvaluation b se se' st cr rep prev fl = u at hse hground
  have hu : u.Orderly a D := h.quiet hground
  have hfloor : u.floorAt = s.floorAt := State.floorAt_of_ground hground
  split
  · exact hu.latchSession hse _ _ _ _ _
  · split
    · exact State.Orderly.quiet (hu.handOff _ _ fun hf _ => by rw [hfloor]; exact hreach hf) (State.modSession_ground _ b _)
    · rw [← State.takeAction_lastFlags u b se' fl]
      refine (hu.takeAction hse k st _).handOff _ _ fun hf hs => ?_
      rcases State.takeAction_floorAt hse k st _ with hnone | hkept
      · rw [hnone] at hs
        cases hs
      · rw [hkept, hfloor]
        exact hreach hf

theorem State.Orderly.evaluate (h : s.Orderly a D) (rep : Report) (prev : Nat) (on : Bool) :
    (s.evaluate b rep prev on).Orderly a D := by
  unfold State.evaluate
  split
  · next hc =>
    split
    · exact h.evaluateAt rep prev on _ _ _ hc
    · exact h
  · exact h

/-- ASSESS ends (R36). -/
theorem State.Orderly.endAssess (h : s.Orderly a D) (b : BayNo) (rep : Report) (cr : ClassRec) :
    (s.endAssess b rep cr).Orderly a D := by
  simp only [State.endAssess]
  refine State.Orderly.relevel (State.Orderly.releaseAtRest (State.Orderly.moveTo ((h.owe b).quiet ?_) ?_) b)
  · simp
  · exact fun _ => .inl (List.mem_cons_self ..)

/-! ## Removals and dockings -/

/-- An unexpected removal (R47). -/
theorem State.Orderly.unexpectedRemoval (h : s.Orderly a D) (hspare : a.floors → s.SparesAt b) :
    (s.unexpectedRemoval b).Orderly a D := by
  have hquiet : (((s.endSession b).loseIdentity b).raise .taken).ground = (s.endSession b).ground := by simp
  have hend : (((s.endSession b).loseIdentity b).raise .taken).Orderly a (b :: D) := ((h.owe b).endSession b).quiet hquiet
  refine (State.Orderly.relevel (hend.toVacant (fun _ => .inl (List.mem_cons_self ..)) fun hf => ?_)).handAllReady
  exact (State.endSession_idle (h.queues (a.floors_table hf)) (hspare hf)).of_ground hquiet

/-- A bay with a right seat is idle outside CHARGE and MAINTAIN (R37). -/
theorem State.Orderly.idle_of_right (h : s.Orderly a D) (ha : a.floors → a.caps) (hr : a.strict → (s.seat b).Right)
    (hst : (s.bay b).unpowered) (hf : a.floors) : s.IdleAt b :=
  h.idleAt ha ((hr (.inr hf)).request_zero hst.1 hst.2) hf

/-- A bay with a right seat is idle without a session (R35, R37). -/
theorem State.Orderly.spares_of_right (h : s.Orderly a D) (ha : a.floors → a.caps) (hr : a.strict → (s.seat b).Right) :
    a.floors → s.SparesAt b := h.sparesAt ha fun hs hn => (hr hs).request_of_none hn

theorem State.Orderly.presence (h : s.Orderly a D) (ha : a.floors → a.caps) (hr : a.strict → (s.seat b).Right)
    (rep : Report) : (s.presence b rep).Orderly a D := by
  have vacated : ∀ {st} {u : State}, (s.bay b).state = st → (st ≠ .charge ∧ st ≠ .maintain) → u.ground = s.ground →
      (u.toVacant b).Orderly a D := fun {st u} hst hne hu => by
    have hstance : (u.bay b).stance = (s.bay b).stance := congrFun (congrArg Footing.stances (State.footing_of_ground hu)) b
    have hust : (u.bay b).state = st := (congrArg Stance.state hstance :).trans hst
    exact (h.quiet hu).toVacant (fun _ => .inr (by rw [hust]; exact hne.1)) fun hf =>
      (h.idle_of_right ha hr (by rw [Bay.unpowered, hst]; exact hne) hf).of_ground hu
  have removed := h.unexpectedRemoval (h.spares_of_right ha hr)
  unfold State.presence
  split
  · unfold State.presentAt
    split
    · next hst =>
      exact h.dock (fun _ => .inr (by rw [hst]; decide)) (h.idle_of_right ha hr (by rw [Bay.unpowered, hst]; decide))
    · exact h.quiet (s.stampDock_ground b)
    · exact h
  · unfold State.absentAt
    split
    · exact h
    · next hst =>
      refine vacated hst (by decide) ?_
      split <;> simp
    · exact removed
    · exact removed
    · exact removed
    · exact removed
    · exact removed
    · next hst => exact vacated hst (by decide) (s.takeRemoval_ground b)
    · exact h.quiet (s.leftInFault_ground b)
    · exact h

/-! ## The work of a report -/

theorem State.Orderly.stateWork (h : s.Orderly a D) (ha : a.floors → a.caps) (hr : a.strict → (s.seat b).Right)
    (rep : Report) (prev : Nat) (on : Bool) : (s.stateWork b rep prev on).Orderly a D := by
  unfold State.stateWork
  split
  · next hst => exact h.identify hst (h.idle_of_right ha hr (by rw [Bay.unpowered, hst]; decide)) rep
  · next hst =>
    unfold State.coolingTest
    split
    · exact h
    · split
      · exact h.startSession (fun _ => by rw [hst]; decide) (h.spares_of_right ha hr) _ false false
      · exact h
  · unfold State.restTest
    split
    · split
      · exact h.endAssess b rep _
      · exact h
    · exact h
  · exact h.evaluate rep prev on
  · exact h.evaluate rep prev on
  · exact h

theorem State.Orderly.testsAndWork (h : s.Orderly a D) (ha : a.floors → a.caps) (hr : a.strict → (s.seat b).Right)
    (rep : Report) (prev : Nat) (on answered : Bool) : (s.testsAndWork b rep prev on answered).Orderly a D := by
  simp only [State.testsAndWork]
  split
  · exact h.quiet (State.foldl_ground (fun u k => u.joinFault_ground b k) _ s)
  · split
    · exact h.stateWork ha hr rep prev on
    · exact (h.owe b).latch (h.spares_of_right ha hr) _ _ _ _ _

/-- A report taken and reconciled leaves a right seat right (R29, R148). -/
theorem Seat.Right.reconciled (h : (s.seat b).Right) (rep : Report) (l : Latest) :
    (((s.modBay b fun y => { y with latest := some l }).reconcile b rep).seat b).Right := by
  have hlatest : ((s.modBay b fun y => { y with latest := some l }).seat b).Right := by
    rw [State.modBay_seat _ _ fun _ => rfl]
    exact h.congr rfl rfl rfl rfl rfl
  simp only [State.reconcile]
  split
  · exact hlatest
  · split
    · rw [State.settleAt_seat]
      exact hlatest
    · rw [State.modBay_seat _ _ fun _ => rfl, State.settleAt_seat]
      exact hlatest.congr rfl rfl rfl rfl rfl

theorem State.Orderly.goodReportAt (h : s.Orderly a D) (ha : a.floors → a.caps) (hr : a.strict → (s.seat b).Right)
    (rep : Report) (on answered : Bool) : (s.goodReportAt b rep on answered).Orderly a D := by
  have hquiet : ((s.modBay b fun y => { y with latest := some ⟨rep, s.now⟩ }).reconcile b rep).ground = s.ground :=
    (State.reconcile_ground _ b rep).trans (s.modBay_ground b rfl)
  have hseen : a.strict → (((s.modBay b fun y => { y with latest := some ⟨rep, s.now⟩ }).reconcile b rep).seat b).Right :=
    fun hs => (hr hs).reconciled rep _
  have hpres := (h.quiet hquiet).presence ha hseen rep
  have hpresent : a.strict → _ := fun hs => State.presence_right (hseen hs) rep
  simp only [State.goodReportAt]
  refine State.Orderly.handAllReady ?_
  split
  · exact hpres
  · exact hpres.testsAndWork ha hpresent rep _ on answered

end

end Sys2Proof.Machine
end

section
/-! SUPPORT. What the commands do keeps a rack in order (Table 9-4): settings with their passes, bays that stop, start or
go out of service, issues, CLEAR. -/

namespace Sys2Proof.Machine

section
variable {s t : State} {a : Aims} {D : List BayNo} {b : BayNo}

/-! ## Caps and class records -/

/-- Another allocator with the same grants and queues; its caps are the same or wait for a pass (R93, R94). -/
theorem State.Orderly.recap (h : s.Orderly a D) (hg : t.alloc.grants = s.alloc.grants)
    (hq : t.alloc.queues = s.alloc.queues) (hfoot : t.footing = s.footing)
    (hcaps : a.caps → t.effectiveCap = s.effectiveCap ∧ t.alloc.feederCaps = s.alloc.feederCaps) : t.Orderly a D := by
  have hgrant : ∀ x, t.grant x = s.grant x := fun x => by rw [State.grant, hg, State.grant]
  have hfeeder : ∀ x, t.feeder x = s.feeder x := fun x => by rw [State.feeder_eq, hfoot, State.feeder_eq]
  refine ⟨fun ha => (h.queues ha).congr (fun x => by rw [hgrant]) (fun x => by rw [hgrant]) fun l => ?_,
    fun ha x => by rw [hgrant]; exact h.turns ha x, fun ha => ?_, fun ha => hfoot ▸ h.recorded ha,
    fun ha x hx => by rw [hgrant, hfoot]; exact h.levels ha x hx,
    fun ha => (h.floors ha).of_grants hgrant fun x => .inl (congrFun (State.floorAt_of_footing hfoot) x),
    fun ha => hfoot ▸ h.ranges ha⟩
  · rw [State.queueAt, hq, State.queueAt]
  · obtain ⟨hcap, hfeeders⟩ := hcaps ha
    have hunits : t.grantedUnits = s.grantedUnits := by simp only [State.grantedUnits, hgrant]
    have hfcap : ∀ f, t.feederCap f = s.feederCap f := fun f => by rw [State.feederCap, hfeeders, State.feederCap]
    have hbays : ∀ f, t.feederBays f = s.feederBays f := fun f => by simp only [State.feederBays, hfeeder]
    simp only [State.GrantsLawful, hunits, hcap, hfcap, hbays, hgrant, hfeeder]
    exact h.lawful ha

/-- Other class records: a floor changes only where a bay is idle, and every floor is within Table 1-1. -/
theorem State.Orderly.reclass (h : s.Orderly a D) (halloc : t.alloc = s.alloc)
    (hst : t.footing.stances = s.footing.stances) (hp : t.footing.packCls = s.footing.packCls)
    (hs : t.footing.short = s.footing.short) (hfloor : a.floors → ∀ x, t.floorAt x = s.floorAt x ∨ s.IdleAt x)
    (hrange : a.floors → t.footing.InRange) : t.Orderly a D := by
  have hgrant := State.grant_of_alloc halloc
  have hfeeder : ∀ x, t.feeder x = s.feeder x := fun x => by rw [State.feeder_eq, hst, State.feeder_eq]
  refine ⟨fun ha => (h.queues ha).of_alloc halloc, fun ha => (h.turns ha).of_alloc halloc,
    fun ha => (h.lawful ha).of_alloc halloc hfeeder, fun ha => ?_, fun ha x hx => ?_,
    fun ha => (h.floors ha).of_grants hgrant (hfloor ha), hrange⟩
  · simp only [Footing.Recorded, hst, hp]
    exact h.recorded ha
  · rw [hgrant, h.levels ha x hx]
    simp only [Footing.levelOf, hst, hp, hs]

/-- The class records of a store after a write. -/
theorem Store.apply_classes (st : Store) (w : StoreWrite) (c : ClassNo) :
    (st.apply w).classes[c] = st.classes[c] ∨ ∃ r, w.classRec? = some r ∧ (st.apply w).classes[c] = some r := by
  cases w with
  | cls k r =>
    by_cases hk : c = k
    · subst hk
      exact .inr ⟨r, rfl, by simp [Store.apply]⟩
    · exact .inl (by simp [Store.apply, Fin.val_inj, Ne.symm hk])
  | _ => exact .inl rfl

/-- Writes whose floors are within Table 1-1 leave a store's floors so (R21). -/
theorem Store.applyAll_inRange {st : Store} {ws : List StoreWrite} (h : ∀ c : ClassNo, floorInRange st.classes[c] = true)
    (hw : ∀ w ∈ ws, ∀ r, w.classRec? = some r → floorInRange (some r) = true) (c : ClassNo) :
    floorInRange (st.applyAll ws).classes[c] = true := by
  induction ws generalizing st with
  | nil => exact h c
  | cons w ws ih =>
    refine ih (fun k => ?_) fun x hx => hw x (List.mem_cons_of_mem _ hx)
    rcases st.apply_classes w k with he | ⟨r, hr, he⟩
    · rw [he]; exact h k
    · rw [he]; exact hw w (List.mem_cons_self ..) r hr

theorem Footing.InRange.write (h : s.footing.InRange) {w : StoreWrite} (hw : w ∈ s.inFlight) (r : ClassRec)
    (hr : w.classRec? = some r) : floorInRange (some r) = true :=
  h.2 r (List.mem_filterMap.2 ⟨w, hw, hr⟩)

/-- Completed writes (R21). -/
theorem State.Orderly.settle (h : s.Orderly a D) : s.settle.Orderly a D :=
  h.reclass rfl rfl rfl rfl (fun _ _ => .inl rfl) fun hf =>
    ⟨fun c => ⟨((h.ranges hf).1 c).1, Store.applyAll_inRange (fun k => ((h.ranges hf).1 k).2)
      (fun w hw r => (h.ranges hf).write hw r) c⟩, fun r hr => by simp [State.settle, State.footing] at hr⟩

theorem State.setClassRec_footing (s : State) (c : ClassNo) (r : ClassRec) : (s.setClassRec c r).footing =
    { s.footing with classes := s.footing.classes.set c (some r), written := s.footing.written ++ [r] } :=
  State.write_footing _ (.cls c r)

/-- A bay of a class that is not in use asks for nothing (R2, item 5). -/
theorem State.request_of_not_busy {c : ClassNo} (hb : s.BaysOk) (hbusy : s.classBusy c = false)
    (hc : s.classInUse b = some c) : (s.grant b).request = 0 := by
  by_contra hr
  have hin : (s.bay b).inSession = true := by
    rcases (hb b).2.2.2 hr with hst | hst <;> rw [Bay.inSession, hst]
  have hbusy' : s.classBusy c = true := List.any_eq_true.2 ⟨b, mem_allBays b, by simp [hin, hc]⟩
  rw [hbusy] at hbusy'
  cases hbusy'

/-- A class record replaced while the class is not in use (R2, R3). -/
theorem State.Orderly.setClassRec (h : s.Orderly a D) (ha : a.floors → a.caps) (hb : a.strict → s.BaysOk) {c : ClassNo}
    (hbusy : s.classBusy c = false) {r : ClassRec} (hr : a.floors → floorInRange (some r) = true) :
    (s.setClassRec c r).Orderly a D := by
  have hfoot := s.setClassRec_footing c r
  refine h.reclass rfl (by rw [hfoot]) (by rw [hfoot]) (by rw [hfoot]) (fun hf x => ?_) fun hf => ?_
  · by_cases hx : s.classInUse x = some c
    · exact .inr (h.idleAt ha (State.request_of_not_busy (hb (.inr hf)) hbusy hx) hf)
    · refine .inl ?_
      rw [State.classInUse_eq] at hx
      simp only [State.floorAt_eq, hfoot, Footing.floorAt]
      have hin : Footing.classInUse { s.footing with
          classes := s.footing.classes.set c (some r), written := s.footing.written ++ [r] } x = s.footing.classInUse x :=
        rfl
      rw [hin]
      cases hk : s.footing.classInUse x with
      | none => rfl
      | some k =>
        have hne : k ≠ c := fun he => hx (he ▸ hk)
        simp [Fin.val_inj, Ne.symm hne]
  · obtain ⟨hcls, hwritten⟩ := h.ranges hf
    rw [hfoot]
    refine ⟨fun k => ⟨?_, (hcls k).2⟩, fun x hx => ?_⟩
    · by_cases hk : k = c
      · subst hk
        simpa using hr hf
      · simpa [Fin.val_inj, Ne.symm hk] using (hcls k).1
    · rcases List.mem_append.1 hx with hx | hx
      · exact hwritten x hx
      · rw [List.mem_singleton.1 hx]
        exact hr hf

/-- The floor of a class that SET CLASS stores is within Table 1-1 (R2). -/
theorem readClass_floor {x : ClassArgs} {o : Option Ocv} {r : ClassRec} (h : readClass x o = some r) :
    floorInRange (some r) = true := by
  unfold readClass at h
  split at h
  · next hin =>
    split at h
    · cases h
      simp only [classInRange, Bool.and_eq_true] at hin
      exact hin.1.2
    · cases h
  · cases h

/-! ## Cool expiries -/

theorem State.Orderly.recool (h : s.Orderly a D) (ha : a.floors → a.caps) (hb : a.strict → (s.seat b).Right)
    (hst : (s.bay b).state = .cooling) (n : Nat) : (s.recool n b).Orderly a D := by
  simp only [State.recool]
  split
  · exact h.quiet (s.modBay_ground b rfl)
  · split
    · exact h.coolEnds ha hb hst
    · exact h.quiet (s.modBay_ground b rfl)

/-- The COOLING bays of a class, one after another (R33). -/
theorem State.Orderly.recools (ha : a.floors → a.caps) (n : Nat) {l : List BayNo} (hl : l.Nodup) (h : s.Orderly a D)
    (hb : a.strict → s.BaysOk) (hst : ∀ x ∈ l, (s.bay x).state = .cooling) :
    (l.foldl (fun t b => t.recool n b) s).Orderly a D := by
  induction l generalizing s with
  | nil => exact h
  | cons x xs ih =>
    obtain ⟨hx, hxs⟩ := List.nodup_cons.1 hl
    have hcool := hst x (List.mem_cons_self ..)
    refine ih hxs (h.recool ha (fun hs => (State.baysOk_iff s).1 (hb hs) x) hcool n)
      (fun hs => s.recool_keepsBays n x hcool (hb hs)) fun y hy => ?_
    have hne : y ≠ x := fun he => hx (he ▸ hy)
    rw [State.state_of_seat (State.seat_of_away (s.recool_away x n) hne)]
    exact hst y (List.mem_cons_of_mem _ hy)

/-- A taken SET CLASS (R3, R33). -/
theorem State.Orderly.applyClass (h : s.Orderly a D) (ha : a.floors → a.caps) (hb : a.strict → s.BaysOk) {c : ClassNo}
    (hbusy : s.classBusy c = false) {r : ClassRec} (hr : a.floors → floorInRange (some r) = true) :
    (s.applyClass c r).Orderly a D := by
  have hset : (((s.setClassRec c r).capCharges c (fullCharge r.capacity)).computeShort c).Orderly a D :=
    State.Orderly.computeShort ((h.setClassRec ha hb hbusy hr).quiet (State.capCharges_ground _ c _)) c
  have hbays : s.KeepsBays (((s.setClassRec c r).capCharges c (fullCharge r.capacity)).computeShort c) :=
    ((State.KeepsBays.of_seats fun x => State.seat_of_fields rfl rfl rfl x).trans
      (State.capCharges_keepsBays (s.setClassRec c r) c _)).quiet fun x => State.computeShort_seat _ x c
  have hcool : ∀ u : State, u.Orderly a D → (a.strict → u.BaysOk) →
      ((u.coolingOf c).foldl (fun t b => t.recool r.coolTimeout b) u).Orderly a D := fun u hu hub =>
    hu.recools ha _ ((List.nodup_finRange 24).filter _) hub fun x hx => by
      have hx := (List.mem_filter.1 hx).2
      simp only [decide_eq_true_eq] at hx
      exact hx.1
  simp only [State.applyClass]
  split
  · exact hcool _ hset fun hs => hbays (hb hs)
  · exact hcool _ hset.uncapped.pass fun hs => (hbays.quiet fun x => State.pass_seat _ x) (hb hs)

/-! ## Bays -/

theorem State.Orderly.maskOut (h : s.Orderly a (b :: D)) (hspare : a.floors → s.SparesAt b) :
    (s.maskOut b).Orderly a D := by
  have hend : ((s.endSession b).setFault b none).Orderly a (b :: D) :=
    (h.endSession b).quiet (State.setFault_ground _ b none)
  have hidle : a.floors → ((s.endSession b).setFault b none).IdleAt b := fun hf =>
    (State.endSession_idle (h.queues (a.floors_table hf)) (hspare hf) :)
  have hmoved : ((((s.endSession b).setFault b none).modBay b Bay.emptied).moveTo b .masked).Orderly a (b :: D) :=
    hend.emptied_moveTo (fun _ => rfl) (fun _ => rfl) (fun _ => rfl) (by decide)
      (fun _ => .inl (List.mem_cons_self ..)) hidle
  simp only [State.maskOut]
  refine State.Orderly.quiet (State.Orderly.handAllReady (State.Orderly.relevel (hmoved.quiet ?_)))
    (State.checkRound_ground _)
  rw [State.modLine_ground, State.promptAdd_ground]

theorem State.Orderly.maskIn (h : s.Orderly a D) (hst : (s.bay b).state = .masked) : (s.maskIn b).Orderly a D := by
  refine State.Orderly.moveTo (h.quiet ((State.modBay_ground _ b rfl).trans (s.modLine_ground b _)))
    fun _ => .inr ⟨?_, by decide⟩
  rw [State.modBay_bay, if_pos rfl]
  change (s.bay b).state ≠ _
  rw [hst]
  decide

/-- A configuration that keeps feeder and base level. -/
theorem State.setCfg_ground {cfg : BayCfg} (hf : cfg.feeder = (s.bay b).cfg.feeder)
    (hl : cfg.baseLevel = (s.bay b).cfg.baseLevel) : (s.setCfg b cfg).ground = s.ground :=
  (State.write_ground _ rfl).trans (s.modBay_ground b (by simp only [Bay.stance, hf, hl]))

theorem State.setCfg_session (s : State) (b : BayNo) (cfg : BayCfg) :
    ((s.setCfg b cfg).bay b).session = (s.bay b).session := by
  change ((s.modBay b fun y => { y with cfg := cfg }).bay b).session = _
  rw [State.modBay_bay, if_pos rfl]

/-- Any configuration, with a level owed and a pass due (R27, R113). -/
theorem State.Orderly.setCfg (h : s.Orderly a D) (b : BayNo) (cfg : BayCfg) :
    (s.setCfg b cfg).Orderly a.uncapped (b :: D) :=
  State.Orderly.quiet ((h.owe b).uncapped.restance (b := b) (f := fun y => { y with cfg := cfg }) False.elim
    (fun _ => .inl (List.mem_cons_self ..)) (.same rfl)) (State.write_ground _ rfl)

theorem State.Orderly.applyMasked (h : s.Orderly a D) (hspare : a.floors → s.SparesAt b) {old new : Bool}
    (hst : new = false → old = true → (s.bay b).state = .masked) : (s.applyMasked b old new).Orderly a D := by
  unfold State.applyMasked
  split
  · exact (h.owe b).maskOut hspare
  · split
    · next hm => exact h.maskIn (hst hm.1 hm.2)
    · exact h

/-- A taken SET BAY (R27, R113). -/
theorem State.Orderly.applyCfg (h : s.Orderly a []) (hspare : a.floors → s.SparesAt b) {cfg : BayCfg}
    (hno : s.refuseCfg b cfg = none) : (s.applyCfg b cfg).Orderly a [] := by
  have hst : cfg.masked = false → (s.bay b).cfg.masked = true → ((s.setCfg b cfg).bay b).state = .masked :=
    fun hnew hold => (s.setCfg_state b cfg).trans (State.masked_of_refuseCfg s b hno hnew hold)
  have hspare' : a.floors → (s.setCfg b cfg).SparesAt b := fun hf hs => hspare hf (by rwa [s.setCfg_session] at hs)
  unfold State.applyCfg State.applyFeeder
  split
  · have hmask : ((s.setCfg b cfg).applyMasked b (s.bay b).cfg.masked cfg.masked).Orderly a.uncapped [b] :=
      (h.setCfg b cfg).applyMasked hspare' hst
    exact hmask.relevel.pass
  · next hsame =>
    obtain ⟨hf, hl⟩ := not_or.1 hsame
    exact (h.quiet (State.setCfg_ground (not_not.1 hf) (not_not.1 hl))).applyMasked hspare' hst

/-- STOP BAY (R41). -/
theorem State.Orderly.stopAt (h : s.Orderly a D) (b : BayNo) (e : Ending) : (s.stopAt b e).Orderly a D :=
  (State.Orderly.relevel (State.Orderly.toStandby (State.Orderly.endSession ((h.owe b).quiet (s.saveChargeAt_ground b)) b)
    (fun _ => .inl (List.mem_cons_self ..)) e)).handAllReady

/-! ## Issues -/

theorem State.Orderly.toRelease (h : s.Orderly a D) (hst : a.levels → (s.bay b).state ≠ .charge) :
    (s.toRelease b).Orderly a D := by
  have hstate : ∀ u : State, u.seat b = s.seat b → ∀ p : PreIssue,
      (((u.modBay b fun y => { y with preIssue := some p, outcome := .none }).endSession b).bay b).state =
        (s.bay b).state := fun u hu p => by
    have hseat := State.endSession_seat (u.modBay b fun y => { y with preIssue := some p, outcome := .none }) b
    rw [State.state_of_seat hseat, State.modBay_seat _ _ fun _ => rfl, hu]
    rfl
  simp only [State.toRelease]
  exact (State.Orderly.endSession (h.quiet (s.modBay_ground b rfl)) b).moveTo fun hl =>
    .inr ⟨by rw [hstate s rfl]; exact hst hl, by decide⟩

/-- Bays outside CHARGE that enter RELEASE one after the other (R45, R122). -/
theorem State.Orderly.releasePicks (m : Nat) {ps : List Pick} (h : s.Orderly a D)
    (hst : ∀ p ∈ ps, (s.bay p.bay).state ≠ .charge) : (ps.foldl (State.releasePick m) s).Orderly a D := by
  induction ps generalizing s with
  | nil => exact h
  | cons p ps ih =>
    have hp := hst p (List.mem_cons_self ..)
    have hmark : (s.releasePick m p).Orderly a D := by
      unfold State.releasePick
      split
      · exact State.Orderly.toRelease (h.quiet (s.setMark_ground _ _)) fun _ => hp
      · exact h.toRelease fun _ => hp
    refine ih hmark fun q hq => ?_
    by_cases hx : q.bay = p.bay
    · rw [hx, State.state_of_seat (State.releasePick_seat s m p p.bay), State.toRelease_seat]
      simp
    · rw [State.state_of_seat ((State.releasePick_seat s m p q.bay).trans (State.seat_of_away (s.toRelease_away p.bay) hx))]
      exact hst q (List.mem_cons_of_mem _ hq)

theorem State.Orderly.makeIssue (h : s.Orderly a D) (m : Nat) (c : Option ClassNo) {ps : List Pick}
    (hst : ∀ p ∈ ps, (s.bay p.bay).state = .maintain ∨ (s.bay p.bay).state = .standby) :
    (s.makeIssue m c ps).Orderly a D :=
  State.Orderly.quiet (h.releasePicks m fun p hp => by rcases hst p hp with he | he <;> rw [he] <;> decide)
    (State.setIssues_ground _ _)

theorem State.endPart_keepsBays (s : State) (p : Part) : s.KeepsBays (s.endPart p) := by
  have back : ∀ (u : State) b, (∀ x, u.seat x = s.seat x) → s.KeepsBays (u.returnFromRelease b) := fun u b hu =>
    (State.KeepsBays.of_seats hu).trans (.of_away (u.returnFromRelease_away b) State.returnFromRelease_right)
  unfold State.endPart
  split
  · exact back _ _ fun x => s.setMark_seat x _ none
  · exact back s _ fun _ => rfl
  · exact .of_seats fun x => by rw [State.raise_seat, State.setPlace_seat, State.setMark_seat]
  · exact .refl s
  · exact .refl s

theorem State.Orderly.endPart (h : s.Orderly a D) (ha : a.floors → a.caps) (hb : a.strict → s.BaysOk) (p : Part) :
    (s.endPart p).Orderly a D := by
  have hright : a.strict → ∀ x, (s.seat x).Right := fun hs => (State.baysOk_iff s).1 (hb hs)
  unfold State.endPart
  split
  · exact State.Orderly.returnFromRelease (h.quiet (s.setMark_ground _ none)) ha fun hs => hright hs _
  · exact h.returnFromRelease ha fun hs => hright hs _
  · exact h.quiet (by simp)
  · exact h
  · exact h

/-- An entry that lapses or is cancelled (R129, R130). -/
theorem State.Orderly.endIssue (h : s.Orderly a D) (ha : a.floors → a.caps) (hb : a.strict → s.BaysOk) (i : Issue) :
    (s.endIssue i).Orderly a D := by
  have walk : ∀ (l : List Part) (u : State), u.Orderly a D → (a.strict → u.BaysOk) →
      (l.foldl State.endPart u).Orderly a D := by
    intro l
    induction l with
    | nil => exact fun u hu _ => hu
    | cons p l ih => exact fun u hu hub => ih _ (hu.endPart ha hub p) fun hs => u.endPart_keepsBays p (hub hs)
  exact walk _ _ (h.quiet (s.setIssues_ground _)) hb

/-! ## CLEAR -/

/-- A grant table without requests and grants is in order under any caps (R111). -/
theorem State.Orderly.of_empty (hidle : ∀ x, t.IdleAt x) (hq : ∀ l : LevelNo, t.alloc.queues[l] = [])
    (hmode : ∀ x, (t.grant x).mode = .hold ∧ (t.grant x).turnExpiry = none) (hrec : a.strict → t.footing.Recorded)
    (hlevel : a.levels → ∀ x, x ∉ D → (t.grant x).level = t.footing.levelOf x)
    (hrange : a.floors → t.footing.InRange) : t.Orderly a D := by
  have hsum : ∀ l, grantedSum l t.grantedUnits = 0 := fun l => by
    have hzero : grantedSum l t.grantedUnits = sumOver l fun _ => 0 := sumOver_congr fun x _ => by
      simp [State.grantedUnits, (hidle x).2]
    rw [hzero]
    simp [sumOver]
  refine ⟨fun _ l => ⟨?_, fun x => ?_⟩, fun _ x => ⟨fun hm => ?_, fun hm => ?_⟩,
    fun _ => ⟨by rw [hsum]; exact Nat.zero_le _, fun f => by rw [hsum]; exact Nat.zero_le _, fun x => ?_⟩, hrec, hlevel,
    fun _ x => ⟨.inl (hidle x).1, .inl (hidle x).2⟩, hrange⟩
  · rw [hq]; exact List.nodup_nil
  · rw [hq]
    simp [(hidle x).1]
  · rw [(hmode x).1] at hm
    cases hm
  · rw [(hmode x).2] at hm
    cases hm
  · rw [(hidle x).2]
    exact ⟨Nat.zero_le _, fun _ => rfl⟩

theorem State.clearAlloc_grant (s : State) (x : BayNo) : s.clearAlloc.grant x = (s.grant x).cleared := by
  simp [State.clearAlloc, State.grant]

theorem State.clearAlloc_footing (s : State) : s.clearAlloc.footing = s.footing := by
  refine State.footing_eq (fun _ => ?_) (fun _ => ?_) ?_ ?_ ?_ ?_ <;>
    simp only [State.clearAlloc, State.bay, State.packCls, State.pack]

theorem State.Orderly.clearAlloc (h : s.Orderly a D) : s.clearAlloc.Orderly a D ∧ ∀ x, s.clearAlloc.IdleAt x := by
  have hidle : ∀ x, s.clearAlloc.IdleAt x := fun x => by
    rw [State.IdleAt, State.clearAlloc_grant]
    exact ⟨rfl, rfl⟩
  refine ⟨.of_empty hidle (fun l => by simp [State.clearAlloc]) (fun x => by rw [State.clearAlloc_grant]; exact ⟨rfl, rfl⟩)
    (fun ha => ?_) (fun ha x hx => ?_) fun ha => ?_, hidle⟩
  · rw [State.clearAlloc_footing]; exact h.recorded ha
  · rw [State.clearAlloc_footing, State.clearAlloc_grant]; exact h.levels ha x hx
  · rw [State.clearAlloc_footing]; exact h.ranges ha

theorem State.clearLists_ground (s : State) : s.clearLists.ground = s.ground := by
  have hmarks : s.clearMarks.ground = s.ground := by
    refine State.ground_eq rfl (State.footing_eq (fun _ => rfl) (fun g => ?_) rfl rfl rfl rfl)
    simp only [State.packCls, State.pack, State.clearMarks, findPack, List.find?_map, Option.map_map]
    rfl
  simp only [State.clearLists, State.setReservations_ground, State.setIssues_ground]
  exact (State.foldl_ground (fun u g => u.setPlace_ground g .unaccounted) _ _).trans hmarks

/-- CLEAR at a bay of an idle rack (R50). -/
theorem State.Orderly.clearBay (h : s.Orderly a allBays) (hidle : s.IdleAt b) : (s.clearBay b).Orderly a allBays := by
  unfold State.clearBay
  split
  · have hclosed := s.modBay_ground b (f := fun y => { y with session := none }) rfl
    exact (h.quiet hclosed).reidentify (fun _ => .inl (mem_allBays b)) fun _ => hidle.of_ground hclosed
  · exact h.quiet (s.redrive_ground b)

theorem State.clearBay_alloc (s : State) (b : BayNo) : (s.clearBay b).alloc = s.alloc := by
  obtain ⟨q, h⟩ := s.clearBay_withBays b
  rw [h]
  rfl

theorem State.Orderly.clearAll (h : s.Orderly a []) : s.clearAll.Orderly a [] := by
  have walk : ∀ (l : List BayNo) (u : State), u.Orderly a allBays → (∀ x, u.IdleAt x) →
      (l.foldl State.clearBay u).Orderly a allBays := by
    intro l
    induction l with
    | nil => exact fun u hu _ => hu
    | cons b l ih =>
      refine fun u hu hidle => ih _ (hu.clearBay (hidle b)) fun x => ?_
      rw [State.IdleAt, State.grant_of_alloc (u.clearBay_alloc b)]
      exact hidle x
  have hcharges : s.clearEdges.clearCharges.Orderly a [] := h.quiet (State.clearCharges_ground _)
  obtain ⟨halloc, hidle⟩ := hcharges.clearAlloc
  have hlists := State.clearLists_ground s.clearEdges.clearCharges.clearAlloc
  have hbase : s.clearEdges.clearCharges.clearAlloc.clearLists.clearFaults.ground =
      s.clearEdges.clearCharges.clearAlloc.ground := (State.clearFaults_ground _).trans hlists
  have hbays := walk allBays _ ((halloc.quiet hbase).owing (List.nil_subset _)) fun x => (hidle x).of_ground hbase
  have hlevels := State.Orderly.relevels (D := []) (l := allBays) (hbays.owing (List.subset_append_left ..))
  exact (State.Orderly.pass hlevels.uncapped).closeEvent allClasses

end

end Sys2Proof.Machine
end

section
/-! SUPPORT. Every taken command keeps a rack in order (Table 9-4). -/

namespace Sys2Proof.Machine

/-- A rack in order stays in order, where its bays hold what their states allow and the registered packs' records name
them. -/
def State.KeepsOrder (a : Aims) (s t : State) : Prop :=
  (a.strict → s.BaysOk ∧ s.IdentitiesPlaced) → s.Orderly a [] → t.Orderly a []

section
variable {s t : State} {a : Aims} {b : BayNo}

theorem State.KeepsOrder.of_ground (h : t.ground = s.ground) : s.KeepsOrder a t := fun _ ho => ho.quiet h

theorem State.KeepsOrder.refl (s : State) : s.KeepsOrder a s := .of_ground rfl

/-- What follows is quiet. -/
theorem State.KeepsOrder.quiet {u : State} (h : s.KeepsOrder a t) (hu : u.ground = t.ground) : s.KeepsOrder a u :=
  fun hs ho => (h hs ho).quiet hu

theorem State.KeepsOrder.ite (h : s.KeepsOrder a t) (p : Prop) [Decidable p] :
    s.KeepsOrder a (if p then t else s) := by
  split
  · exact h
  · exact .refl s

/-- An operation whose proof takes that every seat of the rack is right. -/
theorem State.KeepsOrder.of_right (h : (a.strict → ∀ x, (s.seat x).Right) → s.Orderly a [] → t.Orderly a []) :
    s.KeepsOrder a t := fun hs ho => h (fun ha => (State.baysOk_iff s).1 (hs ha).1) ho

/-! ## Settings -/

/-- SET SITE at the allocator: a pass follows another effective cap (R93). -/
theorem State.Orderly.applySiteCap (h : s.Orderly a []) (v : SiteSettings) : (s.applySiteCap v).Orderly a [] := by
  simp only [State.applySiteCap]
  split
  · next hcap => exact h.recap rfl rfl rfl fun _ => ⟨hcap, rfl⟩
  · refine State.Orderly.pass ?_
    exact h.uncapped.recap rfl rfl rfl False.elim

theorem State.Orderly.applyLookahead (h : s.Orderly a []) (v : SiteSettings) : (s.applyLookahead v).Orderly a [] := by
  have hset : State.Orderly { s with disp := { s.disp with lookahead := v.lookahead, window := v.window } } a [] :=
    h.quiet rfl
  simp only [State.applyLookahead]
  split
  · exact hset
  · exact hset.computeAllShort

/-- SET FEEDER: a pass follows another feeder cap (R93). -/
theorem State.Orderly.applyFeederCap (h : s.Orderly a []) (f : FeederNo) (v : Nat) :
    (if v = s.feederCap f then (s.setFeederCap f v).write (.feederCap f v)
      else ((s.setFeederCap f v).write (.feederCap f v)).pass).Orderly a [] := by
  have hwrite := (s.setFeederCap f v).write_ground (w := .feederCap f v) rfl
  split
  · next hv =>
    have hkept : (s.alloc.feederCaps.set f v) = s.alloc.feederCaps := by
      rw [hv]
      exact Vector.set_getElem_self ..
    have hset : (s.setFeederCap f v).Orderly a [] := h.recap rfl rfl rfl fun _ => ⟨rfl, hkept⟩
    exact hset.quiet hwrite
  · have hset : (s.setFeederCap f v).Orderly a.uncapped [] := h.uncapped.recap rfl rfl rfl False.elim
    exact (hset.quiet hwrite).pass

/-- A running shed replaced, with its pass (R94, R95). -/
theorem State.Orderly.setShed (h : s.Orderly a []) (v : Option ShedRec) : (s.setShed v).pass.Orderly a [] :=
  (h.uncapped.recap rfl rfl rfl False.elim : (s.setShed v).Orderly a.uncapped []).pass

theorem State.Orderly.applyShed (h : s.Orderly a []) (cap d : Nat) : (s.applyShed cap d).Orderly a [] := by
  unfold State.applyShed
  split
  · exact h.setShed _
  · split
    · exact h.setShed _
    · exact h

/-! ## Bays and issues -/

theorem State.Orderly.startBay (h : s.Orderly a []) (ha : a.floors → a.caps) (hr : a.strict → (s.seat b).Right)
    (hst : (s.bay b).state = .standby) : ((s.startByCharge b false false).handAllReady).Orderly a [] :=
  State.Orderly.handAllReady
    (h.startSession (fun _ => by rw [hst]; decide) (h.spares_of_right ha hr) (s.knownAt b) false false)

theorem State.Orderly.clearFaultAt (h : s.Orderly a []) (ha : a.floors → a.caps) (hr : a.strict → (s.seat b).Right)
    (hst : (s.bay b).state = .fault) : (s.clearFaultAt b).Orderly a [] :=
  State.Orderly.reidentify (h.quiet (s.setFault_ground b none)) (fun _ => .inr (by
      rw [show ((s.setFault b none).bay b).state = (s.bay b).state from rfl, hst]
      decide))
    fun hf => (h.idle_of_right ha hr (by rw [Bay.unpowered, hst]; decide) hf).of_ground (s.setFault_ground b none)

theorem State.Orderly.issueClass (h : s.Orderly a []) (m : Nat) (c : ClassNo) :
    (s.issueClass m c ((s.selection c).filterMap PackRec.pick?)).Orderly a [] := by
  have hmade := h.makeIssue m (some c) (ps := (s.selection c).filterMap PackRec.pick?) fun p hp =>
    State.selection_pick_state hp
  exact State.Orderly.closeEvent (hmade.quiet (State.setReservations_ground _ _)) [c]

theorem State.pickBay_bay (s : State) (b : BayNo) : (s.pickBay b).bay = b := by
  unfold State.pickBay
  split <;> rfl

theorem State.Orderly.issueBays (h : s.Orderly a []) (m : Nat) {bs : List BayNo}
    (hbs : ∀ b ∈ bs, s.issuable b = true) : ((s.makeIssue m none (bs.map s.pickBay)).closeEvent []).Orderly a [] := by
  refine State.Orderly.closeEvent (h.makeIssue m none fun p hp => ?_) []
  obtain ⟨b, hb, rfl⟩ := List.mem_map.1 hp
  rw [s.pickBay_bay b]
  exact of_decide_eq_true (hbs b hb)

/-! ## Every command -/

/-- What the owner of any command does keeps a rack in order. -/
theorem ownerOf_keepsOrder (ha : a.floors → a.caps) {c : Instr} {f : State → Answer} (hf : ownerOf c = some f) (s : State) :
    (f s).Leaves (s.KeepsOrder a) := by
  have still : ∀ {t : State} {cs : List Byte}, t.ground = s.ground → (Answer.taken t cs).Leaves (s.KeepsOrder a) :=
    fun h => .of_ground h
  have right : ∀ {t : State} {cs : List Byte},
      ((a.strict → ∀ x, (s.seat x).Right) → s.Orderly a [] → t.Orderly a []) →
      (Answer.taken t cs).Leaves (s.KeepsOrder a) := fun h => .of_right h
  have plain : ∀ {t : State} {cs : List Byte}, (s.Orderly a [] → t.Orderly a []) →
      (Answer.taken t cs).Leaves (s.KeepsOrder a) := fun h _ => h
  cases c <;> simp only [ownerOf, Option.some.injEq, reduceCtorEq] at hf <;> subst hf
  case setSite x =>
    unfold takeSetSite
    split
    · trivial
    · next v _ =>
      exact plain fun h => State.Orderly.quiet
        (((h.quiet (s.write_ground rfl)).applySiteCap v).applyLookahead v) (State.applyScanInterval_ground _ v)
  case setFeeder f n =>
    simp only [takeSetFeeder]
    split
    · trivial
    · exact plain fun h => h.applyFeederCap _ _
  case setClass c x =>
    unfold takeSetClass
    split
    · trivial
    · split
      · trivial
      · next hr =>
        split
        · trivial
        · next hbusy =>
          exact fun hs h => h.applyClass ha (fun hb => (hs hb).1) (by simpa using hbusy) fun _ => readClass_floor hr
  case setOcv c x =>
    unfold takeSetOcv
    split
    · split
      · trivial
      · next k _ _ _ _ r hr =>
        split
        · trivial
        · next hbusy =>
          refine fun hs h => h.setClassRec ha (fun hb => (hs hb).1) (by simpa using hbusy) fun hf => ?_
          have hin := ((h.ranges hf).1 k).1
          change floorInRange (s.classRec k) = true at hin
          rw [hr] at hin
          exact hin
    · trivial
  case setProfile p x =>
    unfold takeSetProfile
    split
    · split
      · trivial
      · exact still (s.setHeader_ground _ _)
    · trivial
  case setStage p k x =>
    unfold takeSetStage
    split
    · split
      · trivial
      · exact still ((State.drawn_ground _).trans (s.setStageRec_ground _ _ _))
    · trivial
  case setBay n x =>
    unfold takeSetBay
    split
    · split
      · trivial
      · next hno => exact right fun hr h => h.applyCfg (h.spares_of_right ha fun hs => hr hs _) hno
    · trivial
  case maskBay n =>
    unfold takeMaskBay
    split
    · trivial
    · split
      · trivial
      · next b _ _ =>
        refine right fun hr h => ?_
        have hground := State.setCfg_ground (s := s) (b := b) (cfg := { (s.bay b).cfg with masked := true }) rfl rfl
        refine State.Orderly.maskOut ((h.quiet hground).owe b) fun hf hn => ?_
        rw [s.setCfg_session] at hn
        exact (h.spares_of_right ha (fun hs => hr hs b) hf hn).of_ground hground
  case unmaskBay n =>
    unfold takeUnmaskBay
    split
    · trivial
    · split
      · trivial
      · next b _ hm =>
        exact plain fun h => State.Orderly.maskIn (h.quiet (State.setCfg_ground rfl rfl))
          ((s.setCfg_state b _).trans (not_not.1 hm))
  case stopBay n =>
    unfold takeStopBay
    split
    · trivial
    · split
      · trivial
      · exact plain fun h => h.stopAt _ _
  case startBay n =>
    unfold takeStartBay
    split
    · trivial
    · split
      · trivial
      · next hst => exact right fun hr h => h.startBay ha (fun hs => hr hs _) (not_not.1 fun hne => hst (.inl hne))
  case clearFault n =>
    unfold takeClearFault
    split
    · trivial
    · split
      · next hst _ =>
        split
        · trivial
        · exact right fun hr h => h.clearFaultAt ha (fun hs => hr hs _) hst
      · trivial
  case issueClass m c =>
    unfold takeIssueClass
    split
    · split
      · trivial
      · split
        · trivial
        · split
          · trivial
          · exact plain fun h => State.Orderly.quiet (h.issueClass m _) (State.drawn_ground _)
    · trivial
  case issueBay m b b' =>
    unfold takeIssueBay
    split
    · split
      · trivial
      · split
        · trivial
        · split
          · trivial
          · next hall =>
            split
            · trivial
            · exact plain fun h => h.issueBays m fun b hb => List.all_eq_true.1 (by simpa using hall) b hb
    · trivial
  case confirm m =>
    unfold takeConfirm
    split
    · trivial
    · split
      · trivial
      · split
        · trivial
        · exact still (s.confirmIssue_ground _)
  case confirmNext =>
    unfold takeConfirmNext
    split
    · trivial
    · exact still (s.confirmIssue_ground _)
  case cancelIssue m =>
    unfold takeCancelIssue
    split
    · trivial
    · split
      · trivial
      · exact fun hs h => (h.endIssue ha (fun hb => (hs hb).1) _).closeEvent []
  case reserve c m d =>
    unfold takeReserve
    split
    · trivial
    · split
      · trivial
      · split
        · trivial
        · split
          · trivial
          · exact plain fun h => (h.quiet (s.setReservations_ground _)).computeShort _
  case dropReservations c =>
    unfold takeDropReservations
    split
    · trivial
    · exact plain fun h => (h.quiet (s.setReservations_ground _)).computeShort _
  case shed c d => exact plain fun h => h.applyShed _ _
  case registerPack g c m =>
    unfold takeRegisterPack
    split
    · split
      · trivial
      · split
        · trivial
        · next hnone =>
          split
          · trivial
          · split
            · trivial
            · exact plain fun h => h.addPack (r := PackRec.fresh g _ _) (Option.not_isSome_iff_eq_none.1 hnone)
    · trivial
  case removePack g =>
    unfold takeRemovePack
    split
    · trivial
    · split
      · trivial
      · next r hr =>
        split
        · trivial
        · next hplace =>
          have hself : s.pack r.tag = some r := by rw [(mem_of_findPack hr).2]; exact hr
          exact fun hs h => h.deletePack hself (by simp_all) fun hb => (hs hb).2
  case releasePack g =>
    unfold takeReleasePack
    split
    · trivial
    · split
      · trivial
      · split
        · trivial
        · exact plain fun h => State.Orderly.handAllReady
            (h.quiet (s.modPack_savePack_ground g (f := fun p => { p with standing := .serviceable }) fun _ => rfl))
  case assignPack g m =>
    unfold takeAssignPack
    split
    · trivial
    · split
      · trivial
      · split
        · exact still (s.setPlace_ground _ _)
        · trivial
  case readAttention => exact still s.clearEdges_ground
  case setAttentionMask m =>
    unfold takeSetAttentionMask
    split
    · trivial
    · exact still (s.setMask_ground _)
  case clear => exact plain State.Orderly.clearAll
  case readBay n =>
    simp only [takeReadBay]
    split
    · trivial
    · exact still s.drawn_ground
  case readPack g =>
    simp only [takeReadPack]
    split
    · trivial
    · split
      · trivial
      · exact still rfl
  case readClass c =>
    simp only [takeReadClass]
    split
    · trivial
    · exact still rfl
  case readGrants f n =>
    simp only [takeReadGrants]
    split
    · trivial
    · exact still rfl
  case readIssues => exact still rfl
  case readReservations => exact still rfl
  case readFault n =>
    simp only [takeReadFault]
    split
    · trivial
    · exact still rfl

end

end Sys2Proof.Machine
end

section
/-! SUPPORT. Every event and every step keeps a rack in order (R95, R107, R108, R110, R117, R129, R165, R182). -/

namespace Sys2Proof.Machine

section
variable {s t : State} {a : Aims} {D : List BayNo} {b : BayNo}

/-! ## Expiries -/

/-- The startup hold ends with a pass (R110). -/
theorem State.Orderly.endHold (h : s.Orderly a []) : s.endHold.Orderly a [] := by
  refine State.Orderly.pass ?_
  exact h.uncapped.recap rfl rfl rfl False.elim

theorem State.Orderly.nextMinute (h : s.Orderly a []) : s.nextMinute.Orderly a [] := by
  have hminute : State.Orderly { s with minute := s.minute + 1 } a [] := h.quiet rfl
  exact State.Orderly.computeAllShort (hminute.quiet (State.dropOverdue_ground _))

/-- An entry lapses (R129). -/
theorem State.Orderly.lapse (h : s.Orderly a []) (ha : a.floors → a.caps) (hb : a.strict → s.BaysOk) (m : Nat) :
    (s.lapse m).Orderly a [] := by
  unfold State.lapse
  split
  · exact h
  · exact State.Orderly.closeEvent ((h.endIssue ha hb _).quiet (State.raise_ground _ _)) []

/-- A bay that goes to the tail of its queue leaves the queues in agreement (R108). -/
theorem State.QueuesAgree.requeue (h : s.QueuesAgree) (l : LevelNo) (b : BayNo) : (s.requeue l b).QueuesAgree := by
  intro m
  obtain ⟨hnodup, hmem⟩ := h m
  change ((s.requeue l b).queueAt m).Nodup ∧ ∀ x, x ∈ (s.requeue l b).queueAt m ↔ _
  have hperm : ((s.requeue l b).queueAt m).Perm (s.queueAt m) := by
    rw [State.requeue, State.setQueue_queueAt]
    split
    · next hm =>
      rw [hm]
      simpa [State.queueAt] using List.filter_append_perm (fun x => decide (x ≠ b)) (s.queueAt l)
    · exact .refl _
  exact ⟨hperm.nodup_iff.2 hnodup, fun x => hperm.mem_iff.trans (hmem x)⟩

/-- A turn at its end takes the grant and leaves the request (R108). -/
theorem State.Orderly.endTurn (h : s.Orderly a D) (b : BayNo) : (s.modGrant b fun e =>
    { e with granted := 0, turnExpiry := none, yielded := true }).Orderly a.uncapped D := by
  have hgrant := State.modGrant_grant s b
  refine ⟨fun ha => (h.queues ha).modGrant rfl rfl, fun ha x => ?_, False.elim, h.recorded, fun ha x hx => ?_,
    fun ha x => ?_, h.ranges⟩
  · rw [hgrant]
    split
    · exact Grant.turnOk_of_none (h.turns ha b).1 rfl
    · exact h.turns ha x
  · refine Eq.trans ?_ (h.levels ha x hx)
    rw [hgrant]
    split
    · next hx => rw [hx]
    · rfl
  · rw [hgrant]
    split
    · next hx =>
      rw [hx]
      exact ⟨(h.floors ha b).1, .inl rfl⟩
    · exact h.floors ha x

theorem State.Orderly.requeue (h : s.Orderly a.uncapped D) (l : LevelNo) (b : BayNo) :
    (s.requeue l b).Orderly a.uncapped D :=
  ⟨fun ha => (h.queues ha).requeue l b, h.turns, False.elim, h.recorded, h.levels, h.floors, h.ranges⟩

theorem Grant.TurnOk.renewed {e : Grant} (h : e.TurnOk) : e.renewed.TurnOk :=
  ⟨h.1, fun he => h.2 (by simpa [Grant.renewed] using he)⟩

/-- A turn expires (R108). -/
theorem State.Orderly.expireTurn (h : s.Orderly a []) (b : BayNo) : (s.expireTurn b).Orderly a [] := by
  unfold State.expireTurn
  split
  · simp only [State.releaseTurn]
    exact State.Orderly.pass (((h.endTurn b).requeue _ b).quiet (State.redrive_ground _ b))
  · exact h.modGrant rfl rfl rfl Grant.TurnOk.renewed

/-! ## Reports and misses -/

theorem State.Orderly.deliver (h : s.Orderly a []) (ha : a.floors → a.caps) (hr : a.strict → (s.seat b).Right)
    (rep : Report) : (s.deliver b rep).Orderly a [] := by
  simp only [State.deliver]
  have hcredit : ((s.modLine b fun x =>
      { x with misses := 0, lostExpiry := none, answeredOn := (s.line b).sent.drive.on }).setCarried b
        (s.line b).sent.units).Orderly a [] := State.Orderly.setCarried (h.quiet (s.modLine_ground b _)) b _
  split
  · exact hcredit
  · refine hcredit.goodReportAt ha (fun hs => ?_) rep _ _
    rw [State.setCarried_seat, State.modLine_seat]
    exact hr hs

theorem State.Orderly.raiseFault (h : s.Orderly a []) (ha : a.floors → a.caps) (hr : a.strict → (s.seat b).Right)
    (k : FaultKind) : (s.raiseFault b k).Orderly a [] := by
  unfold State.raiseFault
  split
  · exact h.quiet (s.joinFault_ground b k)
  · exact (h.owe b).latch (h.spares_of_right ha hr) _ _ _ _ _

theorem State.Orderly.missSlot (h : s.Orderly a []) (ha : a.floors → a.caps) (hr : a.strict → (s.seat b).Right) :
    (s.missSlot b).Orderly a [] := by
  have hend : s.endSlot.Orderly a [] := h.quiet s.endSlot_ground
  have hseat : a.strict → (s.endSlot.seat b).Right := fun hs => by rw [s.endSlot_seat b]; exact hr hs
  unfold State.missSlot State.miss
  dsimp only
  split
  · exact hend
  · have hcount := hend.quiet (s.endSlot.modLine_ground b fun x =>
      { x with misses := min 3 ((s.endSlot.line b).misses + 1) })
    split
    · exact hcount.raiseFault ha (fun hs => by rw [State.modLine_seat]; exact hseat hs) _
    · exact hcount

theorem State.Orderly.answerSlot (h : s.Orderly a []) (ha : a.floors → a.caps) (hr : a.strict → (s.seat b).Right)
    (bytes : List Byte) : (s.answerSlot b bytes).Orderly a [] := by
  unfold State.answerSlot
  split
  · exact State.Orderly.deliver (h.quiet s.endSlot_ground) ha (fun hs => by rw [s.endSlot_seat b]; exact hr hs) _
  · exact h.missSlot ha hr

/-! ## Every event -/

/-- Every event of the running part keeps a rack in order. -/
theorem eventOf_keepsOrder (ha : a.floors → a.caps) {c : Instr} {f : State → State} (hf : eventOf c = some f)
    (hframe : ∀ k b x, c ≠ .frameComplete k b x) (s : State) : s.KeepsOrder a (f s) := by
  have plain : ∀ {u : State}, (s.Orderly a [] → u.Orderly a []) → s.KeepsOrder a u := fun h _ => h
  have still : ∀ {u : State}, u.ground = s.ground → s.KeepsOrder a u := .of_ground
  have miss : ∀ b, s.KeepsOrder a (s.missSlot b) := fun b => .of_right fun hr h => h.missSlot ha fun hs => hr hs b
  cases c <;> simp only [eventOf, Option.some.injEq, reduceCtorEq] at hf <;> subst hf
  case startupHoldEnd => exact (plain State.Orderly.endHold).ite _
  case depotMinuteAdvance => exact (plain State.Orderly.nextMinute).ite _
  case reservationGraceExpiry =>
    exact (plain fun h => State.Orderly.computeAllShort (h.quiet s.dropOverdue_ground)).ite _
  case issueLapse m => exact fun hs h => h.lapse ha (fun hb => (hs hb).1) m
  case turnExpiry b => exact (plain fun h => h.expireTurn b).ite _
  case shedExpiry => exact (plain fun h => h.setShed none).ite _
  case coolExpiry b =>
    dsimp only
    split
    · next hdue =>
      have hst : (s.bay b).state = .cooling := by
        simp only [State.coolDue, Bool.and_eq_true, decide_eq_true_eq] at hdue
        exact hdue.1
      exact .of_right fun hr h => State.Orderly.handAllReady (h.coolEnds ha (fun hs => hr hs b) hst)
    · exact .refl s
  case lostStageExpiry b =>
    exact (plain fun h => State.Orderly.setCarried (h.quiet (s.modLine_ground b _)) b 0).ite _
  case roundStart => exact (still s.beginRound_ground).ite _
  case regularPoll =>
    unfold State.pollRegular
    split
    · exact still ((State.sendPoll_ground _ _ _).trans (s.walkPast_ground _))
    · exact .refl s
  case promptPoll =>
    unfold State.pollPrompt
    split
    · exact still (s.sendPoll_ground _ _)
    · exact .refl s
  case reportReceived bytes =>
    simp only [State.receive]
    split
    · exact .of_right fun hr h => h.answerSlot ha (fun hs => hr hs _) _
    · exact .refl s
  case pollSlotTimeout =>
    unfold State.timeoutSlot
    split
    · exact miss _
    · exact .refl s
  case thirdConsecutiveMiss =>
    unfold State.timeoutThird
    split
    · exact (miss _).ite _
    · exact .refl s
  case frameComplete k b x => exact absurd rfl (hframe k b x)
  case frameDiscardedBusy => exact (still s.discardFrame_ground).ite _
  case byteGapTimeout => exact (still (s.setReceiver_ground _)).ite _
  case lengthOutOfRange l => exact (still (s.setReceiver_ground _)).ite _
  case replySent => exact still rfl
  case startMarkerReceived => exact (still (s.setReceiver_ground _)).ite _

end

end Sys2Proof.Machine
end

section
/-! SUPPORT. The rows of the supply, the RESET pin and the restore, and every step, keep a rack in order (R22, R28, R177,
R182, R184); and the statement about grants, levels and floors. -/

namespace Sys2Proof.Machine

section
variable {s t : State} {a : Aims} {b : BayNo}

/-! ## Power rows -/

/-- Bays and allocator at their power-on values are in order (R28, R96). -/
theorem State.Orderly.of_boot {img : Store} (halloc : t.alloc = (State.bootFrom img).alloc)
    (hbays : t.bays = (State.bootFrom img).bays) (hrange : a.floors → t.footing.InRange) : t.Orderly a [] := by
  have hgrant : ∀ x, t.grant x = Grant.boot img.bayCfgs[x] := fun x => by
    rw [State.grant, halloc]
    simp [State.bootFrom]
  have hbay : ∀ x, t.bay x = Bay.boot img.bayCfgs[x] := fun x => by
    rw [State.bay, hbays]
    simp [State.bootFrom]
  have hstance : ∀ x, t.footing.stances x = (Bay.boot img.bayCfgs[x]).stance := fun x => congrArg Bay.stance (hbay x)
  refine .of_empty (fun x => ?_) (fun l => ?_) (fun x => ?_) (fun _ x g hg => ?_) (fun _ x _ => ?_) hrange
  · rw [State.IdleAt, hgrant]
    exact ⟨rfl, rfl⟩
  · rw [halloc]
    simp [State.bootFrom]
  · rw [hgrant]
    exact ⟨rfl, rfl⟩
  · rw [hstance] at hg
    cases hg
  · have hstate : (t.footing.stances x).state ≠ .charge := by
      rw [hstance]
      change (if img.bayCfgs[x].masked then BayState.masked else .vacant) ≠ _
      split <;> decide
    rw [hgrant, Footing.levelOf_of_idle hstate, hstance]
    rfl

/-- A store's floors after the first of the writes on their way (R21, R184). -/
theorem State.stored_cutWrites (h : s.footing.InRange) (n : Nat) (c : ClassNo) :
    floorInRange (s.cutWrites n).store.classes[c] = true :=
  Store.applyAll_inRange (fun k => (h.1 k).2) (fun _ hw r => h.write (List.mem_of_mem_take hw) r) c

/-- A blank part whose store's floors are within Table 1-1 is in order. -/
theorem State.Orderly.blank (hstored : a.floors → ∀ c : ClassNo, floorInRange s.store.classes[c] = true) :
    s.blank.Orderly a [] :=
  .of_boot (img := Store.delivery) rfl rfl fun hf =>
    ⟨fun c => ⟨by simp [State.footing, State.blank, State.bootFrom, Store.delivery, floorInRange], hstored hf c⟩,
      fun r hr => by simp [State.footing, State.blank, State.bootFrom] at hr⟩

theorem Store.restoreWrites_classRec (img : Store) : img.restoreWrites.filterMap StoreWrite.classRec? = [] := by
  simp [Store.restoreWrites, List.filterMap_append, List.filterMap_map, Function.comp_def, StoreWrite.classRec?]

/-- A restored part is in order (R22). -/
theorem State.Orderly.restored (hstored : a.floors → ∀ c : ClassNo, floorInRange s.store.classes[c] = true) :
    s.restored.Orderly a [] :=
  .of_boot (img := s.store) rfl rfl fun hf => ⟨fun c => ⟨hstored hf c, hstored hf c⟩, fun r hr => by
    have hw : s.restored.footing.written = [] := s.store.restoreWrites_classRec
    rw [hw] at hr
    cases hr⟩

theorem exec_power_orderly {c : Instr} (hp : powerRow c = true) (h : exec c s = .next t) (ho : s.Orderly a []) :
    t.Orderly a [] := by
  have hsettled := ho.settle
  have hcut : ∀ n, (s.cutWrites n).blank.Orderly a [] := fun n =>
    .blank fun hf => State.stored_cutWrites (ho.ranges hf) n
  cases c with
  | powerOn =>
    cases h
    unfold State.powerOn
    split
    · exact hsettled
    · exact State.Orderly.quiet (.blank (s := s) fun hf c => ((ho.ranges hf).1 c).2) rfl
  | powerLoss n =>
    cases h
    unfold State.powerLoss
    split
    · exact (hcut n).quiet rfl
    · exact ho
  | resetPinAssert n =>
    cases h
    unfold State.resetAssert
    split
    · exact hsettled
    · split
      · exact (hcut n).quiet rfl
      · exact ho.quiet rfl
  | resetPinRelease =>
    cases h
    exact hsettled.quiet rfl
  | restoreEnd =>
    cases h
    unfold State.endRestore
    split
    · have hback : s.settle.restored.Orderly a [] := .restored fun hf c => ((hsettled.ranges hf).1 c).2
      exact State.Orderly.computeAllShort (hback.quiet (State.checkRound_ground _))
    · exact hsettled
  | _ => cases hp

/-! ## Every step -/

theorem State.answers_quiet : (∀ s t : State, ∀ k st cs, s.KeepsOrder a t → s.KeepsOrder a (t.reply k st cs)) ∧
    (∀ (s : State) r, s.KeepsOrder a (s.setReceiver r)) ∧ ∀ s : State, s.KeepsOrder a s.discardFrame :=
  ⟨fun _ t _ _ _ h => h.quiet (t.reply_ground _ _ _), fun s r => .of_ground (s.setReceiver_ground r),
    fun s => .of_ground s.discardFrame_ground⟩

/-- Every row keeps a rack in order. -/
theorem exec_keepsOrder (ha : a.floors → a.caps) {c : Instr} (h : exec c s = .next t) : s.KeepsOrder a t := by
  by_cases hp : powerRow c = true
  · exact fun _ => exec_power_orderly hp h
  · have hp : powerRow c = false := by simpa using hp
    cases hr : s.running
    · rw [exec_of_not_running hp hr] at h
      cases h
      exact fun _ => State.Orderly.settle
    · obtain ⟨hreply, hreceiver, hdiscard⟩ := State.answers_quiet (a := a)
      obtain ⟨u, hu, he⟩ := exec_running (R := State.KeepsOrder a) State.KeepsOrder.refl hreply hreceiver hdiscard
        (fun _ _ hf s => ownerOf_keepsOrder ha hf s) (fun _ _ hf hframe s => eventOf_keepsOrder ha hf hframe s) hp hr
      obtain rfl : u = t := by rw [h] at hu; cases hu; rfl
      exact fun hs ho => he hs ho.settle

/-- Every step keeps a rack in order. -/
theorem step_keepsOrder (ha : a.floors → a.caps) (h : step s = .next t) : s.KeepsOrder a t := by
  unfold step at h
  split at h
  · cases h
    unfold State.tick
    split
    · exact .refl s
    · split
      · exact fun _ ho => State.Orderly.quiet ho.settle rfl
      · exact .of_ground rfl
  · next cs _ =>
    exact fun hs ho => exec_keepsOrder ha h hs (ho.quiet rfl)

end

end Sys2Proof.Machine
end

section
/-! SUPPORT. What a request and a level do to the level queues (R98), and the statement about grants, levels and floors. -/

namespace Sys2Proof.Machine

section
variable {s t : State}

/-! ## The level queues -/

/-- A bay that does not request at a level is not in its queue. -/
theorem State.QueuesAgree.filter_queueAt (h : s.QueuesAgree) {b : BayNo} {l : LevelNo}
    (hb : (s.grant b).level = l → (s.grant b).request = 0) :
    (s.queueAt l).filter (fun x => decide (x ≠ b)) = s.queueAt l :=
  List.filter_eq_self.2 fun x hx => decide_eq_true fun hxb => by
    obtain ⟨hl, hr⟩ := ((h l).2 b).1 (hxb ▸ hx : b ∈ s.queueAt l)
    exact hr (hb hl)

/-- A request of 0 takes a bay out of its queue; one that rises from 0 puts it at the tail (R98). -/
theorem State.QueuesAgree.queueAfter_eq (h : s.QueuesAgree) (b : BayNo) (l : LevelNo) (r : Nat) :
    queueAfter (s.queueAt l) b (l = (s.grant b).level) (s.grant b).request r =
      if l = (s.grant b).level ∧ (s.grant b).request = 0 ∧ r ≠ 0 then s.queueAt l ++ [b]
      else if l = (s.grant b).level ∧ r = 0 then (s.queueAt l).filter fun x => decide (x ≠ b) else s.queueAt l := by
  unfold queueAfter
  split
  · rfl
  · by_cases hold : (s.grant b).request = 0
    · have hstay : ¬(l = (s.grant b).level ∧ (s.grant b).request ≠ 0 ∧ r = 0) := fun ⟨_, hne, _⟩ => hne hold
      rw [if_neg hstay]
      split
      · exact (h.filter_queueAt fun _ => hold).symm
      · rfl
    · simp only [hold, ne_eq, not_false_eq_true, true_and]

theorem State.QueuesAgree.releaseRequest_queueAt (h : s.QueuesAgree) (b : BayNo) (l : LevelNo) :
    (s.releaseRequest b).queueAt l =
      if l = (s.grant b).level then (s.queueAt l).filter fun x => decide (x ≠ b) else s.queueAt l := by
  rw [State.releaseRequest, State.pass_queueAt, State.enterRequest_queueAt, h.queueAfter_eq]
  simp

/-- A level that changes takes a bay with a request to the tail of its new queue (R96, R98). -/
theorem State.QueuesAgree.relevel_queueAt (h : s.QueuesAgree) (b : BayNo) (l : LevelNo) :
    (s.relevel b).queueAt l =
      if s.levelOf b = (s.grant b).level ∨ (s.grant b).request = 0 then s.queueAt l
      else if l = s.levelOf b then s.queueAt l ++ [b]
      else if l = (s.grant b).level then (s.queueAt l).filter fun x => decide (x ≠ b) else s.queueAt l := by
  unfold State.relevel
  by_cases hsame : s.levelOf b = (s.grant b).level
  · rw [if_pos hsame, if_pos (.inl hsame)]
  · rw [if_neg hsame, State.pass_queueAt]
    by_cases hr : (s.grant b).request = 0
    · rw [if_pos (.inr hr), State.enterLevel_queueAt_of_zero hr]
    · rw [if_neg (not_or.2 ⟨hsame, hr⟩), State.enterLevel_queueAt h hr]
      have hout : l ≠ (s.grant b).level → (s.queueAt l).filter (fun x => decide (x ≠ b)) = s.queueAt l :=
        fun hl => h.filter_queueAt fun hown => absurd hown.symm hl
      by_cases hnew : l = s.levelOf b
      · rw [if_pos hnew, if_pos hnew, hout (hnew ▸ hsame)]
      · rw [if_neg hnew, if_neg hnew, List.append_nil]
        split
        · rfl
        · next hl => exact hout hl

/-! ## The three aims -/

/-- Queues, turns and caps alone. -/
def Aims.grantTable : Aims := ⟨True, True, False, False, id, False.elim⟩

/-- The levels alone. -/
def Aims.levelling : Aims := ⟨False, False, True, False, id, id⟩

/-- The floors, with the table on which they rest. -/
def Aims.flooring : Aims := ⟨True, True, False, True, id, id⟩

theorem Aims.grantTable_not_strict : ¬ Aims.grantTable.strict := fun h => h.elim id id

theorem State.orderly_grantTable_iff : s.Orderly .grantTable [] ↔ s.GrantTableOk :=
  ⟨fun h => ⟨h.queues trivial, h.lawful trivial, h.turns trivial⟩, fun ⟨hq, hl, ht⟩ =>
    ⟨fun _ => hq, fun _ => ht, fun _ => hl, fun h => absurd h Aims.grantTable_not_strict, False.elim, False.elim,
      False.elim⟩⟩

theorem State.levelsOk_of_orderly (h : s.Orderly .levelling []) : s.LevelsOk := fun b => by
  rw [State.levelOf_eq]
  exact h.levels trivial b (List.not_mem_nil)

theorem State.LevelsOk.orderly (h : s.LevelsOk) (hp : s.IdentitiesPlaced) : s.Orderly .levelling [] :=
  ⟨False.elim, False.elim, False.elim, fun _ => State.recorded_of_placed hp,
    fun _ b _ => (h b).trans (State.levelOf_eq b), False.elim, False.elim⟩

theorem State.floorsOk_of_orderly (h : s.Orderly .flooring []) : s.FloorsOk :=
  State.floorsOk_iff.2 ⟨h.floors trivial, h.ranges trivial⟩

theorem State.FloorsOk.orderly (h : s.FloorsOk) (hg : s.GrantTableOk) (hp : s.IdentitiesPlaced) :
    s.Orderly .flooring [] := by
  obtain ⟨hmet, hrange⟩ := State.floorsOk_iff.1 h
  obtain ⟨hq, hl, ht⟩ := hg
  exact ⟨fun _ => hq, fun _ => ht, fun _ => hl, fun _ => State.recorded_of_placed hp, False.elim, fun _ => hmet,
    fun _ => hrange⟩

end

/-- Settles O55: each row takes a rack in order to one in order, for the table alone, for the levels, and for the floors;
and the queues change with a request and with a level as R98 says. -/
theorem stepKeepsGrantsLawful : Obligations.StepKeepsGrantsLawful := by
  refine ⟨fun s t h => ⟨fun hg => ?_, fun hb hp hl => ?_, fun hg hb hp hf => ?_⟩, fun s b hq => ⟨fun r l => ?_, fun l => ?_,
    fun l => ?_⟩⟩
  · exact State.orderly_grantTable_iff.1 (step_keepsOrder False.elim h
      (fun hs => absurd hs Aims.grantTable_not_strict) (State.orderly_grantTable_iff.2 hg))
  · exact State.levelsOk_of_orderly (step_keepsOrder False.elim h (fun _ => ⟨hb, hp⟩) (hl.orderly hp))
  · exact State.floorsOk_of_orderly (step_keepsOrder (fun _ => trivial) h (fun _ => ⟨hb, hp⟩) (hf.orderly hg hp))
  · exact (State.handRequest_queueAt r l).trans (hq.queueAfter_eq b l r)
  · exact hq.releaseRequest_queueAt b l
  · exact hq.relevel_queueAt b l

end Sys2Proof.Machine
end
